-- ==== Sys2Proof/Word.lean ====
section
/-! DEFINITION. The words the TG640 manual treats as bits: bytes of the line, line-clock values, cup sets. -/

namespace Sys2Proof

/-- A byte of the line link (R138). -/
abbrev Byte := BitVec 8

/-- A line-clock value: a 32-bit count of milliseconds that wraps (R1). Also the entry stamps of R70. -/
abbrev Clock := BitVec 32

/-- A set of suction cups, cup `c` at bit `c` (section 11.2). -/
abbrev Cups := BitVec 32

end Sys2Proof
end

