-- ==== Sys2Proof/Syntax.lean ====
section
/-! DEFINITION. The commands of the TG640: one constructor of `Instr` for each row of spec/opcode_table.json.

The part is a block, not a processor: a row is one whole, indivisible step that the outside world or one of the
part's own units brings about (a frame arriving, an expiry falling due, a transmitter selecting a frame, a request
being carried out, a pin changing). -/

namespace Sys2Proof

/-- The two line ports: U faces the cell controller, D the chain of nodes. -/
inductive Port where
  | u
  | d
  deriving DecidableEq, Repr

/-- The three GRIP forms (R89). -/
inductive GripForm where
  | all
  | low
  | high
  deriving DecidableEq, Repr

/-- The three management request kinds (R144). -/
inductive MgKind where
  | write
  | read
  | command
  deriving DecidableEq, Repr

/-- What ends a stray run (R139): an idle gap, or a start marker, which begins a frame at once. -/
inductive StrayEnd where
  | gap
  | marker
  deriving DecidableEq, Repr

/-- The two blinking lamp patterns (R173). -/
inductive Blink where
  | blink1
  | blink2
  deriving DecidableEq, Repr

/-- A role of the Node Map (R143), nineteen in range. It also names the node or saw whose arrival time is recorded. -/
inductive Role where
  | controller
  | xDrive (k : Nat)
  | zDrive (k : Nat)
  | head (k : Nat)
  | saw (j : Nat)
  deriving DecidableEq, Repr

/-- The commands. A frame row carries the received header bytes and payload; the kind is the row's own unless an
operand gives it. A management row carries the source and sequence of the request and its operands (the index and the
record bytes of a write, as they stand in the frame from offset 1). -/
inductive Instr where
  | powerOnReset (straps : BitVec 6) (lrstN estopN : Bool)
  | lrstNAssertion
  | estopAssertion
  | estopRelease
  | strayRun (p : Port) (ending : StrayEnd)
  | frameDropped (p : Port) (collected : List Byte)
  | move (dst src seq : Byte) (payload : List Byte)
  | grip (form : GripForm) (dst src seq : Byte) (payload : List Byte)
  | stop (dst src seq : Byte) (payload : List Byte)
  | param (kind dst src seq : Byte) (payload : List Byte)
  | mgRequest (kind : MgKind) (dst src seq : Byte) (payload : List Byte)
  | state (dst src seq : Byte) (payload : List Byte)
  | senseHead (dst src seq : Byte) (payload : List Byte)
  | senseSaw (dst src seq : Byte) (payload : List Byte)
  | upstreamForward (kind dst src seq : Byte) (payload : List Byte)
  | staleExpiry (k : Nat)
  | lostExpiry (k : Nat)
  | holdTimeout (k : Nat)
  | gripDeadline (k : Nat)
  | releaseDeadline (k : Nat)
  | arrivalTimeAbsent (of : Role)
  | waitingForRoom
  | stopSend
  | dForwardSend
  | frameSent (p : Port)
  | uForwardSend
  | mgReply
  | notice
  | setMembership (src seq carriage membership : Byte)
  | halt (src seq carriage : Byte)
  | resume (src seq carriage : Byte)
  | clearFaults (src seq carriage : Byte)
  | fenceOn (src seq fence : Byte)
  | fenceOff (src seq fence : Byte)
  | bayRestock (src seq bay : Byte)
  | retire (src seq saw : Byte) (sequence : BitVec 16)
  | requeue (src seq saw : Byte) (sequence : BitVec 16)
  | lineReset (src seq : Byte)
  | nodeMapWrite (src seq index : Byte) (record : List Byte)
  | railWrite (src seq index : Byte) (record : List Byte)
  | carriageWrite (src seq index : Byte) (record : List Byte)
  | headWrite (src seq index : Byte) (record : List Byte)
  | cupLayoutWrite (src seq index : Byte) (record : List Byte)
  | sawWrite (src seq index : Byte) (record : List Byte)
  | bayWrite (src seq index : Byte) (record : List Byte)
  | queueWrite (src seq index : Byte) (record : List Byte)
  | fenceWrite (src seq index : Byte) (record : List Byte)
  | lampWrite (src seq index : Byte) (record : List Byte)
  | partStatusRead (src seq index : Byte)
  | countersRead (src seq index group item clear : Byte)
  | startMarker (p : Port)
  | lrstNRise
  | resetNLow
  | blinkPeriod (pattern : Blink)
  deriving DecidableEq, Repr

end Sys2Proof
end

