-- ==== Sys2Proof/Config.lean ====
section
/-! DEFINITION. The figures the manual fixes for the part, the two values an installation gives it, and the one value
the manual leaves open. -/

namespace Sys2Proof

/-- Longest rail, in pu (R2), and the bound used for rail positions while the rail record is unwritten (R4, R106). -/
def Config.maxRail : Nat := 600000

/-- Where an event counter saturates (R8, R142). -/
def Config.counterMax : Nat := 4294967295

/-- Frames in the D-forward and U-forward queues (R147, R148). -/
def Config.forwardRoom : Nat := 8

/-- Frames in the request and reply queues (R154). -/
def Config.managementRoom : Nat := 4

/-- Notices in the notice queue (R166). -/
def Config.noticeRoom : Nat := 16

/-- Entries in a Feed Queue (R114). -/
def Config.feedRoom : Nat := 32

/-- The broadcast address (R138). -/
def Config.broadcast : Nat := 63

/-- Age at which a recorded arrival time becomes absent (R1). -/
def Config.absentAge : Nat := 2147483648

/-- Lamp time of one line-clock millisecond, in microseconds (R1 and R173 take both from OSC). -/
def Config.microsPerMilli : Nat := 1000

/-- DESIGN CHOICE (log 5, unsafe): the level of the NODE straps in `State.reset`, the address of the manual's own worked
sequences. -/
def Config.resetStraps : BitVec 6 := 20

/-- DESIGN CHOICE (log 5, unsafe): LRST_N and ESTOP_N stand high (released) in `State.reset`. -/
def Config.resetPinHigh : Bool := true

/-- DESIGN CHOICE (log 8, safe): how many reports between blocks one step acts on before it leaves the rest, in order,
to the next step. -/
def Config.reportFuel : Nat := 64

/-- DESIGN CHOICE (log 18, safe): the press depth of R39 while carriage `k`'s head record is unwritten. The manual
states none, so it has no value here; it may depend on the carriage and the time. -/
opaque Config.unwrittenPress : Nat → Clock → Nat

end Sys2Proof
end

