-- ==== Sys2Proof/Machine/Types.lean ====
section
/-! DEFINITION. The records the TG640's blocks hold, as plain data, in the manual's own names. -/

namespace Sys2Proof.Machine

/-- A closed interval of rail `[lo, hi]` in pu (Conventions, Intervals). -/
structure Interval where
  lo : Nat
  hi : Nat
  deriving DecidableEq, Repr

/-- The rail record (R2). -/
structure RailRecord where
  railLength : Nat
  gap : Nat
  n : Nat
  lookahead : Nat
  deriving DecidableEq, Repr

/-- A carriage configuration record (R4). -/
structure CarriageRecord where
  leftExt : Nat
  rightExt : Nat
  travelLo : Nat
  travelHi : Nat
  vmax : Nat
  aStop : Nat
  tReact : Nat
  vStill : Nat
  zClear : Nat
  zMax : Nat
  w : Nat
  l : Nat
  holdTime : Nat
  startHeld : Bool
  park : Option Interval
  deriving DecidableEq, Repr

/-- A head record (R86). -/
structure HeadRecord where
  r : Nat
  minCups : Nat
  minHold : Nat
  gripTime : Nat
  releaseTime : Nat
  press : Nat
  contactTol : Nat
  liftCheck : Nat
  n : Nat
  deriving DecidableEq, Repr

/-- One cup of a cup layout group (R87), offsets in mm. -/
structure Cup where
  dx : Int
  dy : Int
  fitted : Bool
  deriving DecidableEq, Repr

/-- Membership of a carriage (R25). -/
inductive Membership where
  | normal
  | isolated
  | excluded
  | shadow
  deriving DecidableEq, Repr

/-- Run state of a carriage (section 1.6). -/
inductive RunState where
  | unseen
  | active
  | stopping
  | halted
  | lost
  deriving DecidableEq, Repr

/-- Why a carriage is UNSEEN (R6). -/
inductive UnseenOrigin where
  | powerOn
  | lineReset
  | unexclude
  deriving DecidableEq, Repr

/-- The three yes/no values of a drive status (R6). -/
structure DriveStatus where
  ready : Bool
  fault : Bool
  inPosition : Bool
  deriving DecidableEq, Repr

/-- The last position, velocity and status of one axis, present together (R6; one presence bit in section 11.4). -/
structure AxisReport where
  position : Nat
  velocity : Int
  status : DriveStatus
  deriving DecidableEq, Repr

/-- An active move: the forwarded target and its tag (R22). -/
structure ActiveMove where
  target : Nat
  tag : Byte
  deriving DecidableEq, Repr

/-- A fault flag (R129). -/
inductive Flag where
  | excursion
  | lost
  | vacuumDrop
  | releaseFail
  | driveFault
  deriving DecidableEq, Repr

/-- The set of fault flags of a carriage (R6). -/
structure FaultFlags where
  excursion : Bool := false
  lost : Bool := false
  vacuumDrop : Bool := false
  releaseFail : Bool := false
  driveFault : Bool := false
  deriving DecidableEq, Repr

/-- The counters of a carriage (R8). -/
structure CarriageCounters where
  admitted : Nat := 0
  clamped : Nat := 0
  held : Nat := 0
  refused : Nat := 0
  picks : Nat := 0
  rejects : Nat := 0
  places : Nat := 0
  deriving DecidableEq, Repr

/-- The three nodes of a carriage (R9). -/
inductive Node where
  | xDrive
  | zDrive
  | head
  deriving DecidableEq, Repr

/-- The two axes of a carriage. -/
inductive Axis where
  | x
  | z
  deriving DecidableEq, Repr

/-- The carriage context (R6). The stale and lost deadlines of R14 and R16 are functions of the arrival times and the
record, so they are computed, not stored (log 25). -/
structure Context where
  membership : Membership := .isolated
  runState : RunState := .unseen
  unseenOrigin : Option UnseenOrigin := some .powerOn
  fresh : Bool := false
  lastX : Option AxisReport := none
  lastZ : Option AxisReport := none
  arrivalX : Option Clock := none
  arrivalZ : Option Clock := none
  arrivalHead : Option Clock := none
  inSetX : Bool := false
  inSetZ : Bool := false
  inSetHead : Bool := false
  stillX : Bool := false
  stillZ : Bool := false
  activeX : Option ActiveMove := none
  activeZ : Option ActiveMove := none
  flags : FaultFlags := {}
  counters : CarriageCounters := {}
  deriving DecidableEq, Repr

/-- How a known reservation was obtained (R42). -/
inductive Stage where
  | plain
  | widened
  | frozen
  | park
  deriving DecidableEq, Repr

/-- A known reservation (R42); UNKNOWN is the absence of one. -/
structure Reservation where
  span : Interval
  stage : Stage
  deriving DecidableEq, Repr

/-- The blocked action of a MOVE (R58). -/
inductive BlockedAction where
  | refuse
  | clamp
  | wait
  | clampWait
  deriving DecidableEq, Repr

/-- A side of a carriage. -/
inductive Side where
  | left
  | right
  deriving DecidableEq, Repr

/-- What set a free limit (R53). -/
inductive Blocker where
  | carriage (j : Nat)
  | fence (f : Nat)
  deriving DecidableEq, Repr

/-- The cause codes of notices and the waiting causes of held moves (section 11.5). -/
inductive Cause where
  | none
  | admitted | clamped | held | refused | wouldHold
  | notNormal | estop | notActive | stale | headLow | loadBusy | loadRejected | badField | blocked | noRoom | fenced
  | deadlock | xMoving | noWindow | bayRestock | bayEmpty | wrongBay | noLoad | noJob | noEntry | state | ahead
  | mismatch | notLowered | uncovered | smallPanel | wrongJob | notAtSaw | sawBusy | notHead
  | holdTimeout | superseded | cancelled | excursion | lostFlag | vacuumDrop | releaseFail | driveFault
  | ok | reject | double | thin | placed | putBack
  | off | pending | on
  | asserted | released | lrstN | command
  | unseen | active | stopping | halted | lost
  | normal | isolated | excluded | shadow
  deriving DecidableEq, Repr

/-- A held move (R70), with the mark of a move waiting for room in the D-forward queue (R77). -/
structure HeldMove where
  axis : Axis
  target : Nat
  speed : Nat
  tag : Byte
  action : BlockedAction
  cause : Cause
  side : Option Side
  blocker : Option Blocker
  arrival : Clock
  deadline : Clock
  stamp : Clock
  lastClamped : Option Nat
  waitingForRoom : Bool
  deriving DecidableEq, Repr

/-- The states of a load record other than EMPTY (R91). -/
inductive LoadPhase where
  | gripping
  | checking
  | loaded
  | rejected
  | releasing
  deriving DecidableEq, Repr

/-- A load record that is not EMPTY (R91), with the state before release of R102. -/
structure LoadRecord where
  phase : LoadPhase
  jobSaw : Nat
  jobSeq : Nat
  originBay : Nat
  pickTop : Nat
  thickness : Nat
  length : Nat
  width : Nat
  mask : Cups
  putBack : Bool
  deadline : Option Clock
  sum : Nat
  count : Nat
  beforeRelease : Option LoadPhase
  deriving DecidableEq, Repr

/-- All that the blocks hold for one INSTALLED carriage: its context (R6), reservation (R42), held-move slot (R70),
virtual position (R67), load record (R91, absent for EMPTY), cup image (R89) and the two module counts (R88). The
defaults are the values a newly installed carriage receives. -/
structure Carriage where
  ctx : Context := {}
  reservation : Option Reservation := none
  slot : Option HeldMove := none
  virtualX : Option Nat := none
  load : Option LoadRecord := none
  image : Cups := 0
  modulesReported : Nat := 1
  modulesInForce : Nat := 1
  deriving DecidableEq, Repr

/-- State of a fence (R82). -/
inductive FenceState where
  | off
  | pending
  | on
  deriving DecidableEq, Repr

/-- A fence (R82): its interval as written, and its state. -/
structure Fence where
  span : Interval := ⟨0, 0⟩
  state : FenceState := .off
  deriving DecidableEq, Repr

/-- State of a bay (R106). -/
inductive BayState where
  | unused
  | active
  | empty
  | restock
  deriving DecidableEq, Repr

/-- A bay record (R106). -/
structure Bay where
  state : BayState := .unused
  centre : Nat := 0
  tolerance : Nat := 0
  material : Nat := 0
  length : Nat := 0
  width : Nat := 0
  thickness : Nat := 0
  count : Nat := 0
  base : Nat := 0
  deriving DecidableEq, Repr

/-- The configuration part of a saw record (R111). -/
structure SawConfig where
  centre : Nat
  tolerance : Nat
  tableHeight : Nat
  freshness : Nat
  deriving DecidableEq, Repr

/-- State of a Feed Queue entry (R114). -/
inductive EntryState where
  | queued
  | picked
  | faulted
  deriving DecidableEq, Repr

/-- A Feed Queue entry (R114). -/
structure Entry where
  sequence : Nat
  material : Nat
  length : Nat
  width : Nat
  thickness : Nat
  sourceBay : Option Nat
  state : EntryState
  carrier : Option Nat
  deriving DecidableEq, Repr

/-- A saw: its configuration, absent while unwritten, its live part (R111) and its Feed Queue from head to tail
(R114). -/
structure Saw where
  config : Option SawConfig := none
  ready : Bool := false
  infeedClear : Bool := false
  arrival : Option Clock := none
  placed : Nat := 0
  queue : List Entry := []
  deriving DecidableEq, Repr

/-- A frame of the line link (R138), without its start marker and check word. -/
structure Frame where
  dst : Byte
  src : Byte
  kind : Byte
  seq : Byte
  payload : List Byte
  deriving DecidableEq, Repr

/-- STOP reasons (R125). -/
inductive StopReason where
  | controller
  | halt
  | estop
  | lost
  | excursion
  | vacuumDrop
  | releaseFail
  | driveFault
  | isolate
  | lineReset
  deriving DecidableEq, Repr

/-- STOP origins (R125). -/
inductive StopOrigin where
  | part
  | controller
  deriving DecidableEq, Repr

/-- An entry of the STOP injection queue (R125). -/
structure StopEntry where
  node : Nat
  reason : StopReason
  origin : StopOrigin
  source : Byte
  sequence : Byte
  deriving DecidableEq, Repr

/-- A receiver's state (R139). -/
inductive Receiver where
  | between
  | inFrame
  deriving DecidableEq, Repr

/-- A transmitter (R149): free with its line at the mark level, or sending one frame. `heldEntry` says that the frame
is that of the STOP entry at the head of the STOP injection queue, which stays there until the frame has been sent
(R150). -/
inductive Transmitter where
  | free
  | sending (f : Frame) (heldEntry : Bool)
  deriving DecidableEq, Repr

/-- The eight frame counters of a port (R142). -/
structure PortCounters where
  good : Nat := 0
  short : Nat := 0
  long : Nat := 0
  checkError : Nat := 0
  stray : Nat := 0
  overrun : Nat := 0
  misdirected : Nat := 0
  sent : Nat := 0
  deriving DecidableEq, Repr

/-- What the Port Unit owns (Block Overview; R125, R142, R143, R147 to R152), with the latched own address (R170). -/
structure PortUnit where
  ownAddress : Nat
  nodeMap : List (Option Role) := List.replicate 63 none
  receiverU : Receiver := .between
  receiverD : Receiver := .between
  transmitterU : Transmitter := .free
  transmitterD : Transmitter := .free
  dForward : List Frame := []
  uForward : List Frame := []
  stops : List StopEntry := []
  countersU : PortCounters := {}
  countersD : PortCounters := {}
  ownSeq : Byte := 0
  /-- reports of room made and not yet taken by the Admission Unit (R147, log 10) -/
  roomReports : Nat := 0
  deriving DecidableEq, Repr

/-- Result codes of management replies (R156). -/
inductive ResultCode where
  | ok
  | badTable
  | badIndex
  | badField
  | locked
  | inUse
  | state
  | overlap
  | full
  | order
  | duplicate
  | noEntry
  deriving DecidableEq, Repr

/-- A reply waiting in the reply queue (R155): its destination, echoed sequence, result code and data. -/
structure Reply where
  dst : Byte
  echo : Byte
  code : ResultCode
  data : List Byte
  deriving DecidableEq, Repr

/-- Kinds of notice (R165). -/
inductive NoticeKind where
  | verdict
  | shadowVerdict
  | holdEnd
  | pick
  | place
  | gripFail
  | fault
  | stateChange
  | fence
  | estop
  | lineReset
  deriving DecidableEq, Repr

/-- The reference of a notice (R165): absent, a move tag, or a job reference. -/
inductive Reference where
  | absent
  | tag (t : Byte)
  | job (saw sequence : Nat)
  deriving DecidableEq, Repr

/-- The detail of a notice (R165): absent, a position in pu, a cup count, or a second cause. -/
inductive Detail where
  | absent
  | position (p : Nat)
  | cups (n : Nat)
  | cause (c : Cause)
  deriving DecidableEq, Repr

/-- A notice record (R165). -/
structure Notice where
  kind : NoticeKind
  subject : Option Nat
  reference : Reference
  cause : Cause
  detail : Detail
  time : Clock
  deriving DecidableEq, Repr

/-- What the Management Agent owns (Block Overview; R154, R155, R166). -/
structure Management where
  requests : List Frame := []
  replies : List Reply := []
  notices : List Notice := []
  overflow : Bool := false
  deriving DecidableEq, Repr

/-- BLINK1 frequencies (R173). -/
inductive Blink1Frequency where
  | half
  | one
  | two
  | four
  deriving DecidableEq, Repr

/-- BLINK2 frequencies (R173). -/
inductive Blink2Frequency where
  | two
  | four
  | eight
  | sixteen
  deriving DecidableEq, Repr

/-- Lamp duty (R173). -/
inductive Duty where
  | quarter
  | half
  | threeQuarters
  deriving DecidableEq, Repr

/-- The lamp record and the blink phase (R173). `phase` is the time since the lamp phase origin in microseconds at the
present line-clock value. `points1` and `points2` count the lit-to-dark and dark-to-lit points that each pattern has
passed since the origin (log 22). -/
structure LampUnit where
  blink1 : Blink1Frequency := .one
  blink2 : Blink2Frequency := .eight
  duty : Duty := .half
  phase : Nat := 0
  points1 : Nat := 0
  points2 : Nat := 0
  deriving DecidableEq, Repr

/-- A lamp pattern (section 10.3). -/
inductive LampPattern where
  | off
  | on
  | blink1
  | blink2
  deriving DecidableEq, Repr

/-- A sampled control input (R169): the level at the pin, the samples of this millisecond and the one before, and the
taken level; `true` is high, which for LRST_N and ESTOP_N is released. -/
structure SampledPin where
  level : Bool
  sample : Bool
  sampleBefore : Bool
  taken : Bool
  deriving DecidableEq, Repr

/-- The levels of the two sampled pins at one sample. -/
structure PinLevels where
  lrstN : Bool
  estopN : Bool
  deriving DecidableEq, Repr

/-- The control inputs (section 10.2) and the emergency state (R134). -/
structure Inputs where
  /-- RESET_N is low: the part is held in power-on reset (R170). -/
  resetLow : Bool
  lrstN : SampledPin
  estopN : SampledPin
  /-- The emergency state is ASSERTED (R134). -/
  emergency : Bool
  /-- the levels that the outside drives onto LRST_N and ESTOP_N at the samples to come, the next one first; after the last
  of them each pin keeps its level (log 23) -/
  coming : List PinLevels := []
  deriving DecidableEq, Repr

/-- A report one block makes to the Admission Unit (R43, R74, R91, R147), on which held moves are re-evaluated. -/
inductive Report where
  /-- the reservation of carriage `of` shrank on its side facing carriage `toward` (R43) -/
  | shrink (of toward : Nat)
  /-- the reservation of carriage `of` passed from UNKNOWN to known (R13, R74) -/
  | known (of : Nat)
  /-- fence `f` passed to OFF (R85) -/
  | fenceOff (f : Nat)
  /-- a Z STATE of carriage `k` showed a height at or above zClear (R10) -/
  | headUp (k : Nat)
  /-- the load of carriage `k` left GRIPPING, CHECKING or RELEASING (R91) -/
  | loadFree (k : Nat)
  /-- after an X STATE, carriage `k` has no active X move and stands (R74) -/
  | xRest (k : Nat)
  /-- a frame left the D-forward queue (R147); made by a departure, and taken in a step of its own (log 10) -/
  | room
  deriving DecidableEq, Repr

end Sys2Proof.Machine
end

