-- ==== Sys2Proof/Machine/Arith.lean ====
section
/-! DEFINITION. Envelope arithmetic (chapter 2) and the line-clock arithmetic of R1. All of it is on non-negative
integers: subtraction stops at 0 and a division rounds up, but for the average of R41. -/

namespace Sys2Proof.Machine

/-! Time (R1). -/

/-- The age of a recorded time: the line clock minus it, modulo 2³² (R1). -/
def age (now t : Clock) : Nat := (now - t).toNat

/-- A deadline has been reached or passed: it lies less than 2³¹ ms in the past (R1: the longest deadline lies 60 000 ms
ahead, so the wrap confuses none). -/
def reached (now deadline : Clock) : Bool := age now deadline < Config.absentAge

/-- The older of two recorded times. -/
def older (now a b : Clock) : Clock := if age now a < age now b then b else a

/-- A line-clock value `ms` later. -/
def after (t : Clock) (ms : Nat) : Clock := t + BitVec.ofNat 32 ms

/-! Integers (R30). -/

/-- Division rounded up (R30). -/
def ceilDiv (a b : Nat) : Nat := (a + b - 1) / b

/-- A counter one higher, saturating (R8, R142). -/
def bump (n : Nat) : Nat := if n < Config.counterMax then n + 1 else n

/-- Both bounds clamped into the rail (R30). -/
def clampSpan (rail lo hi : Nat) : Interval := ⟨min lo rail, min hi rail⟩

/-! Stopping distance, occupancy, envelope (R31 to R33). -/

/-- The stopping distance (R31): braking run plus reaction run, each rounded up, the sum limited to the rail length. -/
def stopDistance (r : CarriageRecord) (rail v : Nat) : Nat :=
  min (ceilDiv (5 * (v * v)) r.aStop + ceilDiv (v * r.tReact) 100) rail

/-- The occupancy at a position (R32). -/
def occupancy (r : CarriageRecord) (rail p : Nat) : Interval :=
  clampSpan rail (p - r.leftExt) (p + r.rightExt)

/-- The dynamic envelope at a position and velocity (R33). -/
def envelope (r : CarriageRecord) (rail p : Nat) (v : Int) : Interval :=
  if 0 < v then clampSpan rail (p - r.leftExt) (p + r.rightExt + stopDistance r rail v.natAbs)
  else if v < 0 then clampSpan rail (p - r.leftExt - stopDistance r rail v.natAbs) (p + r.rightExt)
  else occupancy r rail p

/-! Relations (R34). -/

def Interval.within (a b : Interval) : Bool := b.lo ≤ a.lo && a.hi ≤ b.hi

def Interval.intersects (a b : Interval) : Bool := a.lo ≤ b.hi && b.lo ≤ a.hi

def Interval.leftOf (a b : Interval) : Bool := a.hi < b.lo

/-- `a` lies at least `g` from `b`, on either side (R34). -/
def Interval.apart (g : Nat) (a b : Interval) : Bool := a.hi + g ≤ b.lo || b.hi + g ≤ a.lo

/-- The test between two carriages, taken in rail order: `a` is that of the left carriage (R34). -/
def Interval.apartInOrder (g : Nat) (a b : Interval) : Bool := a.hi + g ≤ b.lo

def Interval.hull (a b : Interval) : Interval := ⟨min a.lo b.lo, max a.hi b.hi⟩

/-- A span widened by `d` on both sides and clamped to the rail (R35, R36). -/
def Interval.widen (rail d : Nat) (a : Interval) : Interval := clampSpan rail (a.lo - d) (a.hi + d)

/-- The stale widening (R35). -/
def dStale (r : CarriageRecord) : Nat := ceilDiv (r.vmax * (r.l - r.w)) 100

/-- A position lies within a window (Conventions): the difference from the centre is at most the tolerance. -/
def inWindow (p centre tolerance : Nat) : Bool := p ≤ centre + tolerance && centre ≤ p + tolerance

/-! Clamps on a MOVE (R37). -/

def clampTarget (r : CarriageRecord) (x : Nat) : Nat :=
  if x < r.travelLo then r.travelLo else if r.travelHi < x then r.travelHi else x

def clampSpeed (r : CarriageRecord) (v : Nat) : Nat := min v r.vmax

/-! Cups (R40, R89). -/

/-- The number of cups in a pattern. -/
def cupCount (m : Cups) : Nat := (List.range 32).countP fun c => m.getLsbD c

/-- A cup's whole face lies on a panel of the given length and width, in mm (R40). -/
def Cup.covered (cup : Cup) (r length width : Nat) : Bool :=
  2 * (cup.dx.natAbs + r) ≤ length && 2 * (cup.dy.natAbs + r) ≤ width

/-- The cups of module A, 0 to 15. -/
def moduleA : Cups := 0x0000FFFF

/-- The cups of module B, 16 to 31. -/
def moduleB : Cups := 0xFFFF0000

/-- The cups on present modules for a module count (R40). -/
def presentCups (modules : Nat) : Cups := if modules = 2 then moduleA ||| moduleB else moduleA

/-- The set of the cups for which a test holds. -/
def cupSet (test : Nat → Bool) : Cups :=
  (List.range 32).foldl (fun m c => if test c then m ||| BitVec.twoPow 32 c else m) 0

/-! Thickness (R41). -/

/-- The result of a thickness check. -/
inductive Thickness where
  | ok
  | double
  | thin
  deriving DecidableEq, Repr

/-- The thickness check (R41): the average is rounded down, and the first line that applies decides. -/
def thicknessCheck (sum n t : Nat) : Thickness :=
  if 3 * t < 2 * (sum / n) then .double else if 2 * (sum / n) < t then .thin else .ok

end Sys2Proof.Machine
end

