-- ==== Sys2Proof/Machine/State.lean ====
section
/-! DEFINITION. The state of the TG640 (INVENTORY.md, "State"), its faults and refusals, and the state after reset. -/

namespace Sys2Proof.Machine

/-- The whole state of the part. `pending` is the queue of commands waiting, first in, first out; `reports` holds the
reports between blocks that the step under way has made and not yet acted on (log 7), empty between steps but for the
case of log 8. Every other field is the spec's. -/
structure State where
  lineClock : Clock
  inputs : Inputs
  lamps : LampUnit
  rail : Option RailRecord
  carriageRecords : List (Option CarriageRecord)
  headRecords : List (Option HeadRecord)
  cupLayout : List (Option (List Cup))
  carriages : List Carriage
  fences : List Fence
  stampCounter : Clock
  bays : List Bay
  saws : List Saw
  port : PortUnit
  management : Management
  reports : List Report
  pending : List Instr
  deriving DecidableEq, Repr

/-- Faults. There is none: no rule of the manual stops the part. A command whose conditions do not hold leaves the
state as it is, as the rules say of an expiry or a report that finds nothing to do. -/
inductive Fault where
  deriving DecidableEq, Repr

/-- Refusals. `notModelled` is raised only by an arm of `exec` whose command has no meaning yet; it is safe, since such
a command then has no next state. No arm raises it. -/
inductive Refusal where
  /-- the command named has no meaning in this model (raised by `exec` alone; safe) -/
  | notModelled (mnemonic : String)
  deriving DecidableEq, Repr

/-- A sampled input at power-on: level, samples and taken level are the pin's own (R170). -/
def SampledPin.atLevel (high : Bool) : SampledPin :=
  { level := high, sample := high, sampleBefore := high, taken := high }

/-- The part right after power-on reset (R170 and the power-on values each chapter gives). What comes from outside, the
straps and the pin levels, is that of `Config` (log 5). -/
def State.reset : State where
  lineClock := 0
  inputs :=
    { resetLow := false
      lrstN := SampledPin.atLevel Config.resetPinHigh
      estopN := SampledPin.atLevel Config.resetPinHigh
      emergency := !Config.resetPinHigh }
  lamps := {}
  rail := none
  carriageRecords := List.replicate 4 none
  headRecords := List.replicate 4 none
  cupLayout := List.replicate 16 none
  carriages := []
  fences := List.replicate 8 {}
  stampCounter := 0
  bays := List.replicate 24 {}
  saws := List.replicate 6 {}
  port := { ownAddress := Config.resetStraps.toNat }
  management := {}
  reports := []
  pending := []

end Sys2Proof.Machine
end

