-- ==== Sys2Proof/Machine/Flags.lean ====
section
/-! DEFINITION. Fault flags as sets (R129), and the patterns and levels of the lamps that show them (R173, R174). -/

namespace Sys2Proof.Machine

/-- A flag is set. -/
def FaultFlags.has (fs : FaultFlags) : Flag → Bool
  | .excursion => fs.excursion
  | .lost => fs.lost
  | .vacuumDrop => fs.vacuumDrop
  | .releaseFail => fs.releaseFail
  | .driveFault => fs.driveFault

/-- The set with a flag added. -/
def FaultFlags.add (fs : FaultFlags) : Flag → FaultFlags
  | .excursion => { fs with excursion := true }
  | .lost => { fs with lost := true }
  | .vacuumDrop => { fs with vacuumDrop := true }
  | .releaseFail => { fs with releaseFail := true }
  | .driveFault => { fs with driveFault := true }

/-- Some flag is set. -/
def FaultFlags.any (fs : FaultFlags) : Bool :=
  fs.excursion || fs.lost || fs.vacuumDrop || fs.releaseFail || fs.driveFault

/-- The pattern of a carriage beacon (R174): the first row that applies. -/
def beaconPattern : Option Carriage → LampPattern
  | none => .off
  | some c =>
    if c.ctx.flags.any || c.ctx.runState = .stopping || c.ctx.runState = .lost then .blink2
    else if c.ctx.runState = .unseen || c.ctx.membership = .excluded then .off
    else if c.ctx.membership = .shadow then .blink1
    else if c.ctx.runState = .halted then .blink1
    else if c.slot.isSome then .blink1
    else .on

/-- The pattern of LAMP4 (R174). -/
def linePattern (s : State) : LampPattern :=
  if !s.port.nodeMap.contains (some .controller) then .off
  else if s.inputs.emergency then .blink2
  else .on

/-- The pattern of lamp output `i`: 0 to 3 the carriage beacons, 4 the line lamp. -/
def lampPattern (s : State) (i : Nat) : LampPattern :=
  if i < 4 then beaconPattern s.carriages[i]? else if i = 4 then linePattern s else .off

/-- The period of BLINK1 in microseconds (R173). -/
def Blink1Frequency.period : Blink1Frequency → Nat
  | .half => 2000000
  | .one => 1000000
  | .two => 500000
  | .four => 250000

/-- The period of BLINK2 in microseconds (R173). -/
def Blink2Frequency.period : Blink2Frequency → Nat
  | .two => 500000
  | .four => 250000
  | .eight => 125000
  | .sixteen => 62500

/-- The lit share of a period, in quarters (R173). -/
def Duty.quarters : Duty → Nat
  | .quarter => 1
  | .half => 2
  | .threeQuarters => 3

/-- The lit-to-dark and dark-to-lit points a blink has passed, by a given time since the origin (R173): a period is lit
for its duty share and dark for the rest. -/
def pointsAt (period quarters time : Nat) : Nat :=
  2 * (time / period) + (if period * quarters ≤ 4 * (time % period) then 1 else 0)

/-- The points a pattern should have passed at the present phase. -/
def LampUnit.pointsDue (l : LampUnit) : Blink → Nat
  | .blink1 => pointsAt l.blink1.period l.duty.quarters l.phase
  | .blink2 => pointsAt l.blink2.period l.duty.quarters l.phase

/-- The points a pattern has passed. -/
def LampUnit.points (l : LampUnit) : Blink → Nat
  | .blink1 => l.points1
  | .blink2 => l.points2

/-- An output showing the pattern is lit: every period begins lit, so an even number of points has been passed. -/
def LampUnit.lit (l : LampUnit) (b : Blink) : Bool := l.points b % 2 = 0

/-- The level of lamp output `i`, `true` driven high (R170, R173): every output is low while RESET_N is low. -/
def lampOutput (s : State) (i : Nat) : Bool :=
  if s.inputs.resetLow then false
  else
    match lampPattern s i with
    | .off => false
    | .on => true
    | .blink1 => s.lamps.lit .blink1
    | .blink2 => s.lamps.lit .blink2

end Sys2Proof.Machine
end

