-- ==== Sys2Proof/Machine/Codes.lean ====
section
/-! DEFINITION. The code values of section 11.5 and of the frame kinds of section 11.2. -/

namespace Sys2Proof.Machine

/-! Frame kinds (section 11.2). -/

def Kind.move : Byte := 0x10
def Kind.stop : Byte := 0x11
def Kind.param : Byte := 0x12
def Kind.state : Byte := 0x20
def Kind.gripAll : Byte := 0x30
def Kind.gripLow : Byte := 0x31
def Kind.gripHigh : Byte := 0x32
def Kind.senseHead : Byte := 0x40
def Kind.senseSaw : Byte := 0x41
def Kind.mgWrite : Byte := 0x60
def Kind.mgRead : Byte := 0x61
def Kind.mgCommand : Byte := 0x62
def Kind.mgReply : Byte := 0x68
def Kind.notice : Byte := 0x69

/-- The kind of a GRIP form. -/
def Kind.grip : GripForm → Byte
  | .all => Kind.gripAll
  | .low => Kind.gripLow
  | .high => Kind.gripHigh

/-- The kind of a management request. -/
def Kind.request : MgKind → Byte
  | .write => Kind.mgWrite
  | .read => Kind.mgRead
  | .command => Kind.mgCommand

/-- The GRIP form of a kind. -/
def Kind.gripForm? (kind : Byte) : Option GripForm :=
  if kind = Kind.gripAll then some .all
  else if kind = Kind.gripLow then some .low
  else if kind = Kind.gripHigh then some .high
  else none

/-- The management kinds of R144: MG_WRITE, MG_READ and MG_COMMAND. -/
def Kind.isManagement (kind : Byte) : Bool :=
  kind == Kind.mgWrite || kind == Kind.mgRead || kind == Kind.mgCommand

/-! Enumerations (section 11.5). -/

def Membership.code : Membership → Nat
  | .normal => 0
  | .isolated => 1
  | .excluded => 2
  | .shadow => 3

def Membership.ofCode (n : Nat) : Option Membership :=
  if n = 0 then some .normal
  else if n = 1 then some .isolated
  else if n = 2 then some .excluded
  else if n = 3 then some .shadow
  else none

def RunState.code : RunState → Nat
  | .unseen => 0
  | .active => 1
  | .stopping => 2
  | .halted => 3
  | .lost => 4

/-- Unseen origin, 0xFF absent. -/
def UnseenOrigin.code : Option UnseenOrigin → Nat
  | some .powerOn => 0
  | some .lineReset => 1
  | some .unexclude => 2
  | none => 255

def StopReason.code : StopReason → Nat
  | .controller => 0
  | .halt => 1
  | .estop => 2
  | .lost => 3
  | .excursion => 4
  | .vacuumDrop => 5
  | .releaseFail => 6
  | .driveFault => 7
  | .isolate => 8
  | .lineReset => 9

def StopOrigin.code : StopOrigin → Nat
  | .part => 0
  | .controller => 1

def BlockedAction.code : BlockedAction → Nat
  | .refuse => 0
  | .clamp => 1
  | .wait => 2
  | .clampWait => 3

def BlockedAction.ofCode (n : Nat) : Option BlockedAction :=
  if n = 0 then some .refuse
  else if n = 1 then some .clamp
  else if n = 2 then some .wait
  else if n = 3 then some .clampWait
  else none

def Axis.code : Axis → Nat
  | .x => 0
  | .z => 1

def Stage.code : Stage → Nat
  | .plain => 1
  | .widened => 2
  | .frozen => 3
  | .park => 4

def LoadPhase.code : LoadPhase → Nat
  | .gripping => 1
  | .checking => 2
  | .loaded => 3
  | .rejected => 4
  | .releasing => 5

def BayState.code : BayState → Nat
  | .unused => 0
  | .active => 1
  | .empty => 2
  | .restock => 3

def EntryState.code : EntryState → Nat
  | .queued => 0
  | .picked => 1
  | .faulted => 2

def FenceState.code : FenceState → Nat
  | .off => 0
  | .pending => 1
  | .on => 2

def ResultCode.code : ResultCode → Nat
  | .ok => 0
  | .badTable => 1
  | .badIndex => 2
  | .badField => 3
  | .locked => 4
  | .inUse => 5
  | .state => 6
  | .overlap => 7
  | .full => 8
  | .order => 9
  | .duplicate => 10
  | .noEntry => 11

def Side.code : Option Side → Nat
  | none => 0
  | some .left => 1
  | some .right => 2

/-- The blocker byte: 0x00 to 0x03 a carriage, 0x10 to 0x17 a fence, 0xFF none (section 11.4). -/
def Blocker.code : Option Blocker → Nat
  | none => 255
  | some (.carriage j) => j
  | some (.fence f) => 16 + f

/-- Role code and role index of a NODE_MAP record (section 11.4). -/
def Role.codes : Option Role → Nat × Nat
  | none => (0, 0)
  | some .controller => (1, 0)
  | some (.xDrive k) => (2, k)
  | some (.zDrive k) => (3, k)
  | some (.head k) => (4, k)
  | some (.saw j) => (5, j)

/-- The entry a role code and role index give, or nothing where they name none of R143's (log 19). -/
def Role.ofCodes (code index : Nat) : Option (Option Role) :=
  if code = 0 ∧ index = 0 then some none
  else if code = 1 ∧ index = 0 then some (some .controller)
  else if code = 2 ∧ index < 4 then some (some (.xDrive index))
  else if code = 3 ∧ index < 4 then some (some (.zDrive index))
  else if code = 4 ∧ index < 4 then some (some (.head index))
  else if code = 5 ∧ index < 6 then some (some (.saw index))
  else none

def NoticeKind.code : NoticeKind → Nat
  | .verdict => 1
  | .shadowVerdict => 2
  | .holdEnd => 3
  | .pick => 4
  | .place => 5
  | .gripFail => 6
  | .fault => 7
  | .stateChange => 8
  | .fence => 9
  | .estop => 10
  | .lineReset => 11

/-- The cause codes of section 11.5, in its code order. -/
def Cause.code : Cause → Nat
  | .none => 0x00
  | .admitted => 0x01
  | .clamped => 0x02
  | .held => 0x03
  | .refused => 0x04
  | .wouldHold => 0x05
  | .notNormal => 0x10
  | .estop => 0x11
  | .notActive => 0x12
  | .stale => 0x13
  | .headLow => 0x14
  | .loadBusy => 0x15
  | .loadRejected => 0x16
  | .badField => 0x17
  | .blocked => 0x18
  | .noRoom => 0x19
  | .fenced => 0x1A
  | .deadlock => 0x1B
  | .xMoving => 0x1C
  | .noWindow => 0x1D
  | .bayRestock => 0x1E
  | .bayEmpty => 0x1F
  | .wrongBay => 0x20
  | .noLoad => 0x21
  | .noJob => 0x22
  | .noEntry => 0x23
  | .state => 0x24
  | .ahead => 0x25
  | .mismatch => 0x26
  | .notLowered => 0x27
  | .uncovered => 0x28
  | .smallPanel => 0x29
  | .wrongJob => 0x2A
  | .notAtSaw => 0x2B
  | .sawBusy => 0x2C
  | .notHead => 0x2D
  | .holdTimeout => 0x40
  | .superseded => 0x41
  | .cancelled => 0x42
  | .excursion => 0x43
  | .lostFlag => 0x44
  | .vacuumDrop => 0x45
  | .releaseFail => 0x46
  | .driveFault => 0x47
  | .ok => 0x50
  | .reject => 0x51
  | .double => 0x52
  | .thin => 0x53
  | .placed => 0x54
  | .putBack => 0x55
  | .off => 0x60
  | .pending => 0x61
  | .on => 0x62
  | .asserted => 0x68
  | .released => 0x69
  | .lrstN => 0x6A
  | .command => 0x6B
  | .unseen => 0x70
  | .active => 0x71
  | .stopping => 0x72
  | .halted => 0x73
  | .lost => 0x74
  | .normal => 0x78
  | .isolated => 0x79
  | .excluded => 0x7A
  | .shadow => 0x7B

/-- The cause a STATE_CHANGE notice gives a run state (R165). -/
def RunState.cause : RunState → Cause
  | .unseen => .unseen
  | .active => .active
  | .stopping => .stopping
  | .halted => .halted
  | .lost => .lost

/-- The cause a STATE_CHANGE notice gives a membership (R165). -/
def Membership.cause : Membership → Cause
  | .normal => .normal
  | .isolated => .isolated
  | .excluded => .excluded
  | .shadow => .shadow

/-- The cause a FAULT notice gives a flag (R165). -/
def Flag.cause : Flag → Cause
  | .excursion => .excursion
  | .lost => .lostFlag
  | .vacuumDrop => .vacuumDrop
  | .releaseFail => .releaseFail
  | .driveFault => .driveFault

/-- The cause a FENCE notice gives a fence state (R165). -/
def FenceState.cause : FenceState → Cause
  | .off => .off
  | .pending => .pending
  | .on => .on

/-- The cause with which a departure from ACTIVE for a STOP reason ends the held move (R80). LINE_RESET and CONTROLLER
halt no carriage; a controller STOP ends a held move CANCELLED (R79). -/
def StopReason.endCause : StopReason → Cause
  | .controller => .cancelled
  | .halt => .cancelled
  | .estop => .estop
  | .lost => .lostFlag
  | .excursion => .excursion
  | .vacuumDrop => .vacuumDrop
  | .releaseFail => .releaseFail
  | .driveFault => .driveFault
  | .isolate => .notNormal
  | .lineReset => .cancelled

def Blink1Frequency.code : Blink1Frequency → Nat
  | .half => 0
  | .one => 1
  | .two => 2
  | .four => 3

def Blink1Frequency.ofCode (n : Nat) : Option Blink1Frequency :=
  if n = 0 then some .half
  else if n = 1 then some .one
  else if n = 2 then some .two
  else if n = 3 then some .four
  else none

def Blink2Frequency.code : Blink2Frequency → Nat
  | .two => 0
  | .four => 1
  | .eight => 2
  | .sixteen => 3

def Blink2Frequency.ofCode (n : Nat) : Option Blink2Frequency :=
  if n = 0 then some .two
  else if n = 1 then some .four
  else if n = 2 then some .eight
  else if n = 3 then some .sixteen
  else none

def Duty.code : Duty → Nat
  | .quarter => 0
  | .half => 1
  | .threeQuarters => 2

def Duty.ofCode (n : Nat) : Option Duty :=
  if n = 0 then some .quarter
  else if n = 1 then some .half
  else if n = 2 then some .threeQuarters
  else none

/-- A yes/no byte (section 11.5). -/
def yesNo (n : Nat) : Option Bool :=
  if n = 0 then some false else if n = 1 then some true else none

end Sys2Proof.Machine
end

