-- ==== Sys2Proof/Machine/Operands.lean ====
section
/-! DEFINITION. The byte layouts of chapter 11 read and written: multi-byte fields low byte first (R175), the check word
(R141), the classification of a received frame (R140), and the payloads and records of every frame kind and table. -/

namespace Sys2Proof.Machine

/-! Bytes (R175). -/

/-- The value of bytes sent low byte first. -/
def leValue : List Byte → Nat
  | [] => 0
  | b :: bs => b.toNat + 256 * leValue bs

/-- A value as `size` bytes, low byte first. -/
def leBytes : Nat → Nat → List Byte
  | 0, _ => []
  | size + 1, n => BitVec.ofNat 8 n :: leBytes size (n / 256)

/-- The unsigned field of `size` bytes at an offset. -/
def field (bytes : List Byte) (offset size : Nat) : Nat := leValue ((bytes.drop offset).take size)

/-- A 16-bit value in two's complement. -/
def signed16 (n : Nat) : Int := if n < 32768 then (n : Int) else (n : Int) - 65536

/-- A signed value as two bytes in two's complement. -/
def signedBytes (v : Int) : List Byte := leBytes 2 (v % 65536).toNat

/-- A yes/no value as 0 or 1. -/
def bit (b : Bool) : Nat := if b then 1 else 0

/-- Flags packed from bit 0. -/
def packBits : List Bool → Nat
  | [] => 0
  | b :: bs => bit b + 2 * packBits bs

/-- An index byte, 0xFF when absent (R175). -/
def indexByte (i : Option Nat) : List Byte := leBytes 1 (i.getD 255)

/-! Check word and frames on the line (R138, R140, R141). -/

/-- One shift of the check register (R141). -/
def crcShift (reg : BitVec 16) : BitVec 16 :=
  if reg.msb then (reg <<< 1) ^^^ 0x1021#16 else reg <<< 1

/-- The check register after one byte (R141). -/
def crcByte (reg : BitVec 16) (b : Byte) : BitVec 16 :=
  crcShift (crcShift (crcShift (crcShift (crcShift (crcShift (crcShift (crcShift
    (reg ^^^ (b.zeroExtend 16 <<< 8)))))))))

/-- The check word of a run of bytes (R141). -/
def checkWord (bytes : List Byte) : BitVec 16 := bytes.foldl crcByte 0xFFFF#16

/-- The bytes of a frame from destination through payload (R138). -/
def Frame.body (f : Frame) : List Byte :=
  f.dst :: f.src :: f.kind :: f.seq :: BitVec.ofNat 8 f.payload.length :: f.payload

/-- The bytes of a frame as sent: start marker, body, and check word low byte first (R138, R141). -/
def Frame.wire (f : Frame) : List Byte :=
  (0xA6 : Byte) :: f.body ++ leBytes 2 (checkWord f.body).toNat

/-- The class of a received frame (R140). -/
inductive FrameClass where
  | short
  | long
  | checkError
  | good (f : Frame)
  deriving DecidableEq, Repr

/-- The classification of R140 for the bytes collected after the marker; bytes beyond 56 are discarded (R139). -/
def classify (received : List Byte) : FrameClass :=
  match received.take 56 with
  | dst :: src :: kind :: seq :: len :: rest =>
    let b := rest.length + 5
    let n := len.toNat
    if 48 < n then .long
    else if 55 < b then .long
    else if b < 7 + n then .short
    else if 7 + n < b then .long
    else
      let f : Frame := ⟨dst, src, kind, seq, rest.take n⟩
      if checkWord f.body = BitVec.ofNat 16 (leValue (rest.drop n)) then .good f else .checkError
  | _ => .short

/-! Line frames (section 11.2). -/

/-- The fields of a MOVE of the listed length. -/
structure MoveFields where
  tag : Byte
  axis : Option Axis
  target : Nat
  speed : Nat
  action : Option BlockedAction
  deriving DecidableEq, Repr

/-- The axis an axis code names. -/
def Axis.ofCode (n : Nat) : Option Axis := if n = 0 then some .x else if n = 1 then some .z else none

/-- The fields of a MOVE payload of 10 bytes; the clamped flag it arrives with is disregarded (R55). -/
def parseMove (payload : List Byte) : Option MoveFields :=
  if payload.length = 10 then
    some
      { tag := payload.headD 0
        axis := Axis.ofCode (field payload 1 1)
        target := field payload 2 4
        speed := field payload 6 2
        action := BlockedAction.ofCode (field payload 8 1) }
  else none

/-- The payload of a MOVE the part sends (R37: it writes the clamped flag itself). -/
def moveBytes (tag : Byte) (axis : Axis) (target speed : Nat) (action : BlockedAction) (clamped : Bool) : List Byte :=
  tag :: leBytes 1 axis.code ++ leBytes 4 target ++ leBytes 2 speed ++ leBytes 1 action.code ++ leBytes 1 (bit clamped)

/-- A STATE report: the axis fields as R6 stores them (velocity clamped to ±32 767) and the move tag in execution. -/
structure StateReport where
  axis : AxisReport
  tag : Byte
  deriving DecidableEq, Repr

/-- The fields of a STATE payload of 8 bytes (R6, R10). -/
def parseState (payload : List Byte) : Option StateReport :=
  if payload.length = 8 then
    let status := BitVec.ofNat 8 (field payload 6 1)
    some
      { axis :=
          { position := field payload 0 4
            velocity := max (signed16 (field payload 4 2)) (-32767)
            status := ⟨status.getLsbD 0, status.getLsbD 1, status.getLsbD 2⟩ }
        tag := BitVec.ofNat 8 (field payload 7 1) }
  else none

/-- What a SENSE_HEAD reports (R88, R98). -/
structure HeadReport where
  vacuum : Cups
  modules : Nat
  reading : Nat
  deriving DecidableEq, Repr

/-- The fields of a SENSE_HEAD payload of 7 bytes: a module count other than 2 is taken as 1 (R88), a reading above 4095
as 4095 (R98). -/
def parseSenseHead (payload : List Byte) : Option HeadReport :=
  if payload.length = 7 then
    some
      { vacuum := BitVec.ofNat 32 (field payload 0 4)
        modules := if field payload 4 1 = 2 then 2 else 1
        reading := min (field payload 5 2) 4095 }
  else none

/-- Ready and infeed clear of a SENSE_SAW payload of one byte (R112). -/
def parseSenseSaw (payload : List Byte) : Option (Bool × Bool) :=
  match payload with
  | [b] => some (b.getLsbD 0, b.getLsbD 1)
  | _ => none

/-- A GRIP of a listed length: its carried cups at their places in the image, and its job reference. -/
structure GripFields where
  cups : Cups
  job : Option (Nat × Nat)
  deriving DecidableEq, Repr

/-- Bytes of cup bits a GRIP form carries. -/
def gripSize : GripForm → Nat
  | .all => 4
  | .low => 2
  | .high => 2

/-- The cups a GRIP form carries (R89). -/
def gripCarried : GripForm → Cups
  | .all => 0xFFFFFFFF
  | .low => 0x0000FFFF
  | .high => 0xFFFF0000

/-- The fields of a GRIP payload of a length listed for its form (section 11.2). The length alone says whether a job reference
is carried, so one whose saw byte is 0xFF is a reference to saw 255, which no pick check finds (DESIGN CHOICE, log 42). -/
def parseGrip (form : GripForm) (payload : List Byte) : Option GripFields :=
  let bits := BitVec.ofNat 32 (field payload 0 (gripSize form))
  let cups := if form = .high then bits <<< 16 else bits
  if payload.length = (gripSize form) then some ⟨cups, none⟩
  else if payload.length = (gripSize form) + 3 then
    some ⟨cups, some (field payload (gripSize form) 1, field payload ((gripSize form) + 1) 2)⟩
  else none

/-- The payload of a forwarded GRIP: the forwarded image's cups for the cups the form carries, the job reference as
received (R90). -/
def gripBytes (form : GripForm) (image : Cups) (received : List Byte) : List Byte :=
  let bits := if form = .high then image >>> 16 else image
  leBytes (gripSize form) bits.toNat ++ received.drop (gripSize form)

/-- The frame of a STOP entry (R128). -/
def StopEntry.frame (e : StopEntry) : Frame :=
  ⟨BitVec.ofNat 8 e.node, e.source, Kind.stop, e.sequence, leBytes 1 e.reason.code⟩

/-! Table records, read from a write (section 11.4). Each parse gives nothing where a code of the record is not listed;
the ranges are checked separately. -/

def parseRail (b : List Byte) : RailRecord :=
  ⟨field b 0 4, field b 4 2, field b 6 1, field b 7 1⟩

/-- The ranges of R2. -/
def RailRecord.inRange (r : RailRecord) : Bool :=
  1000 ≤ r.railLength && r.railLength ≤ Config.maxRail && r.gap ≤ 10000 && 1 ≤ r.n && r.n ≤ 4 && 1 ≤ r.lookahead &&
    r.lookahead ≤ 4

def parseCarriage (b : List Byte) : Option CarriageRecord :=
  match yesNo (field b 27 1), yesNo (field b 28 1) with
  | some startHeld, some parkPresent =>
    some
      { leftExt := field b 0 2
        rightExt := field b 2 2
        travelLo := field b 4 4
        travelHi := field b 8 4
        vmax := field b 12 2
        aStop := field b 14 2
        tReact := field b 16 1
        vStill := field b 17 1
        zClear := field b 18 2
        zMax := field b 20 2
        w := field b 22 1
        l := field b 23 2
        holdTime := field b 25 2
        startHeld := startHeld
        park := if parkPresent then some ⟨field b 29 4, field b 33 4⟩ else none }
  | _, _ => none

/-- The ranges and cross-checks of R4 on a rail of the given length (600 000 while the rail record is unwritten, for the
park window too: log 20). -/
def CarriageRecord.inRange (rail : Nat) (r : CarriageRecord) : Bool :=
  r.leftExt ≤ 30000 && r.rightExt ≤ 30000 && r.travelLo < r.travelHi && r.travelHi ≤ rail &&
    1 ≤ r.vmax && r.vmax ≤ 4000 && 100 ≤ r.aStop && r.aStop ≤ 20000 && r.tReact ≤ 100 && 1 ≤ r.vStill && r.vStill ≤ 50 &&
    r.zClear ≤ r.zMax && r.zMax ≤ 25000 && 5 ≤ r.w && r.w ≤ 250 && r.w + 5 ≤ r.l && r.l ≤ 2000 &&
    100 ≤ r.holdTime && r.holdTime ≤ 60000 &&
    (match r.park with
    | none => true
    | some p => p.lo ≤ p.hi && p.hi ≤ rail)

def parseHead (b : List Byte) : HeadRecord :=
  { r := field b 0 1
    minCups := field b 1 1
    minHold := field b 2 1
    gripTime := field b 3 2
    releaseTime := field b 5 2
    press := field b 7 1
    contactTol := field b 8 2
    liftCheck := field b 10 2
    n := field b 12 1 }

/-- The ranges of R86. -/
def HeadRecord.inRange (h : HeadRecord) : Bool :=
  5 ≤ h.r && h.r ≤ 100 && 1 ≤ h.minCups && h.minCups ≤ 32 && 1 ≤ h.minHold && h.minHold ≤ h.minCups &&
    50 ≤ h.gripTime && h.gripTime ≤ 5000 && 50 ≤ h.releaseTime && h.releaseTime ≤ 5000 && h.press ≤ 200 &&
    h.contactTol ≤ 300 && h.liftCheck ≤ 2000 && 1 ≤ h.n && h.n ≤ 8

/-- A cup layout group: eight cups and their fitted flags (R87). -/
def parseCups (b : List Byte) : List Cup :=
  let fitted := BitVec.ofNat 8 (field b 32 1)
  (List.range 8).map fun i => ⟨signed16 (field b (4 * i) 2), signed16 (field b (4 * i + 2) 2), fitted.getLsbD i⟩

/-- The ranges of R87. -/
def Cup.inRange (c : Cup) : Bool :=
  -2800 ≤ c.dx && c.dx ≤ 2800 && -1100 ≤ c.dy && c.dy ≤ 1100

def parseSaw (b : List Byte) : SawConfig :=
  ⟨field b 0 4, field b 4 2, field b 6 2, field b 8 2⟩

/-- The ranges of R111. -/
def SawConfig.inRange (rail : Nat) (c : SawConfig) : Bool :=
  c.centre ≤ rail && c.tolerance ≤ 5000 && c.tableHeight ≤ 25000 && 10 ≤ c.freshness && c.freshness ≤ 1000

/-- A BAY record in the record form; its state follows from its count (R107). -/
def parseBay (b : List Byte) : Bay :=
  let count := field b 15 1
  { state := if count = 0 then .empty else .active
    centre := field b 1 4
    tolerance := field b 5 2
    material := field b 7 2
    length := field b 9 2
    width := field b 11 2
    thickness := field b 13 2
    count := count
    base := field b 16 2 }

/-- The ranges of R106. -/
def Bay.inRange (rail : Nat) (b : Bay) : Bool :=
  b.centre ≤ rail && b.tolerance ≤ 5000 && b.material ≤ 65535 && 100 ≤ b.length && b.length ≤ 5600 &&
    100 ≤ b.width && b.width ≤ 2200 && 30 ≤ b.thickness && b.thickness ≤ 1000 && b.count ≤ 250 && b.base ≤ 25000

/-- A Feed Queue entry as appended: QUEUED, without carrier (R115). -/
def parseEntry (b : List Byte) : Entry :=
  { sequence := field b 0 2
    material := field b 2 2
    length := field b 4 2
    width := field b 6 2
    thickness := field b 8 2
    sourceBay := if field b 10 1 = 255 then none else some (field b 10 1)
    state := .queued
    carrier := none }

/-- The ranges of R114. -/
def Entry.inRange (e : Entry) : Bool :=
  1 ≤ e.material && 100 ≤ e.length && e.length ≤ 5600 && 100 ≤ e.width && e.width ≤ 2200 && 30 ≤ e.thickness &&
    e.thickness ≤ 1000 &&
    (match e.sourceBay with
    | none => true
    | some b => b < 24)

def parseFence (b : List Byte) : Interval := ⟨field b 0 4, field b 4 4⟩

/-! Table records, as a read returns them (section 11.4). -/

/-- The RAIL record. R158 gives its written marker and says of CARRIAGE, HEAD and CUP_LAYOUT that an unwritten record reads
every field 0; DESIGN CHOICE (log 44): an unwritten RAIL record does the same. -/
def RailRecord.bytes : Option RailRecord → List Byte
  | none => List.replicate 9 0
  | some r => leBytes 1 1 ++ leBytes 4 r.railLength ++ leBytes 2 r.gap ++ leBytes 1 r.n ++ leBytes 1 r.lookahead

def CarriageRecord.bytes : Option CarriageRecord → List Byte
  | none => List.replicate 38 0
  | some r =>
    leBytes 1 1 ++ leBytes 2 r.leftExt ++ leBytes 2 r.rightExt ++ leBytes 4 r.travelLo ++ leBytes 4 r.travelHi ++
      leBytes 2 r.vmax ++ leBytes 2 r.aStop ++ leBytes 1 r.tReact ++ leBytes 1 r.vStill ++ leBytes 2 r.zClear ++
      leBytes 2 r.zMax ++ leBytes 1 r.w ++ leBytes 2 r.l ++ leBytes 2 r.holdTime ++ leBytes 1 (bit r.startHeld) ++
      (match r.park with
      | none => List.replicate 9 0
      | some p => leBytes 1 1 ++ leBytes 4 p.lo ++ leBytes 4 p.hi)

def HeadRecord.bytes : Option HeadRecord → List Byte
  | none => List.replicate 14 0
  | some h =>
    leBytes 1 1 ++ leBytes 1 h.r ++ leBytes 1 h.minCups ++ leBytes 1 h.minHold ++ leBytes 2 h.gripTime ++
      leBytes 2 h.releaseTime ++ leBytes 1 h.press ++ leBytes 2 h.contactTol ++ leBytes 2 h.liftCheck ++ leBytes 1 h.n

def Cup.groupBytes : Option (List Cup) → List Byte
  | none => List.replicate 34 0
  | some cups =>
    leBytes 1 1 ++ cups.flatMap (fun c => signedBytes c.dx ++ signedBytes c.dy) ++
      leBytes 1 (packBits (cups.map (·.fitted)))

/-- The SAW configuration and live part. DESIGN CHOICE (log 44): an unwritten configuration reads every field 0, as R158 says
of CARRIAGE, HEAD and CUP_LAYOUT. -/
def Saw.bytes (s : Saw) : List Byte :=
  (match s.config with
    | none => List.replicate 11 0
    | some c =>
      leBytes 1 1 ++ leBytes 4 c.centre ++ leBytes 2 c.tolerance ++ leBytes 2 c.tableHeight ++ leBytes 2 c.freshness) ++
    leBytes 1 (packBits [s.ready, s.infeedClear, s.arrival.isSome]) ++ leBytes 4 (s.arrival.getD 0).toNat ++
    leBytes 4 s.placed

def Bay.bytes (b : Bay) : List Byte :=
  leBytes 1 b.state.code ++ leBytes 4 b.centre ++ leBytes 2 b.tolerance ++ leBytes 2 b.material ++ leBytes 2 b.length ++
    leBytes 2 b.width ++ leBytes 2 b.thickness ++ leBytes 1 b.count ++ leBytes 2 b.base

def Entry.bytes (e : Entry) : List Byte :=
  leBytes 2 e.sequence ++ leBytes 2 e.material ++ leBytes 2 e.length ++ leBytes 2 e.width ++ leBytes 2 e.thickness ++
    indexByte e.sourceBay ++ leBytes 1 e.state.code ++ indexByte e.carrier

def Fence.bytes (f : Fence) : List Byte :=
  leBytes 4 f.span.lo ++ leBytes 4 f.span.hi ++ leBytes 1 f.state.code

def LampUnit.bytes (l : LampUnit) : List Byte :=
  leBytes 1 l.blink1.code ++ leBytes 1 l.blink2.code ++ leBytes 1 l.duty.code

/-! Status records (section 11.4). -/

def DriveStatus.byte (s : DriveStatus) : List Byte := leBytes 1 (packBits [s.ready, s.fault, s.inPosition])

def axisBytes : Option AxisReport → List Byte
  | none => List.replicate 7 0
  | some a => leBytes 4 a.position ++ signedBytes a.velocity ++ a.status.byte

def clockBytes (t : Option Clock) : List Byte := leBytes 4 (t.getD 0).toNat

def activeBytes : Option ActiveMove → List Byte
  | none => List.replicate 5 0
  | some m => leBytes 4 m.target ++ [m.tag]

def FaultFlags.bits (f : FaultFlags) : Nat :=
  packBits [f.excursion, f.lost, f.vacuumDrop, f.releaseFail, f.driveFault]

/-- CARRIAGE_STATUS section 0: the context (R159). -/
def Context.bytes (c : Context) : List Byte :=
  leBytes 1 c.membership.code ++ leBytes 1 c.runState.code ++ leBytes 1 (UnseenOrigin.code c.unseenOrigin) ++
    leBytes 1 (bit !c.fresh) ++
    leBytes 1
      (packBits
        [c.lastX.isSome, c.lastZ.isSome, c.arrivalX.isSome, c.arrivalZ.isSome, c.arrivalHead.isSome, c.activeX.isSome,
          c.activeZ.isSome]) ++
    axisBytes c.lastX ++ axisBytes c.lastZ ++ clockBytes c.arrivalX ++ clockBytes c.arrivalZ ++
    clockBytes c.arrivalHead ++ leBytes 1 (packBits [c.inSetX, c.inSetZ, c.inSetHead, c.stillX, c.stillZ]) ++
    leBytes 1 c.flags.bits ++ activeBytes c.activeX ++ activeBytes c.activeZ

/-- CARRIAGE_STATUS section 1: deadlines, reservation and virtual position (R159). -/
def sectionOneBytes (stale lost : Option Clock) (c : Carriage) : List Byte :=
  leBytes 1 (packBits [stale.isSome, lost.isSome, c.virtualX.isSome]) ++ clockBytes stale ++ clockBytes lost ++
    (match c.reservation with
    | none => List.replicate 9 0
    | some r => leBytes 1 r.stage.code ++ leBytes 4 r.span.lo ++ leBytes 4 r.span.hi) ++
    leBytes 4 (c.virtualX.getD 0)

/-- CARRIAGE_STATUS section 2: the held-move slot (R159). An EMPTY slot names no blocker, 0xFF (section 11.4). -/
def slotBytes : Option HeldMove → List Byte
  | none => List.replicate 11 0 ++ [0xFF] ++ List.replicate 16 0
  | some h =>
    leBytes 1 (packBits [true, h.axis = .z, h.waitingForRoom, h.lastClamped.isSome]) ++ leBytes 4 h.target ++
      leBytes 2 h.speed ++ [h.tag] ++ leBytes 1 h.action.code ++ leBytes 1 h.cause.code ++ leBytes 1 (Side.code h.side) ++
      leBytes 1 (Blocker.code h.blocker) ++ leBytes 4 h.arrival.toNat ++ leBytes 4 h.deadline.toNat ++
      leBytes 4 h.stamp.toNat ++ leBytes 4 (h.lastClamped.getD 0)

/-- LOAD_STATUS (R159): an EMPTY load holds 0 in every byte after the state but for the absent indices. -/
def loadBytes (c : Carriage) : List Byte :=
  (match c.load with
    | none => [0, 0, 0xFF, 0, 0, 0xFF] ++ List.replicate 23 0
    | some l =>
      leBytes 1 l.phase.code ++
        leBytes 1
          (match l.beforeRelease with
          | none => 0
          | some p => p.code) ++
        leBytes 1 l.jobSaw ++ leBytes 2 l.jobSeq ++ leBytes 1 l.originBay ++ leBytes 4 l.pickTop ++
        leBytes 2 l.thickness ++ leBytes 2 l.length ++ leBytes 2 l.width ++ leBytes 4 l.mask.toNat ++
        leBytes 1 (bit l.putBack) ++ leBytes 1 (bit l.deadline.isSome) ++ clockBytes l.deadline ++ leBytes 2 l.sum ++
        leBytes 1 l.count) ++
    leBytes 4 c.image.toNat ++ leBytes 1 c.modulesReported ++ leBytes 1 c.modulesInForce

/-- One STOP entry of PART_STATUS, an unused one 0xFF, 0, 0 (section 11.4). -/
def stopBytes : Option StopEntry → List Byte
  | none => [0xFF, 0, 0]
  | some e => leBytes 1 e.node ++ leBytes 1 e.reason.code ++ leBytes 1 e.origin.code

/-- The eight counters of a port in the order of R142. -/
def PortCounters.list (c : PortCounters) : List Nat :=
  [c.good, c.short, c.long, c.checkError, c.stray, c.overrun, c.misdirected, c.sent]

/-- The seven counters of a carriage in the order of R8. -/
def CarriageCounters.list (c : CarriageCounters) : List Nat :=
  [c.admitted, c.clamped, c.held, c.refused, c.picks, c.rejects, c.places]

def PortCounters.ofList : List Nat → PortCounters
  | [a, b, c, d, e, f, g, h] => ⟨a, b, c, d, e, f, g, h⟩
  | _ => {}

def CarriageCounters.ofList : List Nat → CarriageCounters
  | [a, b, c, d, e, f, g] => ⟨a, b, c, d, e, f, g⟩
  | _ => {}

/-! Notices (section 11.5). -/

def Reference.bytes : Reference → List Byte
  | .absent => [0, 0, 0, 0]
  | .tag t => [1, t, 0, 0]
  | .job saw sequence => (2 : Byte) :: leBytes 1 saw ++ leBytes 2 sequence

def Detail.bytes : Detail → List Byte
  | .absent => [0, 0, 0, 0, 0]
  | .position p => (1 : Byte) :: leBytes 4 p
  | .cups n => (2 : Byte) :: leBytes 4 n
  | .cause c => (3 : Byte) :: leBytes 4 c.code

/-- The 16 bytes of a notice record. -/
def Notice.bytes (n : Notice) : List Byte :=
  leBytes 1 n.kind.code ++ indexByte n.subject ++ n.reference.bytes ++ leBytes 1 n.cause.code ++ n.detail.bytes ++
    leBytes 4 n.time.toNat

end Sys2Proof.Machine
end

