-- ==== Sys2Proof/Machine/Ops.lean ====
section
/-! DEFINITION. The operations the blocks share: reading and changing carriages, notices (R166), fault flags (R129),
STOP requests (R126), the end of a held move (R81), halts (R18), reservations (R43) and fences (R84). -/

namespace Sys2Proof.Machine

/-! Reading the state. -/

/-- The rail length in force; 600 000 while the rail record is unwritten, as the write checks take it (R4, R106). -/
def State.railLength (s : State) : Nat :=
  match s.rail with
  | none => Config.maxRail
  | some r => r.railLength

/-- The gap G of the rail record. -/
def State.gap (s : State) : Nat :=
  match s.rail with
  | none => 0
  | some r => r.gap

/-- The pick lookahead P of the rail record. -/
def State.lookahead (s : State) : Nat :=
  match s.rail with
  | none => 0
  | some r => r.lookahead

/-- Carriage `k`, if installed. -/
def State.carriage (s : State) (k : Nat) : Option Carriage := s.carriages[k]?

/-- Carriage `k`'s configuration record, if written. -/
def State.record (s : State) (k : Nat) : Option CarriageRecord := (s.carriageRecords[k]?).join

/-- Carriage `k`'s head record, if written. -/
def State.head (s : State) (k : Nat) : Option HeadRecord := (s.headRecords[k]?).join

/-- The run state of carriage `k`, if installed. -/
def State.runState (s : State) (k : Nat) : Option RunState := (s.carriage k).map (·.ctx.runState)

/-- The address a role is mapped to (R143). -/
def State.addressOf (s : State) (r : Role) : Option Nat := s.port.nodeMap.findIdx? (· == some r)

/-- The role of an address (R143). -/
def State.roleOf (s : State) (address : Nat) : Option Role := (s.port.nodeMap[address]?).join

/-- The known span of carriage `k`'s reservation. -/
def State.span (s : State) (k : Nat) : Option Interval := ((s.carriage k).bind (·.reservation)).map (·.span)

/-- The installed neighbours of carriage `k`, left before right (R53). -/
def State.neighbours (s : State) (k : Nat) : List Nat :=
  (if 0 < k then [k - 1] else []) ++ (if k + 1 < s.carriages.length then [k + 1] else [])

/-- A fence's interval as used: its bounds clamped to the rail length (R82). -/
def State.fenceSpan (s : State) (f : Fence) : Interval := clampSpan s.railLength f.span.lo f.span.hi

/-- The line is idle (R2): every installed carriage is ISOLATED or EXCLUDED and none is ACTIVE or STOPPING. -/
def State.lineIdle (s : State) : Bool :=
  s.carriages.all fun c =>
    (c.ctx.membership == .isolated || c.ctx.membership == .excluded) && c.ctx.runState != .active &&
      c.ctx.runState != .stopping

/-- The drive role of an axis of carriage `k`. -/
def driveRole (k : Nat) : Axis → Role
  | .x => .xDrive k
  | .z => .zDrive k

/-! Changing one part of the state. -/

def State.withCarriages (s : State) (cs : List Carriage) : State := { s with carriages := cs }
def State.withPort (s : State) (p : PortUnit) : State := { s with port := p }
def State.withManagement (s : State) (m : Management) : State := { s with management := m }
def State.withReports (s : State) (rs : List Report) : State := { s with reports := rs }
def State.withFences (s : State) (fs : List Fence) : State := { s with fences := fs }
def State.withBays (s : State) (bs : List Bay) : State := { s with bays := bs }
def State.withSaws (s : State) (ss : List Saw) : State := { s with saws := ss }
def State.withInputs (s : State) (i : Inputs) : State := { s with inputs := i }
def State.withLamps (s : State) (l : LampUnit) : State := { s with lamps := l }
def State.withStamps (s : State) (c : Clock) : State := { s with stampCounter := c }

/-- Carriage `k` changed by `f`; nothing where it is not installed. -/
def State.modCarriage (s : State) (k : Nat) (f : Carriage → Carriage) : State :=
  s.withCarriages (s.carriages.modify k f)

/-- The context of carriage `k` changed by `f`. -/
def State.modContext (s : State) (k : Nat) (f : Context → Context) : State :=
  s.modCarriage k fun c => { c with ctx := f c.ctx }

/-- A counter of carriage `k` changed by `f` (R8). -/
def State.countFor (s : State) (k : Nat) (f : CarriageCounters → CarriageCounters) : State :=
  s.modContext k fun c => { c with counters := f c.counters }

/-- A report handed to the Admission Unit, acted on when the rest of the step is done (log 7). -/
def State.report (s : State) (r : Report) : State := s.withReports (s.reports ++ [r])

/-! Notices (R166). -/

/-- A notice handed to the Management Agent: discarded without a CONTROLLER, placed while there is room, otherwise
discarded with the overflow flag set. -/
def hand (s : State) (kind : NoticeKind) (subject : Option Nat) (reference : Reference) (cause : Cause)
    (detail : Detail) : State :=
  match s.addressOf .controller with
  | none => s
  | some _ =>
    if s.management.notices.length < Config.noticeRoom then
      s.withManagement
        { s.management with
          notices := s.management.notices ++ [⟨kind, subject, reference, cause, detail, s.lineClock⟩] }
    else s.withManagement { s.management with overflow := true }

/-- The STATE_CHANGE notice of a cause (R29). -/
def handStateChange (s : State) (k : Nat) (cause : Cause) : State :=
  hand s .stateChange (some k) .absent cause .absent

/-- A fault flag added to carriage `k`, with its FAULT notice when it passes from clear to set (R129). -/
def raiseFlag (s : State) (k : Nat) (f : Flag) : State :=
  match s.carriage k with
  | none => s
  | some c =>
    if c.ctx.flags.has f then s
    else hand (s.modContext k fun x => { x with flags := x.flags.add f }) .fault (some k) .absent f.cause .absent

/-! Held moves: the end of one (R81). -/

/-- The held move of carriage `k` leaves its slot, with its HOLD_END notice; nothing where the slot is EMPTY. -/
def endHeld (s : State) (k : Nat) (cause : Cause) (detail : Detail) : State :=
  match (s.carriage k).bind (·.slot) with
  | none => s
  | some h => hand (s.modCarriage k fun c => { c with slot := none }) .holdEnd (some k) (.tag h.tag) cause detail

/-! The D-forward queue and the STOP injection queue (R126, R147). -/

/-- A frame placed in the D-forward queue, or nothing where it is full (R147). -/
def placeDown (s : State) (f : Frame) : Option State :=
  if s.port.dForward.length < Config.forwardRoom then
    some (s.withPort { s.port with dForward := s.port.dForward ++ [f] })
  else none

/-- The frame is a MOVE addressed to a node. -/
def Frame.isMoveTo (node : Nat) (f : Frame) : Bool := f.kind == Kind.move && f.dst.toNat == node

/-- A held move is marked as waiting for room in the D-forward queue (R77). -/
def State.someWaits (s : State) : Bool := s.carriages.any fun c => c.slot.any (·.waitingForRoom)

/-- A frame has left the D-forward queue, and room is reported (R147). The report stands until WAITING_FOR_ROOM takes it, so
that a frame from port U may take the place before it or after it; where no held move waits for room it has nothing to bring
about, and none is made (log 10). -/
def reportRoom (s : State) : State :=
  if s.someWaits then s.withPort { s.port with roomReports := s.port.roomReports + 1 } else s

/-- Every waiting MOVE frame for a node withdrawn from the D-forward queue; room is reported when one was (R126,
R147). -/
def withdrawMoves (s : State) (node : Nat) : State :=
  let kept := s.port.dForward.filter fun f => !f.isMoveTo node
  if kept.length < s.port.dForward.length then reportRoom (s.withPort { s.port with dForward := kept }) else s

/-- The active move of an axis of carriage `k` made absent (R22). -/
def clearActive (s : State) (k : Nat) : Axis → State
  | .x => s.modContext k fun c => { c with activeX := none }
  | .z => s.modContext k fun c => { c with activeZ := none }

/-- The own sequence counter's value taken by an originated frame (R152). -/
def takeSeq (s : State) : State := s.withPort { s.port with ownSeq := s.port.ownSeq + 1 }

/-- A STOP entry made at the tail for a node that has none, origin PART (R126); a node that has one keeps it. -/
def enterStop (s : State) (node : Nat) (reason : StopReason) : State :=
  if s.port.stops.any (·.node == node) then s
  else
    takeSeq
      (s.withPort
        { s.port with
          stops :=
            s.port.stops ++ [⟨node, reason, .part, BitVec.ofNat 8 s.port.ownAddress, s.port.ownSeq⟩] })

/-- A STOP request for one drive of carriage `k` (R126): made or merged, it clears the active move of the axis and
withdraws the waiting MOVE frames; a role that holds no address makes no entry and withdraws nothing. -/
def requestStop (s : State) (k : Nat) (axis : Axis) (reason : StopReason) : State :=
  let s := clearActive s k axis
  match s.addressOf (driveRole k axis) with
  | none => s
  | some node => withdrawMoves (enterStop s node reason) node

/-- STOP requested for both drives, X before Z (R126). -/
def requestStops (s : State) (k : Nat) (reason : StopReason) : State :=
  requestStop (requestStop s k .x reason) k .z reason

/-- The run state of carriage `k` set to STOPPING with both still marks no (R18). -/
def enterStopping (s : State) (k : Nat) : State :=
  s.modContext k fun c => { c with runState := .stopping, stillX := false, stillZ := false }

/-- A halt request (R18): the flag it names is added, and the run state decides the rest. The notices come in the order
FAULT, HOLD_END, STATE_CHANGE (R29, R81). -/
def haltCarriage (s : State) (k : Nat) (reason : StopReason) (flag : Option Flag) : State :=
  let s :=
    match flag with
    | none => s
    | some f => raiseFlag s k f
  match s.runState k with
  | none => s
  | some .active =>
    let s := endHeld s k reason.endCause .absent
    let s := requestStops (enterStopping s k) k reason
    handStateChange s k .stopping
  | some .lost => s
  | some .unseen => requestStops s k reason
  | some .stopping => requestStops s k reason
  | some .halted => requestStops s k reason

/-- Several carriages halted for closeness, in the order given: reason EXCURSION, no flag. -/
def haltNeighbours (s : State) (js : List Nat) : State :=
  js.foldl (fun s j => haltCarriage s j .excursion none) s

/-! Fences (R82 to R84). -/

/-- Some known reservation intersects the fence (R83). -/
def State.fenceHeld (s : State) (f : Fence) : Bool :=
  s.carriages.any fun c =>
    match c.reservation with
    | none => false
    | some r => r.span.intersects (s.fenceSpan f)

/-- One PENDING fence tested: clear of every known reservation it becomes ON, with a FENCE notice (R84). -/
def testFence (s : State) (i : Nat) : State :=
  match s.fences[i]? with
  | none => s
  | some f =>
    if f.state = .pending ∧ s.fenceHeld f = false then
      hand (s.withFences (s.fences.set i { f with state := .on })) .fence (some i) .absent .on .absent
    else s

/-- Every PENDING fence tested, in index order (R84). -/
def testFences (s : State) : State := (List.range 8).foldl testFence s

/-- A PENDING or ON fence (R82). -/
def Fence.standing (f : Fence) : Bool := f.state != .off

/-- A span lies closer than G to a PENDING or ON fence that an occupancy does not intersect (R14, R24, R45). -/
def State.nearFence (s : State) (span occ : Interval) : Bool :=
  s.fences.any fun f =>
    f.standing && !(s.fenceSpan f).intersects occ && !span.apart s.gap (s.fenceSpan f)

/-! Reservations (R43). -/

/-- A span of carriage `k` lies at least G from the known reservation of neighbour `j`, in rail order (R34, log 11). -/
def State.apartFrom (s : State) (k j : Nat) (span : Interval) : Bool :=
  match s.span j with
  | none => true
  | some r => if j < k then r.apartInOrder s.gap span else span.apartInOrder s.gap r

/-- The neighbours of `k` whose known reservations a span of `k` lies closer than G to. -/
def State.closeNeighbours (s : State) (k : Nat) (span : Interval) : List Nat :=
  (s.neighbours k).filter fun j => !s.apartFrom k j span

/-- The reports a change of reservation makes (R43, R74): a bound moved inward is a shrink for the neighbour on that
side, and passing from UNKNOWN to known is reported to both sides. -/
def reservationReports (k : Nat) (before after : Option Reservation) : List Report :=
  match before, after with
  | some b, some a =>
    (if 0 < k ∧ b.span.lo < a.span.lo then [.shrink k (k - 1)] else []) ++
      (if a.span.hi < b.span.hi then [.shrink k (k + 1)] else [])
  | none, some _ => [.known k]
  | _, none => []

/-- A reservation changed: stored whole, the reports made, and every PENDING fence tested (R43, R84). Its FENCE notices are
handed here, after those that the step has handed already and before those that it hands later (VERDICT, HOLD_END, FAULT,
STATE_CHANGE): the manual gives no order between them but at a line reset (DESIGN CHOICE, log 39). -/
def setReservation (s : State) (k : Nat) (r : Option Reservation) : State :=
  match s.carriage k with
  | none => s
  | some c =>
    let s := s.modCarriage k fun x => { x with reservation := r }
    testFences (s.withReports (s.reports ++ reservationReports k c.reservation r))

/-- The occupancy of carriage `k` at its last X position (R32). -/
def State.currentOccupancy (s : State) (k : Nat) : Option Interval :=
  match s.carriage k, s.record k with
  | some c, some r => c.ctx.lastX.map fun x => occupancy r s.railLength x.position
  | _, _ => none

/-- A span lies closer than G to a PENDING or ON fence that carriage `k`'s current occupancy does not intersect (R14, R45).
-/
def State.nearFenceOf (s : State) (k : Nat) (span : Interval) : Bool :=
  match s.currentOccupancy k with
  | none => false
  | some occ => s.nearFence span occ

/-- The envelope of carriage `k` at its last X position and velocity (R33). -/
def State.currentEnvelope (s : State) (k : Nat) : Option Interval :=
  match s.carriage k, s.record k with
  | some c, some r => c.ctx.lastX.map fun x => envelope r s.railLength x.position x.velocity
  | _, _ => none

end Sys2Proof.Machine
end

