-- ==== Sys2Proof/Machine/Admission.lean ====
section
/-! DEFINITION. The Admission Unit: free limits (R53, R54), the judgement of X and Z moves (R57 to R65), verdicts (R66),
the SHADOW path (R67 to R69), the held-move slot, deadlock and re-evaluation (R70 to R81). -/

namespace Sys2Proof.Machine

/-- What routing a good frame came to (R142): acted on, dropped at a full queue, or discarded. -/
inductive Routing where
  | good
  | overrun
  | misdirected
  deriving DecidableEq, Repr

/-! Free limits (R53). -/

/-- A free limit and its blocker, none for the end of the rail. -/
structure Limit where
  value : Nat
  blocker : Option Blocker
  deriving DecidableEq, Repr

/-- The left candidate of a fence taken into a left limit: the greatest wins, a tie keeps an earlier blocker. -/
def takeLeft (s : State) (occ : Interval) (l : Limit) (i : Nat) : Limit :=
  match s.fences[i]? with
  | none => l
  | some f =>
    let span := s.fenceSpan f
    if f.standing && span.leftOf occ then
      let c := span.hi + s.gap
      if l.value < c ∨ (l.value = c ∧ l.blocker = none) then ⟨c, some (.fence i)⟩ else l
    else l

/-- The right candidate of a fence taken into a right limit: the least wins, a tie keeps an earlier blocker. -/
def takeRight (s : State) (occ : Interval) (l : Limit) (i : Nat) : Limit :=
  match s.fences[i]? with
  | none => l
  | some f =>
    let span := s.fenceSpan f
    if f.standing && occ.leftOf span then
      let c := span.lo - s.gap
      if c < l.value ∨ (l.value = c ∧ l.blocker = none) then ⟨c, some (.fence i)⟩ else l
    else l

/-- leftFree of carriage `k` for an occupancy, with its blocker (R53). -/
def State.leftFree (s : State) (k : Nat) (occ : Interval) : Limit :=
  let start : Limit :=
    if k = 0 then ⟨0, none⟩
    else
      match s.span (k - 1) with
      | none => ⟨occ.lo, some (.carriage (k - 1))⟩
      | some r => ⟨r.hi + s.gap, some (.carriage (k - 1))⟩
  (List.range 8).foldl (takeLeft s occ) start

/-- rightFree of carriage `k` for an occupancy, with its blocker (R53). -/
def State.rightFree (s : State) (k : Nat) (occ : Interval) : Limit :=
  let start : Limit :=
    if k + 1 < s.carriages.length then
      match s.span (k + 1) with
      | none => ⟨occ.hi, some (.carriage (k + 1))⟩
      | some r => ⟨r.lo - s.gap, some (.carriage (k + 1))⟩
    else ⟨s.railLength, none⟩
  (List.range 8).foldl (takeRight s occ) start

/-- A target occupancy meets a PENDING or ON fence that the current occupancy intersects (R54). -/
def State.fencedTarget (s : State) (occ targetOcc : Interval) : Bool :=
  s.fences.any fun f =>
    f.standing && (s.fenceSpan f).intersects occ && (s.fenceSpan f).intersects targetOcc

/-! Judgements. -/

/-- A blocked X move: blocking side and blocker (R59), the shorter target of R38 where one exists, the direction of
travel and the clamped speed. -/
structure Block where
  side : Side
  blocker : Option Blocker
  shorter : Option Nat
  rightward : Bool
  speed : Nat
  deriving DecidableEq, Repr

/-- The judgement of a move: refused with a cause, a waitable precondition failed (R57), the fit failed (R59), or the
target, speed limit and clamped flag it is forwarded with. -/
inductive Judgement where
  | refuse (cause : Cause)
  | waitable (cause : Cause)
  | blocked (b : Block)
  | forward (target speed : Nat) (clamped : Bool)
  deriving DecidableEq, Repr

/-- Where a move is judged from: a position and an X velocity. -/
structure Standing where
  x : Nat
  v : Int
  deriving DecidableEq, Repr

/-- The standing of a carriage: its last X fields, or in rehearsal its virtual position at velocity 0 (R68). -/
def Carriage.standing (c : Carriage) (shadow : Bool) : Option Standing :=
  if shadow then c.virtualX.map fun p => ⟨p, 0⟩ else c.ctx.lastX.map fun a => ⟨a.position, a.velocity⟩

/-- The load state is one of those listed. -/
def Carriage.loadIn (c : Carriage) (phases : List LoadPhase) : Bool :=
  match c.load with
  | none => false
  | some l => phases.contains l.phase

/-- The run-state precondition: ACTIVE, or in rehearsal ACTIVE or HALTED (R57, R68). -/
def Carriage.mayMove (c : Carriage) (shadow : Bool) : Bool :=
  c.ctx.runState == .active || (shadow && c.ctx.runState == .halted)

/-- The head is low: the last Z position is below zClear (or absent), or an active Z move has a target below it (R57). -/
def Carriage.headLow (c : Carriage) (r : CarriageRecord) : Bool :=
  (match c.ctx.lastZ with
    | none => true
    | some z => z.position < r.zClear) ||
  (match c.ctx.activeZ with
    | none => false
    | some m => m.target < r.zClear)

/-- The shorter target of R38 from position `p` toward `x`, where there is progress and the envelope fits. -/
def shorterTarget (r : CarriageRecord) (p x leftFree rightFree : Nat) (e : Interval) : Option Nat :=
  if leftFree ≤ e.lo ∧ e.hi ≤ rightFree then
    if p < x then (if p < rightFree - r.rightExt then some (rightFree - r.rightExt) else none)
    else if x < p then (if leftFree + r.leftExt < p then some (leftFree + r.leftExt) else none)
    else none
  else none

/-- The fit test of R59 for a clamped target and speed limit. -/
def judgeFit (s : State) (k : Nat) (r : CarriageRecord) (st : Standing) (x speed : Nat) (clamped : Bool) : Judgement :=
  let occ := occupancy r s.railLength st.x
  let targetOcc := occupancy r s.railLength x
  if s.fencedTarget occ targetOcc then .refuse .fenced
  else
    let e := envelope r s.railLength st.x st.v
    let span := e.hull targetOcc
    let left := s.leftFree k occ
    let right := s.rightFree k occ
    let overLeft := span.lo < left.value
    let overRight := right.value < span.hi
    if !overLeft && !overRight then .forward x speed clamped
    else
      let side : Side :=
        if overLeft && overRight then (if x < st.x then .left else .right)
        else if overLeft then .left
        else .right
      .blocked
        { side := side
          blocker := if side = .left then left.blocker else right.blocker
          shorter := shorterTarget r st.x x left.value right.value e
          rightward := decide (st.x < x)
          speed := speed }

/-- The judgement of an X move (R57, R59) after the preconditions shared by every move. -/
def judgeX (s : State) (k : Nat) (c : Carriage) (r : CarriageRecord) (st : Standing) (target speed : Nat) : Judgement :=
  if c.headLow r then .waitable .headLow
  else if c.loadIn [.gripping, .checking, .releasing] then .waitable .loadBusy
  else if c.loadIn [.rejected] then .refuse .loadRejected
  else if speed = 0 then .refuse .badField
  else
    let x := clampTarget r target
    let v := clampSpeed r speed
    judgeFit s k r st x v (x != target || v != speed)

/-- The judgement of a raise (R63) after the preconditions shared by every move. -/
def judgeRaise (c : Carriage) (r : CarriageRecord) (target speed : Nat) : Judgement :=
  if c.loadIn [.gripping, .releasing] then .waitable .loadBusy
  else if speed = 0 then .refuse .badField
  else .forward (min target r.zMax) speed (min target r.zMax != target)

/-- The bay whose window contains a position: the first in index order that is not UNUSED (R39, R120). -/
def State.bayAt (s : State) (p : Nat) : Option Nat :=
  s.bays.findIdx? fun b => b.state != .unused && inWindow p b.centre b.tolerance

/-- The saw whose window contains a position: the first in index order that is written (R39). -/
def State.sawAt (s : State) (p : Nat) : Option Nat :=
  s.saws.findIdx? fun j =>
    match j.config with
    | none => false
    | some c => inWindow p c.centre c.tolerance

/-- The stack top of a bay (R106). -/
def Bay.top (b : Bay) : Nat := b.base + b.count * b.thickness

/-- The press depth of carriage `k`'s head; a free value, within its range, while the head record is unwritten (R39,
log 18). -/
def State.press (s : State) (k : Nat) : Nat :=
  match s.head k with
  | none => min (Config.unwrittenPress k s.lineClock) 200
  | some h => h.press

/-- The load is LOADED or REJECTED with origin bay `b`: a lowering over it is a put-back (R65). -/
def LoadRecord.fromBay (l : LoadRecord) (b : Nat) : Bool :=
  (l.phase == .loaded || l.phase == .rejected) && l.originBay == b

/-- What a bay under a lowering imposes (R65): the cause it refuses with, or nothing. -/
def bayObjection (bay : Bay) (b : Nat) (load : Option LoadRecord) : Option Cause :=
  if bay.state = .restock then some .bayRestock
  else
    match load with
    | none => if bay.state = .empty then some .bayEmpty else none
    | some l =>
      if bay.state = .empty ∧ l.fromBay b = false then some .bayEmpty
      else if (l.phase = .loaded ∨ l.phase = .rejected) ∧ l.originBay ≠ b then some .wrongBay
      else none

/-- The floor of a lowering at a position (R39), or the cause with which the window refuses it (R64, R65). -/
def loweringFloor (s : State) (k : Nat) (c : Carriage) (p : Nat) : Except Cause Nat :=
  match s.bayAt p with
  | some b =>
    match s.bays[b]? with
    | none => .error .noWindow
    | some bay =>
      match bayObjection bay b c.load with
      | some cause => .error cause
      | none => .ok (bay.top - s.press k)
  | none =>
    match (s.sawAt p).bind (s.saws[·]?) with
    | none => .error .noWindow
    | some saw =>
      match saw.config, c.load with
      | some cfg, some l =>
        if l.phase = .loaded then .ok (cfg.tableHeight + l.thickness - s.press k) else .error .noLoad
      | _, _ => .error .noLoad

/-- The X axis is at rest (R64); in rehearsal the test is met (R68). -/
def Carriage.xAtRest (c : Carriage) (r : CarriageRecord) : Bool :=
  c.ctx.activeX.isNone &&
    (match c.ctx.lastX with
    | none => false
    | some a => a.velocity.natAbs ≤ r.vStill)

/-- The judgement of a lowering (R64, R65) after the preconditions shared by every move. -/
def judgeLowering (s : State) (k : Nat) (c : Carriage) (r : CarriageRecord) (st : Standing) (shadow : Bool)
    (target speed : Nat) : Judgement :=
  if c.loadIn [.gripping, .checking, .releasing] then .waitable .loadBusy
  else if !shadow && !c.xAtRest r then .waitable .xMoving
  else if speed = 0 then .refuse .badField
  else
    match loweringFloor s k c st.x with
    | .error cause => .refuse cause
    | .ok floor =>
      let z := min (max target floor) r.zMax
      .forward z speed (z != target)

/-- A Z target is a lowering: below both the last Z position and zClear (R63). -/
def Carriage.lowers (c : Carriage) (r : CarriageRecord) (target : Nat) : Bool :=
  match c.ctx.lastZ with
  | none => false
  | some z => target < z.position && target < r.zClear

/-- The judgement of a move for carriage `k` from its state as it stands (R57, R63, R64, R68): first the three
preconditions shared by every move, ESTOP, NOT_ACTIVE and STALE. DESIGN CHOICE (log 43): R68 refuses a SHADOW MOVE without
a virtual position NOT_ACTIVE and tests ESTOP as for NORMAL; where both hold, ESTOP is tested first, in the order of R57. -/
def judge (s : State) (k : Nat) (shadow : Bool) (axis : Axis) (target speed : Nat) : Judgement :=
  if s.inputs.emergency then .refuse .estop
  else
    match s.carriage k, s.record k with
    | some c, some r =>
      match c.standing shadow with
      | none => .refuse .notActive
      | some st =>
        if !c.mayMove shadow then .refuse .notActive
        else if !c.ctx.fresh then .refuse .stale
        else
          match axis with
          | .x => judgeX s k c r st target speed
          | .z => if c.lowers r target then judgeLowering s k c r st shadow target speed else judgeRaise c r target speed
    | _, _ => .refuse .notActive

/-! Verdicts (R66). -/

def countAdmitted (s : State) (k : Nat) : State := s.countFor k fun c => { c with admitted := bump c.admitted }
def countClamped (s : State) (k : Nat) : State := s.countFor k fun c => { c with clamped := bump c.clamped }
def countHeld (s : State) (k : Nat) : State := s.countFor k fun c => { c with held := bump c.held }
def countRefused (s : State) (k : Nat) : State := s.countFor k fun c => { c with refused := bump c.refused }

/-- A MOVE verdict notice (R66). -/
def handVerdict (s : State) (k : Nat) (tag : Byte) (cause : Cause) (detail : Detail) : State :=
  hand s .verdict (some k) (.tag tag) cause detail

/-- The verdict REFUSED with a cause: counted, with its notice. -/
def verdictRefused (s : State) (k : Nat) (tag : Byte) (cause : Cause) : State :=
  handVerdict (countRefused s k) k tag .refused (.cause cause)

/-- The verdict CLAMPED with the forwarded target: counted, with its notice. -/
def verdictClamped (s : State) (k : Nat) (tag : Byte) (target : Nat) : State :=
  handVerdict (countClamped s k) k tag .clamped (.position target)

/-! Forwarding (R59, R62, R77). -/

/-- The active move of an axis set (R22). -/
def setActive (s : State) (k : Nat) (axis : Axis) (m : ActiveMove) : State :=
  match axis with
  | .x => s.modContext k fun c => { c with activeX := some m }
  | .z => s.modContext k fun c => { c with activeZ := some m }

/-- The reservation of a forwarded X move: the hull of the envelope and the occupancy at the target (R59). -/
def State.admittedSpan (s : State) (k target : Nat) : Option Interval :=
  match s.currentEnvelope k, s.record k with
  | some e, some r => some (e.hull (occupancy r s.railLength target))
  | _, _ => none

/-- A MOVE forwarded for carriage `k`: its frame enters the D-forward queue, the active move is set, and an X move sets
the reservation, all in one step (R59, R62, R77); nothing where the queue is full. -/
def forwardMove (s : State) (k : Nat) (axis : Axis) (f : Frame) (target : Nat) (tag : Byte) : Option State :=
  match placeDown s f with
  | none => none
  | some s =>
    let s := setActive s k axis ⟨target, tag⟩
    match axis with
    | .z => some s
    | .x =>
      match s.admittedSpan k target with
      | none => some s
      | some span => some (setReservation s k (some ⟨span, .plain⟩))

/-! The held-move slot (R70 to R73). -/

/-- The held move of carriage `k`. -/
def State.held (s : State) (k : Nat) : Option HeldMove := (s.carriage k).bind (·.slot)

/-- The slot of carriage `k` set. -/
def setSlot (s : State) (k : Nat) (h : HeldMove) : State := s.modCarriage k fun c => { c with slot := some h }

/-- A blocker waits in its turn on carriage `k` (R72). -/
def State.waitsOnEachOther (s : State) (k : Nat) (blocker : Option Blocker) : Bool :=
  match blocker with
  | some (.carriage j) =>
    match s.held j with
    | some h => h.blocker == some (.carriage k)
    | none => false
  | _ => false

/-- What a move is held for: cause, blocking side, blocker, and the last forwarded clamped target. -/
structure Waiting where
  cause : Cause
  side : Option Side
  blocker : Option Blocker
  lastClamped : Option Nat
  deriving DecidableEq, Repr

/-- A move handed to the slot of carriage `k` (R71): refused DEADLOCK by the check of R72, or entered with its deadline
and the next entry stamp, the held counter and the HELD verdict. A Z move marked CLAMP_WAIT is held as WAIT (R70). -/
def holdMove (s : State) (k : Nat) (axis : Axis) (m : MoveFields) (action : BlockedAction) (w : Waiting) : State :=
  if s.waitsOnEachOther k w.blocker then verdictRefused s k m.tag .deadlock
  else
    let h : HeldMove :=
      { axis := axis
        target := m.target
        speed := m.speed
        tag := m.tag
        action := if axis = .z then .wait else action
        cause := w.cause
        side := w.side
        blocker := w.blocker
        arrival := s.lineClock
        deadline := after s.lineClock (((s.record k).map (·.holdTime)).getD 0)
        stamp := s.stampCounter
        lastClamped := w.lastClamped
        waitingForRoom := false }
    let s := (setSlot s k h).withStamps (s.stampCounter + 1)
    handVerdict (countHeld s k) k m.tag .held (.cause w.cause)

/-! A MOVE for a NORMAL carriage (R55 to R62). -/

/-- The received MOVE with its target, speed limit and clamped flag as the verdict sets them (R62). -/
def rewriteMove (f : Frame) (tag : Byte) (axis : Axis) (target speed : Nat) (action : BlockedAction) (clamped : Bool) :
    Frame :=
  { f with payload := moveBytes tag axis target speed action clamped }

/-- The blocked action waits. -/
def BlockedAction.waits : BlockedAction → Bool
  | .wait => true
  | .clampWait => true
  | .refuse => false
  | .clamp => false

/-- The blocked action offers a shorter target. -/
def BlockedAction.clamps : BlockedAction → Bool
  | .clamp => true
  | .clampWait => true
  | .refuse => false
  | .wait => false

/-- The cause of a blocked move that is neither forwarded nor held: NO_ROOM under CLAMP (R60), else BLOCKED. -/
def BlockedAction.blockedCause : BlockedAction → Cause
  | .clamp => .noRoom
  | .refuse => .blocked
  | .wait => .blocked
  | .clampWait => .blocked

/-- A blocked X move decided by its blocked action (R58, R60, R61). -/
def decideBlocked (s : State) (k : Nat) (f : Frame) (m : MoveFields) (action : BlockedAction) (b : Block) :
    State × Routing :=
  match (if action.clamps then b.shorter else none) with
  | some x =>
    match forwardMove s k .x (rewriteMove f m.tag .x x b.speed action true) x m.tag with
    | none => (s, .overrun)
    | some s' =>
      let s' := verdictClamped s' k m.tag x
      if action.waits then (holdMove s' k .x m action ⟨.blocked, some b.side, b.blocker, some x⟩, .good)
      else (s', .good)
  | none =>
    if action.waits then (holdMove s k .x m action ⟨.blocked, some b.side, b.blocker, none⟩, .good)
    else (verdictRefused s k m.tag action.blockedCause, .good)

/-- The verdict on a MOVE for a NORMAL carriage (R57 to R65). A forwarding that finds the D-forward queue full is dropped
as an overrun, and every other effect of the judgement with it (R62). -/
def decideMove (s : State) (k : Nat) (axis : Axis) (f : Frame) (m : MoveFields) (action : BlockedAction) :
    State × Routing :=
  match judge s k false axis m.target m.speed with
  | .refuse cause => (verdictRefused s k m.tag cause, .good)
  | .waitable cause =>
    if action.waits then (holdMove s k axis m action ⟨cause, none, none, none⟩, .good)
    else (verdictRefused s k m.tag cause, .good)
  | .blocked b => decideBlocked s k f m action b
  | .forward target speed clamped =>
    match forwardMove s k axis (rewriteMove f m.tag axis target speed action clamped) target m.tag with
    | none => (s, .overrun)
    | some s' =>
      if clamped then (verdictClamped s' k m.tag target, .good) else (countAdmitted s' k, .good)

/-! The SHADOW path (R67 to R69). -/

/-- A SHADOW_VERDICT notice (R69). -/
def handShadow (s : State) (k : Nat) (tag : Byte) (cause : Cause) (detail : Detail) : State :=
  hand s .shadowVerdict (some k) (.tag tag) cause detail

/-- The virtual position set by a shadow verdict on an X move (R67). -/
def setVirtual (s : State) (k : Nat) (axis : Axis) (x : Nat) : State :=
  match axis with
  | .x => s.modCarriage k fun c => { c with virtualX := some x }
  | .z => s

/-- The judgement of a MOVE for a SHADOW carriage: reported, and nothing forwarded, held or counted (R68, R69). -/
def shadowMove (s : State) (k : Nat) (axis : Axis) (m : MoveFields) (action : BlockedAction) : State :=
  match judge s k true axis m.target m.speed with
  | .refuse cause => handShadow s k m.tag .refused (.cause cause)
  | .waitable cause =>
    if action.waits then handShadow s k m.tag .wouldHold (.cause cause)
    else handShadow s k m.tag .refused (.cause cause)
  | .forward target _ clamped =>
    let s := setVirtual s k axis target
    if clamped then handShadow s k m.tag .clamped (.position target) else handShadow s k m.tag .admitted .absent
  | .blocked b =>
    match (if action.clamps then b.shorter else none) with
    | some x =>
      let s := handShadow (setVirtual s k .x x) k m.tag .clamped (.position x)
      if action.waits then handShadow s k m.tag .wouldHold (.cause .blocked) else s
    | none =>
      if action.waits then handShadow s k m.tag .wouldHold (.cause .blocked)
      else handShadow s k m.tag .refused (.cause action.blockedCause)

/-- A good MOVE from port U to the drive of an axis of carriage `k` (R55, R56, R176): routed by membership. A MOVE of
the wrong length, axis or blocked action is refused BAD_FIELD before its preconditions; tag 0 stands for one that the
payload is too short to hold. -/
def admitMove (s : State) (k : Nat) (axis : Axis) (f : Frame) : State × Routing :=
  let tag := f.payload.headD 0
  match s.carriage k with
  | none => (handVerdict s k tag .refused (.cause .notNormal), .good)
  | some c =>
    match c.ctx.membership with
    | .isolated => (verdictRefused s k tag .notNormal, .good)
    | .excluded => (verdictRefused s k tag .notNormal, .good)
    | .shadow =>
      match parseMove f.payload with
      | some m =>
        match m.action with
        | some action =>
          if m.axis = some axis then (shadowMove s k axis m action, .good)
          else (handShadow s k tag .refused (.cause .badField), .good)
        | none => (handShadow s k tag .refused (.cause .badField), .good)
      | none => (handShadow s k tag .refused (.cause .badField), .good)
    | .normal =>
      let s := endHeld s k .superseded .absent
      match parseMove f.payload with
      | some m =>
        match m.action with
        | some action =>
          if m.axis = some axis then decideMove s k axis f m action
          else (verdictRefused s k tag .badField, .good)
        | none => (verdictRefused s k tag .badField, .good)
      | none => (verdictRefused s k tag .badField, .good)

/-! Re-evaluation of held moves (R74 to R77). -/

/-- A held move ended by a refusal: its HOLD_END notice, counted as refused (R81). -/
def endRefused (s : State) (k : Nat) (cause : Cause) : State := endHeld (countRefused s k) k cause .absent

/-- Of two entry stamps, `a` is the later (R70). -/
def laterStamp (a b : Clock) : Bool := (a - b).toNat < 2147483648

/-- The deadlock check of a re-evaluation that changed the blocker (R73): the younger of the pair ends DEADLOCK. -/
def recheckDeadlock (s : State) (k : Nat) (before : Option Blocker) : State :=
  match s.held k with
  | none => s
  | some h =>
    if h.blocker = before then s
    else
      match h.blocker with
      | some (.carriage j) =>
        match s.held j with
        | none => s
        | some g =>
          if g.blocker = some (.carriage k) then
            if laterStamp h.stamp g.stamp then endRefused s k .deadlock else endRefused s j .deadlock
          else s
      | _ => s

/-- A MOVE generated for a held move: source the part, the next own sequence value, the held move's tag and recorded
blocked action (R77, log 17). It is not taken where the D-forward queue is full. -/
def generateMove (s : State) (k : Nat) (h : HeldMove) (target speed : Nat) (clamped : Bool) : Option State :=
  match s.addressOf (driveRole k h.axis) with
  | none => none
  | some node =>
    let f : Frame :=
      { dst := BitVec.ofNat 8 node
        src := BitVec.ofNat 8 s.port.ownAddress
        kind := Kind.move
        seq := s.port.ownSeq
        payload := moveBytes h.tag h.axis target speed h.action clamped }
    (forwardMove s k h.axis f target h.tag).map takeSeq

/-- The held move keeps its place with the outcome of a new judgement (R75, R76). Whether it is marked as waiting for room
stays as it was: only a report of room takes the mark (R77, log 9). -/
def stayHeld (s : State) (k : Nat) (h : HeldMove) (w : Waiting) : State :=
  recheckDeadlock
    (setSlot s k { h with cause := w.cause, side := w.side, blocker := w.blocker, lastClamped := w.lastClamped })
    k h.blocker

/-- A shorter target lies strictly beyond the last one forwarded, in the direction of travel (R76). -/
def beyondLast (rightward : Bool) (x : Nat) : Option Nat → Bool
  | none => true
  | some last => if rightward then last < x else x < last

/-- The held move of carriage `k` judged afresh (R75, R76): forwarded in full, inched, kept held or ended. A forwarding
that finds the D-forward queue full marks the move as waiting for room and changes nothing else (R77). -/
def reevaluate (s : State) (k : Nat) : State :=
  match s.held k with
  | none => s
  | some h =>
    match judge s k false h.axis h.target h.speed with
    | .refuse cause => endRefused s k cause
    | .waitable cause => stayHeld s k h ⟨cause, none, none, h.lastClamped⟩
    | .forward target speed clamped =>
      match generateMove s k h target speed clamped with
      | none => setSlot s k { h with waitingForRoom := true }
      | some s' =>
        if clamped then endHeld (countClamped s' k) k .clamped (.position target)
        else endHeld (countAdmitted s' k) k .admitted .absent
    | .blocked b =>
      match (if h.action = .clampWait then b.shorter else none) with
      | none => stayHeld s k h ⟨.blocked, some b.side, b.blocker, h.lastClamped⟩
      | some x =>
        if beyondLast b.rightward x h.lastClamped then
          match generateMove s k h x b.speed true with
          | none => setSlot s k { h with waitingForRoom := true }
          | some s' => stayHeld (verdictClamped s' k h.tag x) k h ⟨.blocked, some b.side, b.blocker, some x⟩
        else stayHeld s k h ⟨.blocked, some b.side, b.blocker, h.lastClamped⟩

/-- The held move of carriage `k` waits on what a report names (R74). -/
def HeldMove.waitsFor (h : HeldMove) (k : Nat) : Report → Bool
  | .shrink j toward => toward == k && h.blocker == some (.carriage j)
  | .known j => (h.side == some .left && k == j + 1) || (h.side == some .right && k + 1 == j)
  | .fenceOff f => h.blocker == some (.fence f)
  | .headUp j => j == k && h.cause == .headLow
  | .loadFree j => j == k && h.cause == .loadBusy
  | .xRest j => j == k && h.cause == .xMoving
  | .room => h.waitingForRoom

/-- A report of room answers the mark of the held move it is about to re-evaluate, which a forwarding that again finds the
queue full sets anew (R77); every other report leaves the mark as it is (log 9). -/
def answerMark (r : Report) (s : State) (k : Nat) (h : HeldMove) : State :=
  match r with
  | .room => setSlot s k { h with waitingForRoom := false }
  | _ => s

/-- One report acted on: the held move of carriage `k` re-evaluated if it is in its slot and waits on it (R74, R77). -/
def actFor (r : Report) (s : State) (k : Nat) : State :=
  match s.held k with
  | none => s
  | some h => if h.waitsFor k r then reevaluate (answerMark r s k h) k else s

/-- One report acted on for every carriage, in index order, each from the state the one before it leaves (R74). -/
def actOn (s : State) (r : Report) : State := (List.range 4).foldl (actFor r) s

/-- The reports of a step acted on in the order they were made, and those they lead to in turn (R43, R74, log 7). -/
def settle : Nat → State → State
  | 0, s => s
  | fuel + 1, s =>
    match s.reports with
    | [] => s
    | r :: rs => settle fuel (actOn (s.withReports rs) r)

/-- The end of a step: every report it made is acted on. -/
def finish (s : State) : State := settle Config.reportFuel s

/-- A command's effect: nothing while RESET_N is low (R170), otherwise the effect with its reports acted on. -/
def live (s : State) (effect : State → State) : Host.Outcome State Fault Refusal :=
  if s.inputs.resetLow then .next s else .next (finish (effect s))

end Sys2Proof.Machine
end

