-- ==== Sys2Proof/Machine/Tracker.lean ====
section
/-! DEFINITION. The Carriage Tracker and the Span Table's updates: arrivals and freshness (R9, R14 to R16), X STATE updates
and excursions (R44 to R47), first data (R13), recovery (R17, R50), still marks (R19), unbidden motion (R20), and the
reading of a STATE (R10, R11). -/

namespace Sys2Proof.Machine

/-! Arrivals (R9). -/

/-- A node's arrival recorded, and the node added to the arrival set (R9). -/
def Context.arrived (c : Context) (now : Clock) : Node → Context
  | .xDrive => { c with arrivalX := some now, inSetX := true }
  | .zDrive => { c with arrivalZ := some now, inSetZ := true }
  | .head => { c with arrivalHead := some now, inSetHead := true }

/-- The arrival set emptied (R9). -/
def Context.emptySet (c : Context) : Context := { c with inSetX := false, inSetZ := false, inSetHead := false }

/-- All three arrival times are present and less than `w` ms old (R9, R15, R44). -/
def Context.allYoung (c : Context) (now : Clock) (w : Nat) : Bool :=
  match c.arrivalX, c.arrivalZ, c.arrivalHead with
  | some x, some z, some h => age now x < w && age now z < w && age now h < w
  | _, _, _ => false

/-- A fresh arrival set (R9). -/
def Context.freshSet (c : Context) (now : Clock) (w : Nat) : Bool :=
  c.inSetX && c.inSetZ && c.inSetHead && c.allYoung now w

/-- The oldest of the three arrival times, if all are present (R14, log 25). -/
def Context.oldest (c : Context) (now : Clock) : Option Clock :=
  match c.arrivalX, c.arrivalZ, c.arrivalHead with
  | some x, some z, some h => some (older now x (older now z h))
  | _, _, _ => none

/-- The run states in which the stale and lost deadlines are kept and the reservation follows reports (R14, R10). -/
def RunState.tracked : RunState → Bool
  | .active => true
  | .stopping => true
  | .halted => true
  | .unseen => false
  | .lost => false

/-- A deadline `ms` after the oldest arrival, where carriage `k` keeps one: written record, not EXCLUDED, in ACTIVE,
STOPPING or HALTED (R14). -/
def State.reportDeadline (s : State) (k : Nat) (ms : CarriageRecord → Nat) : Option Clock :=
  match s.carriage k, s.record k with
  | some c, some r =>
    if c.ctx.runState.tracked && c.ctx.membership != .excluded then
      (c.ctx.oldest s.lineClock).map fun t => after t (ms r)
    else none
  | _, _ => none

/-- The stale deadline (R14). -/
def State.staleDeadline (s : State) (k : Nat) : Option Clock := s.reportDeadline k (·.w)

/-- The lost deadline (R16): the oldest arrival plus L plus 1. -/
def State.lostDeadline (s : State) (k : Nat) : Option Clock := s.reportDeadline k fun r => r.l + 1

/-! Candidates and excursions (R44 to R47). -/

/-- The candidate of R44: the envelope, with the occupancy of the active X target where one is present. -/
def State.candidate (s : State) (k : Nat) : Option Interval :=
  match s.carriage k, s.record k, s.currentEnvelope k with
  | some c, some r, some e =>
    match c.ctx.activeX with
    | none => some e
    | some m => some (e.hull (occupancy r s.railLength m.target))
  | _, _, _ => none

/-- The grown parts of a candidate beyond the stored span (R45). -/
def grownParts (stored candidate : Interval) : List Interval :=
  (if candidate.lo < stored.lo then [⟨candidate.lo, stored.lo - 1⟩] else []) ++
    (if stored.hi < candidate.hi then [⟨stored.hi + 1, candidate.hi⟩] else [])

/-- The neighbours a grown part lies closer than G to (R45). -/
def State.offended (s : State) (k : Nat) (parts : List Interval) : List Nat :=
  (s.neighbours k).filter fun j => parts.any fun part => !s.apartFrom k j part

/-- A candidate that reaches beyond the stored span (R45): the new span is stored, and if a grown part lies closer than G
to a neighbour or a fence, EXCURSION is set, `k` is halted and so is each offended neighbour. -/
def growReservation (s : State) (k : Nat) (stored candidate : Interval) (new : Reservation) : State :=
  let parts := grownParts stored candidate
  let nearFence := parts.any (s.nearFenceOf k)
  let offended := s.offended k parts
  let s := setReservation s k (some new)
  if offended.isEmpty && !nearFence then s
  else haltNeighbours (haltCarriage s k .excursion (some .excursion)) offended

/-- The reservation set from the candidate, dropping a widening (R44, R45, R47). -/
def followCandidate (s : State) (k : Nat) : State :=
  match s.candidate k, (s.carriage k).bind (·.reservation) with
  | some cand, some stored =>
    if cand.within stored.span then setReservation s k (some ⟨cand, .plain⟩)
    else growReservation s k stored.span cand ⟨cand, .plain⟩
  | some cand, none => setReservation s k (some ⟨cand, .plain⟩)
  | none, _ => s

/-- The update of a carriage that stays STALE (R46): the widened span is never shrunk, and a growth is tested. -/
def followStale (s : State) (k : Nat) : State :=
  match s.candidate k, (s.carriage k).bind (·.reservation) with
  | some cand, some stored =>
    if cand.within stored.span then s
    else growReservation s k stored.span cand ⟨stored.span.hull cand, .widened⟩
  | _, _ => s

/-- The X STATE update of R10 step 3: taken in ACTIVE, STOPPING or HALTED and not EXCLUDED. A FRESH carriage, and one
whose three arrivals are all young, follows its candidate (R42, R44, log 12); a STALE one does not (R46). -/
def updateReservation (s : State) (k : Nat) : State :=
  match s.carriage k, s.record k with
  | some c, some r =>
    if c.ctx.runState.tracked && c.ctx.membership != .excluded then
      if c.ctx.fresh || c.ctx.allYoung s.lineClock r.w then followCandidate s k else followStale s k
    else s
  | _, _ => s

/-! Run-state rules (R10 step 4). -/

/-- Which report a run-state rule is applied to: a drive's, with its reported velocity, or the head's. -/
inductive ReportFrom where
  | drive (axis : Axis) (velocity : Int)
  | head
  deriving DecidableEq, Repr

/-- The run state first data gives a standing carriage (R13). -/
def firstRunState (c : Context) (r : CarriageRecord) (emergency : Bool) : RunState :=
  if c.unseenOrigin = some .powerOn || r.startHeld || c.flags.any || emergency then .halted else .active

/-- First data (R13, R67), taken when carriage `k` has a fresh arrival set. -/
def firstData (s : State) (k : Nat) : State :=
  match s.carriage k, s.record k, s.currentEnvelope k with
  | some c, some r, some e =>
    match c.ctx.lastX with
    | none => s
    | some x =>
      let close := s.closeNeighbours k e
      let moving := decide (r.vStill < x.velocity.natAbs)
      let stopping := moving || !close.isEmpty
      let s := setReservation s k (some ⟨e, .plain⟩)
      let s :=
        s.modCarriage k fun d =>
          { d with
            virtualX := if d.ctx.membership = .shadow then some x.position else d.virtualX
            ctx :=
              { d.ctx with
                fresh := true
                unseenOrigin := none
                runState := if stopping then .stopping else firstRunState d.ctx r s.inputs.emergency
                stillX := if stopping then false else d.ctx.stillX
                stillZ := if stopping then false else d.ctx.stillZ } }
      let s :=
        if stopping then requestStops s k (if close.isEmpty then .halt else .excursion) else s
      let s := handStateChange s k (if stopping then .stopping else (firstRunState c.ctx r s.inputs.emergency).cause)
      haltNeighbours s close
  | _, _, _ => s

/-- Unbidden motion of a HALTED carriage (R20). -/
def unbiddenMotion (s : State) (k : Nat) : State :=
  match s.carriage k, s.record k with
  | some c, some r =>
    if c.ctx.membership = .excluded then
      match s.currentOccupancy k, r.park with
      | some occ, some park =>
        if occ.within park then requestStops s k .halt
        else requestStops (raiseFlag s k .excursion) k .excursion
      | _, _ => requestStops s k .halt
    else handStateChange (requestStops (enterStopping s k) k .halt) k .stopping
  | _, _ => s

/-- The sides on which an envelope reaches beyond the frozen span, as neighbours (R50). -/
def offendingSides (s : State) (k : Nat) (frozen e : Interval) : List Nat :=
  (s.neighbours k).filter fun j =>
    if j < k then decide (e.lo < frozen.lo) else decide (frozen.hi < e.hi)

/-- The reservation of a recovered carriage set to its envelope; where that lies outside the frozen span, an excursion
halts the carriage and the neighbour on each offending side (R50). -/
def unfreeze (s : State) (k : Nat) (e : Interval) : State :=
  let t := setReservation s k (some ⟨e, .plain⟩)
  match s.span k with
  | none => t
  | some frozen =>
    if e.within frozen then t
    else haltNeighbours (haltCarriage t k .excursion (some .excursion)) (offendingSides s k frozen e)

/-- Recovery from LOST (R17, R50). The STATE_CHANGE notice (HALTED) is handed first, then the FENCE notices of PENDING fences
that the shrink clears, then the FAULT notice of an envelope outside the frozen span: R17, R29, R50, R84 and R132 give no
order for the three (DESIGN CHOICE, log 39). -/
def recover (s : State) (k : Nat) (from_ : ReportFrom) : State :=
  match s.record k, s.currentEnvelope k with
  | some r, some e =>
    let s := handStateChange (s.modContext k fun c => { c with fresh := true, runState := .halted }) k .halted
    let s := unfreeze s k e
    match from_ with
    | .drive .x v => if r.vStill < v.natAbs then unbiddenMotion s k else s
    | _ => s
  | _, _ => s

/-- A STALE carriage whose three arrivals are all young becomes FRESH (R15); where the report is not the X STATE, whose
update has set the reservation already, the reservation follows the candidate (R47). -/
def returnToFresh (s : State) (k : Nat) (from_ : ReportFrom) : State :=
  match s.carriage k, s.record k with
  | some c, some r =>
    if c.ctx.membership != .excluded && !c.ctx.fresh && c.ctx.allYoung s.lineClock r.w then
      let s := s.modContext k fun x => { x with fresh := true }
      match from_ with
      | .drive .x _ => s
      | _ => followCandidate s k
    else s
  | _, _ => s

/-- The still mark of an axis set from a reported velocity; with both marks yes, STOPPING becomes HALTED (R19). -/
def markStill (s : State) (k : Nat) (axis : Axis) (v : Int) : State :=
  match s.record k with
  | none => s
  | some r =>
    let still := decide (v.natAbs ≤ r.vStill)
    let s :=
      match axis with
      | .x => s.modContext k fun c => { c with stillX := still }
      | .z => s.modContext k fun c => { c with stillZ := still }
    match s.carriage k with
    | none => s
    | some c =>
      if c.ctx.runState = .stopping ∧ c.ctx.stillX ∧ c.ctx.stillZ then
        handStateChange (s.modContext k fun x => { x with runState := .halted }) k .halted
      else s

/-- The velocity rules of a drive's STATE: still marks in STOPPING (R19), unbidden motion in HALTED (R20). -/
def applyVelocity (s : State) (k : Nat) (before : RunState) (from_ : ReportFrom) : State :=
  match from_ with
  | .head => s
  | .drive axis v =>
    match before with
    | .stopping => markStill s k axis v
    | .halted =>
      match s.record k with
      | none => s
      | some r => if r.vStill < v.natAbs then unbiddenMotion s k else s
    | _ => s

/-- The run-state rules of R10 step 4, chosen by the run state in which the report found the carriage (log 13). -/
def runStateRules (s : State) (k : Nat) (before : RunState) (from_ : ReportFrom) : State :=
  match s.carriage k, s.record k with
  | some c, some r =>
    match before with
    | .unseen => if c.ctx.freshSet s.lineClock r.w then firstData s k else s
    | .lost => if c.ctx.freshSet s.lineClock r.w then recover s k from_ else s
    | _ => applyVelocity (returnToFresh s k from_) k before from_
  | _, _ => s

/-! Reading a STATE (R10, R11). -/

/-- The axis fields of a STATE stored, and its active move completed where the status shows in-position with the same tag
(R10 step 1, R22). -/
def Context.reported (c : Context) (rep : StateReport) : Axis → Context
  | .x =>
    { c with
      lastX := some rep.axis
      activeX := c.activeX.filter fun m => !(rep.axis.status.inPosition && m.tag == rep.tag) }
  | .z =>
    { c with
      lastZ := some rep.axis
      activeZ := c.activeZ.filter fun m => !(rep.axis.status.inPosition && m.tag == rep.tag) }

/-- The reports a STATE makes for held moves (R10, R74): an X STATE after which the axis is at rest, a Z STATE at or above
zClear. -/
def stateReports (s : State) (k : Nat) (axis : Axis) : State :=
  match s.carriage k, s.record k with
  | some c, some r =>
    match axis with
    | .x => if c.xAtRest r then s.report (.xRest k) else s
    | .z =>
      match c.ctx.lastZ with
      | none => s
      | some z => if r.zClear ≤ z.position then s.report (.headUp k) else s
  | _, _ => s

/-- The node of a drive. -/
def driveNode : Axis → Node
  | .x => .xDrive
  | .z => .zDrive

/-- A STATE from a drive of installed carriage `k` read (R9, R10): arrival, fields and completion, drive fault (R11),
reservation, run state, in that order. -/
def readState (s : State) (k : Nat) (axis : Axis) (rep : StateReport) : State :=
  match s.runState k with
  | none => s
  | some before =>
    let s := s.modContext k fun c => (c.arrived s.lineClock (driveNode axis)).reported rep axis
    let s := if rep.axis.status.fault then haltCarriage s k .driveFault (some .driveFault) else s
    let s :=
      match axis with
      | .x => updateReservation s k
      | .z => s
    let s := runStateRules s k before (.drive axis rep.axis.velocity)
    stateReports s k axis

/-- A SENSE_HEAD of installed carriage `k` counted as its head's report (R12). -/
def readHeadArrival (s : State) (k : Nat) : State :=
  match s.runState k with
  | none => s
  | some before =>
    runStateRules (s.modContext k fun c => c.arrived s.lineClock .head) k before .head

/-! Expiries of the Tracker (R14, R16). -/

/-- A reservation widened on both sides and given a stage (R48, R49). -/
def widenReservation (s : State) (k d : Nat) (stage : Stage) : State :=
  match (s.carriage k).bind (·.reservation) with
  | none => s
  | some r => setReservation s k (some ⟨r.span.widen s.railLength d, stage⟩)

/-- The stale expiry (R14, R48), when it falls due for a FRESH carriage. -/
def takeStale (s : State) (k : Nat) : State :=
  match s.carriage k, s.record k, s.staleDeadline k with
  | some c, some r, some deadline =>
    if c.ctx.fresh && reached s.lineClock deadline then
      let s := s.modContext k fun x => { x with fresh := false }
      let s := widenReservation s k (dStale r) .widened
      match s.span k with
      | none => s
      | some span =>
        let close := s.closeNeighbours k span
        if close.isEmpty && !s.nearFenceOf k span then s
        else haltNeighbours (haltCarriage s k .excursion none) close
    else s
  | _, _, _ => s

/-- The lost expiry (R16, R49), when it falls due. It is reached through STALE only (log 16). -/
def takeLost (s : State) (k : Nat) : State :=
  match s.carriage k, s.record k, s.lostDeadline k with
  | some c, some r, some deadline =>
    if !c.ctx.fresh && reached s.lineClock deadline then
      let s := raiseFlag s k .lost
      let s := endHeld s k .lostFlag .absent
      let s := s.modContext k fun x => { x.emptySet with runState := .lost }
      let s := requestStops s k .lost
      let s := widenReservation s k (stopDistance r s.railLength r.vmax) .frozen
      let s := handStateChange s k .lost
      match s.span k with
      | none => s
      | some span => haltNeighbours s (s.closeNeighbours k span)
    else s
  | _, _, _ => s

end Sys2Proof.Machine
end

