-- ==== Sys2Proof/Machine/Feed.lean ====
section
/-! DEFINITION. The Feed Unit: bay counts (R109, R110), Feed Queue entries (R114 to R119), the pick check (R120, R121),
the place check (R123) and the reading of SENSE_SAW (R112). -/

namespace Sys2Proof.Machine

/-- Bay `b` changed by `f`. -/
def State.modBay (s : State) (b : Nat) (f : Bay → Bay) : State := s.withBays (s.bays.modify b f)

/-- Saw `j` changed by `f`. -/
def State.modSaw (s : State) (j : Nat) (f : Saw → Saw) : State := s.withSaws (s.saws.modify j f)

/-! Feed Queue entries (R114). -/

/-- The position of an entry in a queue, counted from 0. -/
def entryIndex (queue : List Entry) (sequence : Nat) : Option Nat := queue.findIdx? (·.sequence == sequence)

/-- Entry `(j, q)` of the Feed Queues. -/
def State.entry (s : State) (j q : Nat) : Option Entry :=
  (s.saws[j]?).bind fun saw => saw.queue.find? (·.sequence == q)

/-- The entry `(j, q)` changed in place (R116). -/
def State.modEntry (s : State) (j q : Nat) (f : Entry → Entry) : State :=
  s.modSaw j fun saw => { saw with queue := saw.queue.map fun e => if e.sequence = q then f e else e }

/-- The entry `(j, q)` removed; those behind it move up (R117, R118). -/
def State.removeEntry (s : State) (j q : Nat) : State :=
  s.modSaw j fun saw => { saw with queue := saw.queue.filter fun e => e.sequence != q }

def Entry.queue (e : Entry) : Entry := { e with state := .queued, carrier := none }
def Entry.pick (e : Entry) (k : Nat) : Entry := { e with state := .picked, carrier := some k }
def Entry.fault (e : Entry) : Entry := { e with state := .faulted, carrier := none }

/-! Bay counts. -/

/-- A confirmed pick lowers the count (R109); one that finds it already 0 sends the bay to RESTOCK. -/
def Bay.confirmPick (b : Bay) : Bay :=
  if b.count = 0 then { b with state := .restock }
  else
    { b with
      count := b.count - 1
      state := if b.state = .active ∧ b.count = 1 then .empty else b.state }

/-- A confirmed put-back of a LOADED panel raises the count (R110), never above 250. -/
def Bay.putBack (b : Bay) : Bay :=
  { b with
    count := min (b.count + 1) 250
    state := if b.state = .empty then .active else b.state }

/-! Checks. -/

/-- What a passed pick check answers: the bay under the carriage and the entry's panel (R121). -/
structure PickAnswer where
  bay : Nat
  top : Nat
  length : Nat
  width : Nat
  thickness : Nat
  deriving DecidableEq, Repr

/-- The entry's panel and the bay's panel are the same (R121). -/
def Entry.matchesBay (e : Entry) (b : Bay) : Bool :=
  b.material == e.material && b.length == e.length && b.width == e.width && b.thickness == e.thickness

/-- The entry names no source bay, or names `b` (R121). -/
def Entry.allowsBay (e : Entry) (b : Nat) : Bool :=
  match e.sourceBay with
  | none => true
  | some x => x == b

/-- The pick check of entry `(j, q)` at position `p` and height `z` (R121): the first condition that fails gives its
cause. -/
def pickCheck (s : State) (contactTol j q p z : Nat) : Except Cause PickAnswer :=
  match (s.saws[j]?).bind fun saw => (entryIndex saw.queue q).bind fun i => (saw.queue[i]?).map fun e => (i, e) with
  | none => .error .noEntry
  | some (i, e) =>
    if e.state ≠ .queued then .error .state
    else if s.lookahead < i + 1 then .error .ahead
    else
      match (s.bayAt p).bind fun b => (s.bays[b]?).map fun bay => (b, bay) with
      | none => .error .noWindow
      | some (b, bay) =>
        if bay.state = .empty then .error .bayEmpty
        else if bay.state = .restock then .error .bayRestock
        else if !e.allowsBay b then .error .wrongBay
        else if !e.matchesBay bay then .error .mismatch
        else if bay.top + contactTol < z then .error .notLowered
        else .ok ⟨b, bay.top, e.length, e.width, e.thickness⟩

/-- A saw is ready to take a panel (R113). -/
def Saw.readyForPanel (saw : Saw) (now : Clock) : Bool :=
  match saw.config, saw.arrival with
  | some cfg, some t => age now t ≤ cfg.freshness && saw.ready && saw.infeedClear
  | _, _ => false

/-- The place check of entry `(j, q)` at position `p` and height `z` with a panel of thickness `t` (R123): the cause of
the first condition that fails, or nothing. -/
def placeCheck (s : State) (contactTol j q p z t : Nat) : Option Cause :=
  match s.saws[j]? with
  | none => some .notAtSaw
  | some saw =>
    match saw.config with
    | none => some .notAtSaw
    | some cfg =>
      if !inWindow p cfg.centre cfg.tolerance then some .notAtSaw
      else if cfg.tableHeight + t + contactTol < z then some .notLowered
      else if !saw.readyForPanel s.lineClock then some .sawBusy
      else
        match saw.queue with
        | [] => some .notHead
        | e :: _ => if e.sequence = q then none else some .notHead

/-! SENSE_SAW (R112). -/

/-- A SENSE_SAW of saw `j` read. -/
def readSaw (s : State) (j : Nat) (ready clear : Bool) : State :=
  s.modSaw j fun saw => { saw with ready := ready, infeedClear := clear, arrival := some s.lineClock }

/-! Use of a bay (R107, R108). -/

/-- Carriage `k` holds bay `b` in use: its load names the bay as origin, or it stands lowered in the bay's window
(R107). A carriage whose record is unwritten has no zClear to be below (log 26). -/
def State.holdsBay (s : State) (b : Nat) (bay : Bay) (k : Nat) : Bool :=
  match s.carriage k with
  | none => false
  | some c =>
    (match c.load with
      | none => false
      | some l => l.originBay == b) ||
    (match c.ctx.lastX, c.ctx.lastZ, s.record k with
      | some x, some z, some r => inWindow x.position bay.centre bay.tolerance && decide (z.position < r.zClear)
      | _, _, _ => false)

/-- Bay `b` is in use (R107). -/
def State.bayInUse (s : State) (b : Nat) : Bool :=
  match s.bays[b]? with
  | none => false
  | some bay => (List.range s.carriages.length).any (s.holdsBay b bay)

end Sys2Proof.Machine
end

