-- ==== Sys2Proof/Machine/Heads.lean ====
section
/-! DEFINITION. The Head Unit: cup images and GRIP judgement (R89 to R97), vacuum, sampling and confirmation (R98 to
R102), and the grip and release deadlines (R103, R104). -/

namespace Sys2Proof.Machine

/-- The load record of carriage `k`. -/
def State.load (s : State) (k : Nat) : Option LoadRecord := (s.carriage k).bind (·.load)

/-- The load record of carriage `k` set, not to EMPTY. -/
def setLoad (s : State) (k : Nat) (l : LoadRecord) : State := s.modCarriage k fun c => { c with load := some l }

/-- The load record made EMPTY; the module count in force becomes the reported count in the same step (R88). -/
def emptyLoad (s : State) (k : Nat) : State :=
  s.modCarriage k fun c => { c with load := none, modulesInForce := c.modulesReported }

/-- Cup `c` of carriage `k`'s head: fitted, and covered by the panel (R40). An unwritten group fits none. -/
def cupAllowed (s : State) (k r length width c : Nat) : Bool :=
  match ((s.cupLayout[4 * k + c / 8]?).join).bind (·[c % 8]?) with
  | none => false
  | some cup => cup.fitted && cup.covered r length width

/-- The allowed mask of carriage `k`'s head for a panel (R40). -/
def allowedMask (s : State) (k r modules length width : Nat) : Cups :=
  cupSet (cupAllowed s k r length width) &&& presentCups modules

/-! GRIP (R89 to R97). -/

/-- The resulting image of a GRIP (R89): the carried cups replace their half, and the module clamp is applied. -/
def resultingImage (form : GripForm) (cups image : Cups) (modules : Nat) : Cups :=
  (((cups &&& gripCarried form) ||| (image &&& ~~~(gripCarried form)))) &&& presentCups modules

/-- The notice of a GRIP verdict (R97). -/
def handGrip (s : State) (k : Nat) (job : Option (Nat × Nat)) (cause : Cause) (detail : Detail) : State :=
  hand s .verdict (some k)
    (match job with
    | none => .absent
    | some (saw, q) => .job saw q)
    cause detail

/-- A refused GRIP: not forwarded, reported (R97). -/
def refuseGrip (s : State) (k : Nat) (job : Option (Nat × Nat)) (cause : Cause) : State × Routing :=
  (handGrip s k job .refused (.cause cause), .good)

/-- A GRIP forwarded with an image (R90): the frame is placed, the image set and the judgement's own changes made in one
step, with a notice where the carried bits changed (R97); an overrun, and nothing changed, where the queue is full. -/
def forwardGrip (s : State) (k : Nat) (form : GripForm) (f : Frame) (g : GripFields) (image : Cups)
    (effect : State → State) : State × Routing :=
  match placeDown s { f with payload := gripBytes form image f.payload } with
  | none => (s, .overrun)
  | some s =>
    let s := effect (s.modCarriage k fun c => { c with image := image })
    if image &&& gripCarried form = g.cups &&& gripCarried form then (s, .good)
    else (handGrip s k g.job .clamped (.cups (cupCount image)), .good)

/-- The effect of a forwarded pick (R94, R116): the load becomes GRIPPING and its entry PICKED. R94 gives the sample sum and
count no value here; they are 0, as an EMPTY load shows them (DESIGN CHOICE, log 40). -/
def beginLoad (k : Nat) (h : HeadRecord) (j q : Nat) (a : PickAnswer) (image : Cups) (s : State) : State :=
  let l : LoadRecord :=
    { phase := .gripping
      jobSaw := j
      jobSeq := q
      originBay := a.bay
      pickTop := a.top
      thickness := a.thickness
      length := a.length
      width := a.width
      mask := image
      putBack := false
      deadline := some (after s.lineClock h.gripTime)
      sum := 0
      count := 0
      beforeRelease := none }
  (setLoad s k l).modEntry j q (·.pick k)

/-- A pick (R94): job reference, pick check, allowed-mask clamp, uncarried cups, cup count, in that order. -/
def judgePick (s : State) (k : Nat) (c : Carriage) (h : HeadRecord) (x z : Nat) (form : GripForm) (f : Frame)
    (g : GripFields) (image : Cups) : State × Routing :=
  match g.job with
  | none => refuseGrip s k g.job .noJob
  | some (j, q) =>
    match pickCheck s h.contactTol j q x z with
    | .error cause => refuseGrip s k g.job cause
    | .ok a =>
      let mask := allowedMask s k h.r c.modulesInForce a.length a.width
      let clamped := image &&& mask
      if image &&& ~~~mask &&& ~~~(gripCarried form) ≠ 0 then refuseGrip s k g.job .uncovered
      else if cupCount clamped < h.minCups then refuseGrip s k g.job .smallPanel
      else forwardGrip s k form f g clamped (beginLoad k h j q a clamped)

/-- The effect of a forwarded release (R96). -/
def beginRelease (k : Nat) (h : HeadRecord) (l : LoadRecord) (putBack : Bool) (image : Cups) (s : State) : State :=
  setLoad s k
    { l with
      phase := .releasing
      mask := image
      putBack := putBack
      deadline := some (after s.lineClock h.releaseTime)
      beforeRelease := some l.phase }

/-- The release is a put-back (R96): within the origin bay's window and at most the pick top plus contactTol. -/
def isPutBack (s : State) (h : HeadRecord) (l : LoadRecord) (x z : Nat) : Bool :=
  match s.bays[l.originBay]? with
  | none => false
  | some b => inWindow x b.centre b.tolerance && decide (z ≤ l.pickTop + h.contactTol)

/-- A release (R96): job reference, put-back, place, in that order. -/
def judgeRelease (s : State) (k : Nat) (h : HeadRecord) (l : LoadRecord) (x z : Nat) (form : GripForm) (f : Frame)
    (g : GripFields) (image : Cups) : State × Routing :=
  if g.job ≠ some (l.jobSaw, l.jobSeq) then refuseGrip s k g.job .wrongJob
  else if isPutBack s h l x z then forwardGrip s k form f g image (beginRelease k h l true image)
  else if l.phase = .loaded then
    match placeCheck s h.contactTol l.jobSaw l.jobSeq x z l.thickness with
    | some cause => refuseGrip s k g.job cause
    | none => forwardGrip s k form f g image (beginRelease k h l false image)
  else refuseGrip s k g.job .notAtSaw

/-- A GRIP judged by its resulting image and the load state (R92, second table). -/
def judgeGrip (s : State) (k : Nat) (c : Carriage) (form : GripForm) (f : Frame) (g : GripFields) : State × Routing :=
  let image := resultingImage form g.cups c.image c.modulesInForce
  match c.load with
  | none =>
    if image &&& ~~~c.image = 0 then forwardGrip s k form f g image id
    else
      match s.head k, c.ctx.lastX, c.ctx.lastZ with
      | some h, some x, some z => judgePick s k c h x.position z.position form f g image
      | _, _, _ => refuseGrip s k g.job .notActive
  | some l =>
    match s.head k with
    | none => refuseGrip s k g.job .notActive
    | some h =>
      let clamped := image &&& allowedMask s k h.r c.modulesInForce l.length l.width
      if h.minHold ≤ cupCount clamped then
        forwardGrip s k form f g clamped fun s => setLoad s k { l with mask := clamped }
      else
        match c.ctx.lastX, c.ctx.lastZ with
        | some x, some z => judgeRelease s k h l x.position z.position form f g clamped
        | _, _ => refuseGrip s k g.job .notActive

/-- A good GRIP from port U to the head of carriage `k` (R92, R105, R176): the three preconditions, then the length, then
the judgement. A frame of a length not listed for its form carries no job reference into its notice: the manual does not
say whether it carries one (DESIGN CHOICE, log 41). -/
def gripFrame (s : State) (k : Nat) (form : GripForm) (f : Frame) : State × Routing :=
  let job := (parseGrip form f.payload).bind (·.job)
  match s.carriage k with
  | none => refuseGrip s k job .notNormal
  | some c =>
    if c.ctx.membership ≠ .normal then refuseGrip s k job .notNormal
    else if s.inputs.emergency then refuseGrip s k job .estop
    else if c.loadIn [.gripping, .checking, .releasing] then refuseGrip s k job .loadBusy
    else
      match parseGrip form f.payload with
      | none => refuseGrip s k job .badField
      | some g => judgeGrip s k c form f g

/-! SENSE_HEAD (R88, R98 to R102). -/

/-- The module counts set from a SENSE_HEAD: both while the load is EMPTY, else the reported one alone (R88). -/
def setModules (s : State) (k modules : Nat) : State :=
  s.modCarriage k fun c =>
    { c with
      modulesReported := modules
      modulesInForce := if c.load.isNone then modules else c.modulesInForce }

/-- The PICK notice (R100). -/
def handPick (s : State) (k : Nat) (l : LoadRecord) (cause : Cause) (detail : Detail) : State :=
  hand s .pick (some k) (.job l.jobSaw l.jobSeq) cause detail

/-- The PLACE notice (R102). -/
def handPlace (s : State) (k : Nat) (l : LoadRecord) (cause : Cause) : State :=
  hand s .place (some k) (.job l.jobSaw l.jobSeq) cause .absent

/-- The outcome of a thickness check (R100, R109). -/
def decideThickness (s : State) (k : Nat) (l : LoadRecord) (t : Thickness) : State :=
  match t with
  | .ok =>
    let s := (setLoad s k { l with phase := .loaded }).modBay l.originBay (·.confirmPick)
    let s := (handPick s k l .ok .absent).countFor k fun c => { c with picks := bump c.picks }
    s.report (.loadFree k)
  | .double =>
    let s := handPick (setLoad s k { l with phase := .rejected }) k l .reject (.cause .double)
    (s.countFor k fun c => { c with rejects := bump c.rejects }).report (.loadFree k)
  | .thin =>
    let s := handPick (setLoad s k { l with phase := .rejected }) k l .reject (.cause .thin)
    (s.countFor k fun c => { c with rejects := bump c.rejects }).report (.loadFree k)

/-- A gauge reading in CHECKING (R100): counted at or above the lift height, and decided when `n` have been. -/
def countReading (s : State) (k : Nat) (h : HeadRecord) (l : LoadRecord) (reading : Nat) : State :=
  match (s.carriage k).bind (·.ctx.lastZ) with
  | none => s
  | some z =>
    if z.position < l.pickTop + h.liftCheck then s
    else
      let l := { l with sum := l.sum + reading, count := l.count + 1 }
      if h.n ≤ l.count then decideThickness s k l (thicknessCheck l.sum h.n l.thickness) else setLoad s k l

/-- A vacuum drop (R101): flag, halt, entry FAULTED, bay to RESTOCK unless the load was LOADED, load EMPTY. -/
def dropVacuum (s : State) (k : Nat) (l : LoadRecord) : State :=
  let s := haltCarriage s k .vacuumDrop (some .vacuumDrop)
  let s := s.modEntry l.jobSaw l.jobSeq (·.fault)
  let s := if l.phase = .loaded then s else s.modBay l.originBay fun b => { b with state := .restock }
  let s := emptyLoad s k
  if l.phase = .checking then s.report (.loadFree k) else s

/-- A confirmed release (R102, R110, R117), by the put-back flag and the state before release. -/
def confirmRelease (s : State) (k : Nat) (l : LoadRecord) : State :=
  let s :=
    if l.putBack then
      let s := s.modEntry l.jobSaw l.jobSeq (·.queue)
      let s := if l.beforeRelease = some .loaded then s.modBay l.originBay (·.putBack) else s
      handPlace s k l .putBack
    else
      let s := (s.removeEntry l.jobSaw l.jobSeq).modSaw l.jobSaw fun saw => { saw with placed := bump saw.placed }
      (handPlace s k l .placed).countFor k fun c => { c with places := bump c.places }
  (emptyLoad s k).report (.loadFree k)

/-- A SENSE_HEAD read by the Head Unit (R98): module count, vacuum drop, progress by state. -/
def readHead (s : State) (k : Nat) (rep : HeadReport) : State :=
  let s := setModules s k rep.modules
  match s.load k, s.head k with
  | some l, some h =>
    let under := rep.vacuum &&& l.mask
    match l.phase with
    | .gripping =>
      if under = l.mask then setLoad s k { l with phase := .checking, sum := 0, count := 0, deadline := none } else s
    | .checking => if cupCount under < h.minHold then dropVacuum s k l else countReading s k h l rep.reading
    | .loaded => if cupCount under < h.minHold then dropVacuum s k l else s
    | .rejected => if cupCount under < h.minHold then dropVacuum s k l else s
    | .releasing => if under = 0 then confirmRelease s k l else s
  | _, _ => s

/-! Deadlines (R103, R104). -/

/-- The grip deadline, when it falls due (R103). -/
def takeGripDeadline (s : State) (k : Nat) : State :=
  match s.load k with
  | none => s
  | some l =>
    match l.phase, l.deadline with
    | .gripping, some d =>
      if reached s.lineClock d then
        let s := emptyLoad (s.modEntry l.jobSaw l.jobSeq (·.queue)) k
        (hand s .gripFail (some k) (.job l.jobSaw l.jobSeq) .none .absent).report (.loadFree k)
      else s
    | _, _ => s

/-- The release deadline, when it falls due (R104). -/
def takeReleaseDeadline (s : State) (k : Nat) : State :=
  match s.load k with
  | none => s
  | some l =>
    match l.phase, l.deadline with
    | .releasing, some d =>
      if reached s.lineClock d then
        setLoad (haltCarriage s k .releaseFail (some .releaseFail)) k { l with deadline := none }
      else s
    | _, _ => s

end Sys2Proof.Machine
end

