-- ==== Sys2Proof/Machine/LineReset.lean ====
section
/-! DEFINITION. Line reset in every block (R7, R42, R67, R70, R84, R91, R153, R164, R168), and power-on reset (R170). -/

namespace Sys2Proof.Machine

/-- A carriage context at a line reset (R7). -/
def Context.lineReset (c : Context) : Context :=
  let c :=
    { c.emptySet with
      fresh := false
      stillX := false
      stillZ := false
      activeX := none
      activeZ := none }
  if c.membership = .excluded then { c with runState := .halted, unseenOrigin := none }
  else
    { c with
      runState := .unseen
      unseenOrigin := some .lineReset
      lastX := none
      lastZ := none
      arrivalX := none
      arrivalZ := none
      arrivalHead := none }

/-- A load record at a line reset (R91): a present deadline restarted, a sampling begun anew. -/
def LoadRecord.lineReset (l : LoadRecord) (now : Clock) (h : Option HeadRecord) : LoadRecord :=
  match l.phase, h with
  | .gripping, some h => { l with deadline := some (after now h.gripTime) }
  | .releasing, some h => { l with deadline := l.deadline.map fun _ => after now h.releaseTime }
  | .checking, _ => { l with sum := 0, count := 0 }
  | _, _ => l

/-- The reservation of a carriage at a line reset: the park window of an EXCLUDED one, otherwise UNKNOWN (R42, R51). -/
def resetReservation (membership : Membership) (r : Option CarriageRecord) : Option Reservation :=
  if membership = .excluded then (r.bind (·.park)).map fun p => ⟨p, .park⟩ else none

/-- All that is held for carriage `k` at a line reset: context, reservation, slot (R70), virtual position (R67), load. -/
def resetCarriage (s : State) (k : Nat) (c : Carriage) : Carriage :=
  { c with
    ctx := c.ctx.lineReset
    reservation := resetReservation c.ctx.membership (s.record k)
    slot := none
    virtualX := none
    load := c.load.map fun l => l.lineReset s.lineClock (s.head k) }

/-- A LINE_RESET entry made for one drive, if its role holds an address (R153 step 3). -/
def enterResetStop (s : State) (r : Role) : State :=
  match s.addressOf r with
  | none => s
  | some node => enterStop s node .lineReset

/-- The LINE_RESET entries of carriage `k`, X drive then Z drive, if it was ACTIVE or STOPPING (R153). -/
def enterResetStops (s : State) (k : Nat) : State :=
  match s.runState k with
  | some .active => enterResetStop (enterResetStop s (.xDrive k)) (.zDrive k)
  | some .stopping => enterResetStop (enterResetStop s (.xDrive k)) (.zDrive k)
  | _ => s

/-- A transmitter at a line reset: it finishes its frame, which no queue holds any longer (R149, R153). -/
def Transmitter.lineReset : Transmitter → Transmitter
  | .free => .free
  | .sending f _ => .sending f false

/-- The Port Unit at a line reset, in the order of R153. The marks of held moves that wait for room go with their slots, and
so do the reports of room that stand for them. -/
def resetPort (s : State) : State :=
  let s :=
    s.withPort
      { s.port with
        dForward := []
        uForward := []
        stops := []
        transmitterD := s.port.transmitterD.lineReset
        roomReports := 0 }
  (List.range 4).foldl enterResetStops s

/-- The carriages at a line reset. -/
def resetCarriages (s : State) : State := s.withCarriages (s.carriages.mapIdx (resetCarriage s))

/-- A line reset, from LRST_N or the LINE-RESET command (R164): the Port Unit from the run states that stood before
(R153), every carriage, the notice queue with its one LINE_RESET notice (R168), then the test of every PENDING fence
(R84). Reports that the step made before the reset find every slot EMPTY, so none is kept. -/
def lineReset (s : State) (source : Cause) : State :=
  let s := resetCarriages (resetPort s)
  let s := (s.withManagement { s.management with notices := [] }).withReports []
  testFences (hand s .lineReset none .absent source .absent)

/-- Power-on reset with the straps and pin levels of the rise of RESET_N (R134, R170): every piece of state at its
power-on value, the pins taken with no event. The waiting commands and the pin levels to come are the outside world's, and
stay. -/
def powerOn (s : State) (straps : BitVec 6) (lrstN estopN : Bool) : State :=
  { State.reset with
    inputs :=
      { resetLow := false
        lrstN := SampledPin.atLevel lrstN
        estopN := SampledPin.atLevel estopN
        emergency := !estopN
        coming := s.inputs.coming }
    port := { ownAddress := straps.toNat }
    pending := s.pending }

end Sys2Proof.Machine
end

