-- ==== Sys2Proof/Machine/Commands.lean ====
section
/-! DEFINITION. The commands of the cell controller (R163), each carried out by its owner: membership (R25 to R28), HALT and
RESUME (R23, R24), CLEAR-FAULTS (R130), fences (R83, R85), bays (R108), Feed Queue entries (R118), LINE-RESET (R164). -/

namespace Sys2Proof.Machine

/-- The outcome of a management request: result code, data of a read, and the state after (R155). -/
structure Answer where
  code : ResultCode
  data : List Byte
  after : State

/-- A request refused: it changes nothing (R156). -/
def refuseRequest (s : State) (code : ResultCode) : Answer := ⟨code, [], s⟩

/-- A request carried out, without data. -/
def accept (s : State) : Answer := ⟨.ok, [], s⟩

/-- A read carried out. -/
def answerData (s : State) (data : List Byte) : Answer := ⟨.ok, data, s⟩

/-- The last STATE of an axis shows ready. -/
def axisReady (a : Option AxisReport) : Bool :=
  match a with
  | none => false
  | some r => r.status.ready

/-- The last STATE of an axis shows fault, or is absent (R130). -/
def axisFaultOrAbsent (a : Option AxisReport) : Bool :=
  match a with
  | none => true
  | some r => r.status.fault

/-- FRESH, no fault flag, both drives ready (R24, R26). -/
def Context.sound (c : Context) : Bool := c.fresh && !c.flags.any && axisReady c.lastX && axisReady c.lastZ

/-! HALT and RESUME. -/

/-- HALT(k) (R23). -/
def commandHalt (s : State) (k : Nat) : Answer :=
  match s.runState k with
  | none => refuseRequest s .badIndex
  | some .active => accept (haltCarriage s k .halt none)
  | some .stopping => accept (requestStops s k .halt)
  | some .halted => accept s
  | some .unseen => accept s
  | some .lost => accept s

/-- The last condition of RESUME (R24): the reservation lies at least G from each neighbour's known reservation and from
every PENDING or ON fence that the occupancy does not intersect. -/
def State.clearToResume (s : State) (k : Nat) : Bool :=
  match s.span k, s.currentOccupancy k with
  | some span, some occ => (s.closeNeighbours k span).isEmpty && !s.nearFence span occ
  | _, _ => false

/-- RESUME(k) (R24). -/
def commandResume (s : State) (k : Nat) : Answer :=
  match s.carriage k with
  | none => refuseRequest s .badIndex
  | some c =>
    match c.ctx.runState with
    | .active => accept s
    | .halted =>
      if c.ctx.sound && !s.inputs.emergency && c.ctx.membership == .normal then
        if s.clearToResume k then
          accept (handStateChange (s.modContext k fun x => { x with runState := .active }) k .active)
        else refuseRequest s .overlap
      else refuseRequest s .state
    | .unseen => refuseRequest s .state
    | .stopping => refuseRequest s .state
    | .lost => refuseRequest s .state

/-! SET-MEMBERSHIP. -/

/-- The membership of carriage `k` set, with the virtual position it brings: set on entering SHADOW, discarded on leaving
it (R26 to R28, R67), and the STATE_CHANGE notice (R29). -/
def setMembership (s : State) (k : Nat) (m : Membership) : State :=
  let s :=
    s.modCarriage k fun c =>
      { c with
        ctx := { c.ctx with membership := m }
        virtualX := if m = .shadow then c.ctx.lastX.map (·.position) else none }
  handStateChange s k m.cause

/-- A span of carriage `k` lies at least G from every PENDING or ON fence (R26). -/
def State.clearOfFences (s : State) (span : Interval) : Bool :=
  s.fences.all fun f => !f.standing || span.apart s.gap (s.fenceSpan f)

/-- SET-MEMBERSHIP to NORMAL or SHADOW, from another membership (R26). -/
def membershipWorking (s : State) (k : Nat) (c : Carriage) (m : Membership) : Answer :=
  if c.ctx.membership = .excluded then refuseRequest s .state
  else if !(c.ctx.runState == .halted && c.ctx.sound) then refuseRequest s .state
  else if m = .normal then
    match s.currentEnvelope k with
    | none => refuseRequest s .state
    | some e =>
      if (s.closeNeighbours k e).isEmpty && s.clearOfFences e then accept (setMembership s k m)
      else refuseRequest s .overlap
  else accept (setMembership s k m)

/-- SET-MEMBERSHIP to ISOLATED, from another membership (R27). The held move ends first, then the membership notice, then
the run state's (R29, R81, log 15). On leaving EXCLUDED both STATE_CHANGE notices come before the FENCE notices of fences
that the reservation leaves: the manual gives no order for these (DESIGN CHOICE, log 39). -/
def membershipIsolated (s : State) (k : Nat) (c : Carriage) : State :=
  if c.ctx.membership = .excluded then
    let s := setMembership s k .isolated
    let s :=
      s.modContext k fun x =>
        { x.emptySet with
          runState := .unseen
          unseenOrigin := some .unexclude
          fresh := false
          lastX := none
          lastZ := none
          arrivalX := none
          arrivalZ := none
          arrivalHead := none }
    setReservation (handStateChange s k .unseen) k none
  else
    let s := setMembership (endHeld s k .notNormal .absent) k .isolated
    if c.ctx.runState = .active ∧ (c.ctx.activeX.isSome ∨ c.ctx.activeZ.isSome) then haltCarriage s k .isolate none
    else s

/-- SET-MEMBERSHIP to EXCLUDED, from another membership (R28). The STATE_CHANGE notice is handed before the FENCE notices of
fences that the reservation leaves: the manual gives no order for these (DESIGN CHOICE, log 39). -/
def membershipExcluded (s : State) (k : Nat) (c : Carriage) : Answer :=
  match (s.record k).bind (·.park), s.currentOccupancy k with
  | some park, some occ =>
    if c.ctx.runState ≠ .halted || !occ.within park then refuseRequest s .state
    else if !(s.closeNeighbours k park).isEmpty then refuseRequest s .overlap
    else
      let s := setMembership s k .excluded
      let s := s.modContext k fun x => { x with fresh := false }
      accept (setReservation s k (some ⟨park, .park⟩))
  | _, _ => refuseRequest s .state

/-- SET-MEMBERSHIP(k, m) (R25): the present membership is accepted and changes nothing. -/
def commandMembership (s : State) (k : Nat) (m : Membership) : Answer :=
  match s.carriage k with
  | none => refuseRequest s .badIndex
  | some c =>
    if c.ctx.membership = m then accept s
    else
      match m with
      | .normal => membershipWorking s k c .normal
      | .shadow => membershipWorking s k c .shadow
      | .isolated => accept (membershipIsolated s k c)
      | .excluded => membershipExcluded s k c

/-! CLEAR-FAULTS. -/

/-- CLEAR-FAULTS(k) (R130). -/
def commandClearFaults (s : State) (k : Nat) : Answer :=
  match s.carriage k with
  | none => refuseRequest s .badIndex
  | some c =>
    if (c.loadIn [.releasing] && c.ctx.flags.releaseFail) || c.ctx.runState == .lost || !c.ctx.fresh ||
        axisFaultOrAbsent c.ctx.lastX || axisFaultOrAbsent c.ctx.lastZ then
      refuseRequest s .state
    else accept (s.modContext k fun x => { x with flags := {} })

/-! Fences. -/

/-- A fence's state changed, with its FENCE notice. -/
def setFence (s : State) (i : Nat) (f : Fence) (st : FenceState) : State :=
  hand (s.withFences (s.fences.set i { f with state := st })) .fence (some i) .absent st.cause .absent

/-- FENCE-ON(f) (R83). -/
def commandFenceOn (s : State) (i : Nat) : Answer :=
  match s.fences[i]? with
  | none => refuseRequest s .badIndex
  | some f =>
    match f.state with
    | .off => accept (setFence s i f (if s.fenceHeld f then .pending else .on))
    | .pending => accept s
    | .on => accept s

/-- FENCE-OFF(f) (R85): the held moves it blocked are re-evaluated. -/
def commandFenceOff (s : State) (i : Nat) : Answer :=
  match s.fences[i]? with
  | none => refuseRequest s .badIndex
  | some f =>
    match f.state with
    | .off => accept s
    | .pending => accept ((setFence s i f .off).report (.fenceOff i))
    | .on => accept ((setFence s i f .off).report (.fenceOff i))

/-! Bays and Feed Queue entries. -/

/-- BAY-RESTOCK(b) (R108). -/
def commandBayRestock (s : State) (b : Nat) : Answer :=
  match s.bays[b]? with
  | none => refuseRequest s .badIndex
  | some _ =>
    if s.bayInUse b then refuseRequest s .inUse
    else accept (s.modBay b fun x => { x with state := .restock })

/-- RETIRE(s, q) (R118). -/
def commandRetire (s : State) (j q : Nat) : Answer :=
  match s.saws[j]? with
  | none => refuseRequest s .badIndex
  | some _ =>
    match s.entry j q with
    | none => refuseRequest s .noEntry
    | some e => if e.state = .picked then refuseRequest s .state else accept (s.removeEntry j q)

/-- REQUEUE(s, q) (R118). -/
def commandRequeue (s : State) (j q : Nat) : Answer :=
  match s.saws[j]? with
  | none => refuseRequest s .badIndex
  | some _ =>
    match s.entry j q with
    | none => refuseRequest s .noEntry
    | some e => if e.state = .faulted then accept (s.modEntry j q (·.queue)) else refuseRequest s .state

/-- LINE-RESET (R164). -/
def commandLineReset (s : State) : Answer := accept (lineReset s .command)

end Sys2Proof.Machine
end

