-- ==== Sys2Proof/Machine/Tables.lean ====
section
/-! DEFINITION. The table writes (R157), each in the order of tests of R156: index, record length, fields, then the
conditions of the table's owner and the effects its rule gives. -/

namespace Sys2Proof.Machine

/-! NODE_MAP (R143). -/

/-- The STOP injection queue holds an entry for an address. -/
def State.stopWaits (s : State) (address : Nat) : Bool := s.port.stops.any (·.node == address)

/-- The role of an entry is held by another address. -/
def State.roleTaken (s : State) (address : Nat) (entry : Option Role) : Bool :=
  match entry with
  | none => false
  | some r =>
    match s.addressOf r with
    | none => false
    | some a => a != address

/-- An entry of the Node Map replaced; a map left without CONTROLLER empties the notice queue (R143, R166). -/
def setRole (s : State) (address : Nat) (entry : Option Role) : State :=
  let s := s.withPort { s.port with nodeMap := s.port.nodeMap.set address entry }
  match s.addressOf .controller with
  | none => s.withManagement { s.management with notices := [] }
  | some _ => s

/-- A write of NODE_MAP (R143). -/
def writeNodeMap (s : State) (i : Nat) (b : List Byte) : Answer :=
  if 63 ≤ i ∨ i = s.port.ownAddress then refuseRequest s .badIndex
  else if b.length ≠ 2 then refuseRequest s .badField
  else
    match Role.ofCodes (field b 0 1) (field b 1 1) with
    | none => refuseRequest s .badField
    | some entry =>
      if !s.lineIdle || s.stopWaits i then refuseRequest s .locked
      else if s.roleTaken i entry then refuseRequest s .duplicate
      else accept (setRole s i entry)

/-! RAIL (R2, R3) and the recomputation of reservations (R52). -/

/-- The reservation of carriage `k` recomputed under the record and rail length in force (R52). -/
def recomputed (s : State) (k : Nat) (r : Reservation) : Reservation :=
  match r.stage, s.currentEnvelope k, s.record k with
  | .plain, some e, _ => ⟨e, .plain⟩
  | .widened, some e, some c => ⟨e.widen s.railLength (dStale c), .widened⟩
  | .frozen, _, _ => ⟨clampSpan s.railLength r.span.lo r.span.hi, .frozen⟩
  | _, _, _ => r

/-- Carriage `k`'s reservation recomputed where known, the neighbours that it comes too close to halted with reason
EXCURSION and no flag (R5, R52). -/
def recompute (s : State) (k : Nat) : State :=
  match (s.carriage k).bind (·.reservation) with
  | none => s
  | some r =>
    if r.stage = .park then s
    else
      let new := recomputed s k r
      haltNeighbours (setReservation s k (some new)) (s.closeNeighbours k new.span)

/-- A rail length leaves room for every written carriage record of index below `n` (R2). -/
def State.railHolds (s : State) (railLength n : Nat) : Bool :=
  (List.range n).all fun k =>
    match s.record k with
    | none => true
    | some r =>
      r.travelHi ≤ railLength &&
        (match r.park with
        | none => true
        | some p => p.hi ≤ railLength)

/-- What a newly installed carriage receives: the power-on values of every block (R3, R6, R42, R70, R88, R89, R91). -/
def Carriage.installed : Carriage where

/-- The installed carriages with their number changed to `n` (R3). -/
def resizeCarriages (cs : List Carriage) (n : Nat) : List Carriage :=
  cs.take n ++ List.replicate (n - cs.length) Carriage.installed

/-- An accepted rail write (R3, R52): the carriages installed or removed, the reservations recomputed in index order
where the rail length changed (log 29), and every PENDING fence tested, since a removed carriage's reservation is gone
(log 32). -/
def applyRail (s : State) (r : RailRecord) : State :=
  let before := s.rail.map (·.railLength)
  let s := { s with rail := some r, carriages := resizeCarriages s.carriages r.n }
  let s := if before = some r.railLength then s else (List.range 4).foldl recompute s
  testFences s

/-- A write of RAIL (R2, R3). -/
def writeRail (s : State) (i : Nat) (b : List Byte) : Answer :=
  if i ≠ 0 then refuseRequest s .badIndex
  else if b.length ≠ 8 then refuseRequest s .badField
  else
    let r := parseRail b
    if !r.inRange || !s.railHolds r.railLength r.n then refuseRequest s .badField
    else if !s.lineIdle then refuseRequest s .locked
    else if (s.carriages.drop r.n).any (·.load.isSome) then refuseRequest s .inUse
    else accept (applyRail s r)

/-! CARRIAGE (R4, R5). -/

/-- An installed carriage that may be configured: ISOLATED or EXCLUDED, and HALTED or UNSEEN (R5). -/
def Carriage.configurable (c : Carriage) : Bool :=
  (c.ctx.membership == .isolated || c.ctx.membership == .excluded) &&
    (c.ctx.runState == .halted || c.ctx.runState == .unseen)

/-- The record of carriage `k` replaced. -/
def setRecord (s : State) (k : Nat) (r : CarriageRecord) : State :=
  { s with carriageRecords := s.carriageRecords.set k (some r) }

/-- The further effects of an accepted CARRIAGE write for an installed carriage (R5). -/
def afterRecord (s : State) (k : Nat) (c : Carriage) : State :=
  if c.ctx.runState = .unseen then s.modContext k (·.emptySet)
  else if c.ctx.membership = .excluded then s
  else recompute s k

/-- A write of CARRIAGE (R4, R5). -/
def writeCarriage (s : State) (i : Nat) (b : List Byte) : Answer :=
  if 4 ≤ i then refuseRequest s .badIndex
  else if b.length ≠ 37 then refuseRequest s .badField
  else
    match parseCarriage b with
    | none => refuseRequest s .badField
    | some r =>
      if !r.inRange s.railLength then refuseRequest s .badField
      else
        match s.carriage i with
        | none => accept (setRecord s i r)
        | some c =>
          if !c.configurable then refuseRequest s .locked
          else if c.ctx.membership = .excluded ∧ r.park ≠ (s.record i).bind (·.park) then refuseRequest s .state
          else accept (afterRecord (setRecord s i r) i c)

/-! HEAD (R86) and CUP_LAYOUT (R87). -/

/-- A carriage whose head may be configured: not installed, or configurable with an EMPTY load (R86). -/
def State.headFree (s : State) (k : Nat) : Bool :=
  match s.carriage k with
  | none => true
  | some c => c.configurable && c.load.isNone

/-- A write of HEAD (R86). -/
def writeHead (s : State) (i : Nat) (b : List Byte) : Answer :=
  if 4 ≤ i then refuseRequest s .badIndex
  else if b.length ≠ 13 then refuseRequest s .badField
  else if !(parseHead b).inRange then refuseRequest s .badField
  else if !s.headFree i then refuseRequest s .locked
  else accept { s with headRecords := s.headRecords.set i (some (parseHead b)) }

/-- A write of CUP_LAYOUT (R87): record `i` is group `i % 4` of carriage `i / 4`. -/
def writeCupLayout (s : State) (i : Nat) (b : List Byte) : Answer :=
  if 16 ≤ i then refuseRequest s .badIndex
  else if b.length ≠ 33 then refuseRequest s .badField
  else if !(parseCups b).all (·.inRange) then refuseRequest s .badField
  else if !s.headFree (i / 4) then refuseRequest s .locked
  else accept { s with cupLayout := s.cupLayout.set i (some (parseCups b)) }

/-! SAW (R111), BAY (R107), QUEUE (R115). -/

/-- A write of SAW (R111). -/
def writeSaw (s : State) (i : Nat) (b : List Byte) : Answer :=
  match s.saws[i]? with
  | none => refuseRequest s .badIndex
  | some saw =>
    if b.length ≠ 10 then refuseRequest s .badField
    else if !(parseSaw b).inRange s.railLength then refuseRequest s .badField
    else if !saw.queue.isEmpty then refuseRequest s .inUse
    else accept (s.modSaw i fun x => { x with config := some (parseSaw b) })

/-- A stack's top lies too high for some installed carriage whose record is written (R107). -/
def State.tooHigh (s : State) (bay : Bay) : Bool :=
  (List.range s.carriages.length).any fun k =>
    match s.record k with
    | none => false
    | some r => decide (r.zClear < bay.top + 100)

/-- A write of BAY (R107): form 0 the record, form 1 the clear form. -/
def writeBay (s : State) (i : Nat) (b : List Byte) : Answer :=
  match s.bays[i]? with
  | none => refuseRequest s .badIndex
  | some _ =>
    if b.length ≠ 18 then refuseRequest s .badField
    else
      match yesNo (field b 0 1) with
      | none => refuseRequest s .badField
      | some clear =>
        if !clear && (!(parseBay b).inRange s.railLength || s.tooHigh (parseBay b)) then refuseRequest s .badField
        else if s.bayInUse i then refuseRequest s .inUse
        else accept (s.modBay i fun _ => if clear then {} else parseBay b)

/-- A write of QUEUE, an append (R115). -/
def writeQueue (s : State) (i : Nat) (b : List Byte) : Answer :=
  match s.saws[i]? with
  | none => refuseRequest s .badIndex
  | some saw =>
    if b.length ≠ 11 then refuseRequest s .badField
    else if !(parseEntry b).inRange then refuseRequest s .badField
    else if Config.feedRoom ≤ saw.queue.length then refuseRequest s .full
    else if saw.queue.getLast?.any fun tail => (parseEntry b).sequence ≤ tail.sequence then refuseRequest s .order
    else accept (s.modSaw i fun x => { x with queue := x.queue ++ [parseEntry b] })

/-! FENCE (R82) and LAMP (R173). -/

/-- A write of FENCE (R82). -/
def writeFence (s : State) (i : Nat) (b : List Byte) : Answer :=
  match s.fences[i]? with
  | none => refuseRequest s .badIndex
  | some f =>
    if b.length ≠ 8 then refuseRequest s .badField
    else if (parseFence b).hi < (parseFence b).lo ∨ s.railLength < (parseFence b).hi then refuseRequest s .badField
    else if f.standing then refuseRequest s .inUse
    else accept (s.withFences (s.fences.set i ⟨parseFence b, .off⟩))

/-- A write of LAMP (R173): it sets the lamp phase origin. -/
def writeLamp (s : State) (i : Nat) (b : List Byte) : Answer :=
  if i ≠ 0 then refuseRequest s .badIndex
  else if b.length ≠ 3 then refuseRequest s .badField
  else
    match Blink1Frequency.ofCode (field b 0 1), Blink2Frequency.ofCode (field b 1 1), Duty.ofCode (field b 2 1) with
    | some b1, some b2, some d =>
      accept (s.withLamps { blink1 := b1, blink2 := b2, duty := d, phase := 0, points1 := 0, points2 := 0 })
    | _, _, _ => refuseRequest s .badField

end Sys2Proof.Machine
end

