-- ==== Sys2Proof/Machine/Management.lean ====
section
/-! DEFINITION. The Management Agent: the reads (R158 to R162), the decoding of requests (R156, R163), and the taking of
requests with their replies (R154, R155). -/

namespace Sys2Proof.Machine

/-! Reads of writable tables (R158, R160). -/

/-- A record answered where it exists and the request carries no operand. -/
def readRecord (s : State) (record : Option (List Byte)) (operands : List Byte) : Answer :=
  match record with
  | none => refuseRequest s .badIndex
  | some data => if operands.length ≠ 0 then refuseRequest s .badField else answerData s data

/-- The NODE_MAP record of an address other than the part's own (R158; R156 test 4 refuses the own address). -/
def State.nodeRecord (s : State) (i : Nat) : Option (List Byte) :=
  if i = s.port.ownAddress then none
  else (s.port.nodeMap[i]?).map fun e => leBytes 1 (Role.codes e).1 ++ leBytes 1 (Role.codes e).2

/-- A read of QUEUE (R160): the position operand is tested with the index, against 32. -/
def readQueue (s : State) (i : Nat) (operands : List Byte) : Answer :=
  match s.saws[i]? with
  | none => refuseRequest s .badIndex
  | some saw =>
    if operands.any fun _ => 32 < field operands 0 1 then refuseRequest s .badIndex
    else if operands.length ≠ 1 then refuseRequest s .badField
    else if field operands 0 1 = 0 then answerData s (leBytes 1 saw.queue.length)
    else
      match saw.queue[field operands 0 1 - 1]? with
      | none => refuseRequest s .noEntry
      | some e => answerData s (leBytes 1 saw.queue.length ++ e.bytes)

/-! Reads of status tables (R159, R161). -/

/-- A section of CARRIAGE_STATUS (section 11.4). -/
def statusSection (s : State) (k : Nat) (c : Carriage) (part : Nat) : List Byte :=
  if part = 0 then c.ctx.bytes
  else if part = 1 then sectionOneBytes (s.staleDeadline k) (s.lostDeadline k) c
  else slotBytes c.slot

/-- A read of CARRIAGE_STATUS (R159): the section operand is tested with the index. -/
def readCarriageStatus (s : State) (i : Nat) (operands : List Byte) : Answer :=
  match s.carriage i with
  | none => refuseRequest s .badIndex
  | some c =>
    if operands.any fun _ => 2 < field operands 0 1 then refuseRequest s .badIndex
    else if operands.length ≠ 1 then refuseRequest s .badField
    else answerData s (statusSection s i c (field operands 0 1))

/-- The receiver state as a bit (section 11.4). -/
def Receiver.isInFrame : Receiver → Bool
  | .between => false
  | .inFrame => true

/-- The data of PART_STATUS (R161, section 11.4). -/
def State.partBytes (s : State) : List Byte :=
  leBytes 1 s.port.ownAddress ++ indexByte (s.addressOf .controller) ++ leBytes 1 (bit s.inputs.emergency) ++
    leBytes 4 s.lineClock.toNat ++ [s.port.ownSeq] ++ leBytes 1 s.management.requests.length ++
    leBytes 1 s.management.replies.length ++ leBytes 1 s.management.notices.length ++
    leBytes 1 (bit s.management.overflow) ++ leBytes 1 s.port.dForward.length ++ leBytes 1 s.port.uForward.length ++
    leBytes 1 s.port.stops.length ++ (List.range 8).flatMap (fun i => stopBytes s.port.stops[i]?) ++
    leBytes 1 (packBits [s.port.receiverU.isInFrame, s.port.receiverD.isInFrame])

/-- A read of PART_STATUS (R161): the request under way is neither in the request queue nor answered yet, and the
overflow flag is cleared as it is reported. -/
def readPartStatus (s : State) (i : Nat) (operands : List Byte) : Answer :=
  if i ≠ 0 then refuseRequest s .badIndex
  else if operands.length ≠ 0 then refuseRequest s .badField
  else ⟨.ok, s.partBytes, s.withManagement { s.management with overflow := false }⟩

/-! Reads of counters (R162). -/

/-- The counters of a group named by an item: all of them for 0, one for its place from 1, none beyond the last. -/
def countersOf (item : Nat) (all : List Nat) : Option (List Nat) :=
  if item = 0 then some all else (all[item - 1]?).map fun n => [n]

/-- The counters of a group after a clear-on-read of the item. -/
def clearedBy (item : Nat) (all : List Nat) : List Nat :=
  if item = 0 then all.map fun _ => 0 else all.set (item - 1) 0

/-- The counters `group` holds at `index`, and how they are written back; nothing for an index out of the group's range
(R162). -/
def counterGroup (s : State) (group index : Nat) : Option (List Nat × (List Nat → State)) :=
  if group = 0 then
    if index = 0 then
      some (s.port.countersU.list, fun l => s.withPort { s.port with countersU := PortCounters.ofList l })
    else none
  else if group = 1 then
    if index = 0 then
      some (s.port.countersD.list, fun l => s.withPort { s.port with countersD := PortCounters.ofList l })
    else none
  else if group = 2 then
    (s.carriage index).map fun c =>
      (c.ctx.counters.list, fun l => s.countFor index fun _ => CarriageCounters.ofList l)
  else
    (s.saws[index]?).map fun saw => ([saw.placed], fun l => s.modSaw index fun x => { x with placed := l.headD 0 })

/-- A read of COUNTERS (R162): group, index, length, then item and clear-on-read choice. -/
def readCounters (s : State) (i : Nat) (operands : List Byte) : Answer :=
  if operands.length = 0 ∨ 3 < field operands 0 1 then refuseRequest s .badField
  else
    match counterGroup s (field operands 0 1) i with
    | none => refuseRequest s .badIndex
    | some (all, writeBack) =>
      if operands.length ≠ 3 then refuseRequest s .badField
      else
        match countersOf (field operands 1 1) all, yesNo (field operands 2 1) with
        | some counts, some clear =>
          ⟨.ok, counts.flatMap (leBytes 4), if clear then writeBack (clearedBy (field operands 1 1) all) else s⟩
        | _, _ => refuseRequest s .badField

/-! Decoding (R156). -/

/-- An MG_WRITE to a table (R156, R157). -/
def writeTable (s : State) (table i : Nat) (record : List Byte) : Answer :=
  if table = 0x01 then writeNodeMap s i record
  else if table = 0x02 then writeRail s i record
  else if table = 0x03 then writeCarriage s i record
  else if table = 0x04 then writeHead s i record
  else if table = 0x05 then writeCupLayout s i record
  else if table = 0x06 then writeSaw s i record
  else if table = 0x07 then writeBay s i record
  else if table = 0x08 then writeQueue s i record
  else if table = 0x09 then writeFence s i record
  else if table = 0x0A then writeLamp s i record
  else refuseRequest s .badTable

/-- An MG_READ of a table (R156, R158 to R162). -/
def readTable (s : State) (table i : Nat) (operands : List Byte) : Answer :=
  if table = 0x01 then readRecord s (s.nodeRecord i) operands
  else if table = 0x02 then readRecord s (if i = 0 then some (RailRecord.bytes s.rail) else none) operands
  else if table = 0x03 then readRecord s ((s.carriageRecords[i]?).map CarriageRecord.bytes) operands
  else if table = 0x04 then readRecord s ((s.headRecords[i]?).map HeadRecord.bytes) operands
  else if table = 0x05 then readRecord s ((s.cupLayout[i]?).map Cup.groupBytes) operands
  else if table = 0x06 then readRecord s ((s.saws[i]?).map (·.bytes)) operands
  else if table = 0x07 then readRecord s ((s.bays[i]?).map (·.bytes)) operands
  else if table = 0x08 then readQueue s i operands
  else if table = 0x09 then readRecord s ((s.fences[i]?).map (·.bytes)) operands
  else if table = 0x0A then readRecord s (if i = 0 then some s.lamps.bytes else none) operands
  else if table = 0x20 then readCarriageStatus s i operands
  else if table = 0x21 then readRecord s ((s.carriage i).map loadBytes) operands
  else if table = 0x22 then readPartStatus s i operands
  else if table = 0x23 then readCounters s i operands
  else refuseRequest s .badTable

/-- A command on one index operand below a bound: index, then length, then its owner (R156, R163). -/
def indexed (s : State) (bound size : Nat) (operands : List Byte) (owner : Nat → Answer) : Answer :=
  if operands.any fun _ => bound ≤ field operands 0 1 then refuseRequest s .badIndex
  else if operands.length ≠ size then refuseRequest s .badField
  else owner (field operands 0 1)

/-- SET-MEMBERSHIP: its membership operand is tested after the length (R156). -/
def decodeMembership (s : State) (operands : List Byte) : Answer :=
  indexed s s.carriages.length 2 operands fun k =>
    match Membership.ofCode (field operands 1 1) with
    | none => refuseRequest s .badField
    | some m => commandMembership s k m

/-- An MG_COMMAND (R156, R163). -/
def issueCommand (s : State) (code : Nat) (operands : List Byte) : Answer :=
  if code = 0x01 then decodeMembership s operands
  else if code = 0x02 then indexed s s.carriages.length 1 operands (commandHalt s)
  else if code = 0x03 then indexed s s.carriages.length 1 operands (commandResume s)
  else if code = 0x04 then indexed s s.carriages.length 1 operands (commandClearFaults s)
  else if code = 0x05 then indexed s 8 1 operands (commandFenceOn s)
  else if code = 0x06 then indexed s 8 1 operands (commandFenceOff s)
  else if code = 0x07 then indexed s 24 1 operands (commandBayRestock s)
  else if code = 0x08 then indexed s 6 3 operands fun j => commandRetire s j (field operands 1 2)
  else if code = 0x09 then indexed s 6 3 operands fun j => commandRequeue s j (field operands 1 2)
  else if code = 0x0A then if operands.length ≠ 0 then refuseRequest s .badField else commandLineReset s
  else refuseRequest s .badField

/-- A request carried out (R156): a payload too short for its own header is refused before its table or command is
looked at. -/
def carryOut (s : State) (f : Frame) : Answer :=
  if f.kind = Kind.mgCommand then
    match f.payload with
    | code :: operands => issueCommand s code.toNat operands
    | [] => refuseRequest s .badField
  else
    match f.payload with
    | table :: i :: rest =>
      if f.kind = Kind.mgWrite then writeTable s table.toNat i.toNat rest else readTable s table.toNat i.toNat rest
    | [_] => refuseRequest s .badField
    | [] => refuseRequest s .badField

/-! Taking requests (R154, R155). -/

/-- The reply to a request (R155): addressed to its source, with its sequence echoed. -/
def replyTo (f : Frame) (a : Answer) : Reply := ⟨f.src, f.seq, a.code, a.data⟩

/-- A reply placed at the tail of the reply queue. -/
def placeReply (s : State) (r : Reply) : State :=
  s.withManagement { s.management with replies := s.management.replies ++ [r] }

/-- The request at the head of the request queue taken whole (R154): removed, carried out, the reports it made acted on,
and answered. -/
def takeRequest (s : State) : State :=
  match s.management.requests with
  | [] => s
  | f :: rest =>
    let s := s.withManagement { s.management with requests := rest }
    let a := carryOut s f
    placeReply (finish a.after) (replyTo f a)

/-- Requests taken, one after another, while the reply queue has room (R154). -/
def takeRequests : Nat → State → State
  | 0, s => s
  | room + 1, s =>
    if s.management.requests.isEmpty || Config.managementRoom ≤ s.management.replies.length then s
    else takeRequests room (takeRequest s)

/-- The Management Agent after a request has arrived or a reply has left: it takes what it can. -/
def serveRequests (s : State) : State := takeRequests Config.managementRoom s

end Sys2Proof.Machine
end

