-- ==== Sys2Proof/Machine/PortUnit.lean ====
section
/-! DEFINITION. The Port Unit: receivers (R139), classification and counting (R140, R142), routing from port U (R127,
R144, R145) and from port D (R146), and the two transmitters (R149 to R152). -/

namespace Sys2Proof.Machine

/-! Receivers and counters. -/

/-- The receiver of a port. -/
def State.receiver (s : State) : Port → Receiver
  | .u => s.port.receiverU
  | .d => s.port.receiverD

/-- The receiver of a port set. -/
def setReceiver (s : State) (p : Port) (r : Receiver) : State :=
  match p with
  | .u => s.withPort { s.port with receiverU := r }
  | .d => s.withPort { s.port with receiverD := r }

/-- The frame counters of a port changed (R142). -/
def countAt (s : State) (p : Port) (f : PortCounters → PortCounters) : State :=
  match p with
  | .u => s.withPort { s.port with countersU := f s.port.countersU }
  | .d => s.withPort { s.port with countersD := f s.port.countersD }

def PortCounters.addGood (c : PortCounters) : PortCounters := { c with good := bump c.good }
def PortCounters.addShort (c : PortCounters) : PortCounters := { c with short := bump c.short }
def PortCounters.addLong (c : PortCounters) : PortCounters := { c with long := bump c.long }
def PortCounters.addCheckError (c : PortCounters) : PortCounters := { c with checkError := bump c.checkError }
def PortCounters.addStray (c : PortCounters) : PortCounters := { c with stray := bump c.stray }
def PortCounters.addOverrun (c : PortCounters) : PortCounters := { c with overrun := bump c.overrun }
def PortCounters.addMisdirected (c : PortCounters) : PortCounters := { c with misdirected := bump c.misdirected }
def PortCounters.addSent (c : PortCounters) : PortCounters := { c with sent := bump c.sent }

/-- A good frame counted by what its routing came to (R142). -/
def PortCounters.addRouting (c : PortCounters) : Routing → PortCounters
  | .good => c.addGood
  | .overrun => c.addOverrun
  | .misdirected => c.addMisdirected

/-- The part takes frames as its own only while its address is 0 to 62 (R144, R146, R170). -/
def State.isOwn (s : State) (address : Byte) : Bool :=
  s.port.ownAddress < Config.broadcast && address.toNat == s.port.ownAddress

/-! Routing from port U (R144). -/

/-- A frame placed in the D-forward queue with every byte as received (R144 line 10, R147). -/
def passDown (s : State) (f : Frame) : State × Routing :=
  match placeDown s f with
  | none => (s, .overrun)
  | some s' => (s', .good)

/-- A management frame at the part's own address (R145): the source test, then the request queue. -/
def acceptRequest (s : State) (f : Frame) : State × Routing :=
  let allowed :=
    match s.addressOf .controller with
    | none => true
    | some a => f.src.toNat == a
  if !allowed then (s, .misdirected)
  else if s.management.requests.length < Config.managementRoom then
    (s.withManagement { s.management with requests := s.management.requests ++ [f] }, .good)
  else (s, .overrun)

/-- A STOP entry of origin CONTROLLER made for a node that has none, or merged (R127). -/
def enterControllerStop (s : State) (node : Nat) (f : Frame) : State :=
  if s.port.stops.any (·.node == node) then s
  else s.withPort { s.port with stops := s.port.stops ++ [⟨node, .controller, .controller, f.src, f.seq⟩] }

/-- A STOP frame for a drive of carriage `k` taken into the STOP injection queue (R127): for an installed carriage the
axis's active move becomes absent and the held move ends CANCELLED; waiting MOVE frames for the node are withdrawn
(log 21). -/
def takeStop (s : State) (k : Nat) (axis : Axis) (f : Frame) : State :=
  let s := enterControllerStop s f.dst.toNat f
  withdrawMoves (endHeld (clearActive s k axis) k .cancelled .absent) f.dst.toNat

/-- A MOVE routed (R144 lines 3 to 6, and line 10 for an address without role). -/
def routeMove (s : State) (f : Frame) : State × Routing :=
  if f.dst.toNat = Config.broadcast ∨ s.port.nodeMap.all (·.isNone) then (s, .misdirected)
  else
    match s.roleOf f.dst.toNat with
    | none => passDown s f
    | some (.xDrive k) => admitMove s k .x f
    | some (.zDrive k) => admitMove s k .z f
    | some .controller => (s, .misdirected)
    | some (.head _) => (s, .misdirected)
    | some (.saw _) => (s, .misdirected)

/-- A GRIP routed (R144 lines 3, 4, 7, 8, and line 10 for an address without role). -/
def routeGrip (s : State) (form : GripForm) (f : Frame) : State × Routing :=
  if f.dst.toNat = Config.broadcast ∨ s.port.nodeMap.all (·.isNone) then (s, .misdirected)
  else
    match s.roleOf f.dst.toNat with
    | none => passDown s f
    | some (.head k) => gripFrame s k form f
    | some (.xDrive _) => (s, .misdirected)
    | some (.zDrive _) => (s, .misdirected)
    | some .controller => (s, .misdirected)
    | some (.saw _) => (s, .misdirected)

/-- A STOP routed (R144 lines 9 and 10). -/
def routeStop (s : State) (f : Frame) : State × Routing :=
  match s.roleOf f.dst.toNat with
  | some (.xDrive k) => (takeStop s k .x f, .good)
  | some (.zDrive k) => (takeStop s k .z f, .good)
  | some .controller => passDown s f
  | some (.head _) => passDown s f
  | some (.saw _) => passDown s f
  | none => passDown s f

/-- A good frame from port U routed by the first line of R144 that applies. -/
def routeU (s : State) (f : Frame) : State × Routing :=
  if s.isOwn f.dst then (if Kind.isManagement f.kind then acceptRequest s f else (s, .misdirected))
  else if f.kind = Kind.move then routeMove s f
  else
    match Kind.gripForm? f.kind with
    | some form => routeGrip s form f
    | none => if f.kind = Kind.stop then routeStop s f else passDown s f

/-! Routing from port D (R146). -/

/-- A frame placed in the U-forward queue, or dropped where it is full (R148). -/
def passUp (s : State) (f : Frame) : State × Routing :=
  if s.port.uForward.length < Config.forwardRoom then
    (s.withPort { s.port with uForward := s.port.uForward ++ [f] }, .good)
  else (s, .overrun)

/-- A STATE read where its source is a drive of an installed carriage and its length is the listed one (R146 line 3,
R176). -/
def readStateFrame (s : State) (f : Frame) : State :=
  match s.roleOf f.src.toNat, parseState f.payload with
  | some (.xDrive k), some rep => readState s k .x rep
  | some (.zDrive k), some rep => readState s k .z rep
  | _, _ => s

/-- A SENSE_HEAD read where its source is the head of an installed carriage and its length is the listed one: by the
Tracker as an arrival, then by the Head Unit (R146 line 4, R176). -/
def readSenseHead (s : State) (f : Frame) : State :=
  match s.roleOf f.src.toNat, parseSenseHead f.payload with
  | some (.head k), some rep =>
    match s.carriage k with
    | none => s
    | some _ => readHead (readHeadArrival s k) k rep
  | _, _ => s

/-- A SENSE_SAW read where its source is a saw and its length is the listed one (R146 line 5, R176). -/
def readSenseSaw (s : State) (f : Frame) : State :=
  match s.roleOf f.src.toNat, parseSenseSaw f.payload with
  | some (.saw j), some (ready, clear) => readSaw s j ready clear
  | _, _ => s

/-- What the blocks read of a frame from port D (R146 lines 3 to 5). -/
def readReport (s : State) (f : Frame) : State :=
  if f.kind = Kind.state then readStateFrame s f
  else if f.kind = Kind.senseHead then readSenseHead s f
  else if f.kind = Kind.senseSaw then readSenseSaw s f
  else s

/-- A good frame from port D routed by the first line of R146 that applies: read, then placed. -/
def routeD (s : State) (f : Frame) : State × Routing :=
  if s.isOwn f.dst || Kind.isManagement f.kind then (s, .misdirected) else passUp (readReport s f) f

/-! Reception. -/

/-- A good frame routed and counted (R142). -/
def routeAndCount (s : State) (p : Port) (f : Frame) : State :=
  let routed :=
    match p with
    | .u => routeU s f
    | .d => routeD s f
  countAt routed.1 p (·.addRouting routed.2)

/-- A good frame received on port U: routed, counted, and a request taken at once if the reply queue has room (R154). -/
def goodU (s : State) (f : Frame) : State :=
  let s' := routeAndCount s .u f
  if s.isOwn f.dst && Kind.isManagement f.kind then serveRequests s' else s'

/-- A frame received on port U with a correct check word. A payload above 48 bytes is classified long (R140, log 34). -/
def receiveU (s : State) (f : Frame) : State :=
  let s := setReceiver s .u .between
  if 48 < f.payload.length then countAt s .u (·.addLong) else goodU s f

/-- A frame received on port D with a correct check word. -/
def receiveD (s : State) (f : Frame) : State :=
  let s := setReceiver s .d .between
  if 48 < f.payload.length then countAt s .d (·.addLong) else routeAndCount s .d f

/-- The end of a frame in reception (R139, R140): classified by the bytes collected, and counted in its class. Bytes that
make a good frame are routed as one (log 6). -/
def endFrame (s : State) (p : Port) (collected : List Byte) : State :=
  match classify collected with
  | .short => countAt (setReceiver s p .between) p (·.addShort)
  | .long => countAt (setReceiver s p .between) p (·.addLong)
  | .checkError => countAt (setReceiver s p .between) p (·.addCheckError)
  | .good f =>
    match p with
    | .u => receiveU s f
    | .d => receiveD s f

/-- A stray run ends (R139): counted as one; a marker that ends it begins a frame. There is none in IN_FRAME. -/
def endStray (s : State) (p : Port) (ending : StrayEnd) : State :=
  match s.receiver p with
  | .inFrame => s
  | .between =>
    let s := countAt s p (·.addStray)
    match ending with
    | .gap => s
    | .marker => setReceiver s p .inFrame

/-! Transmitters (R149 to R152). -/

/-- The free port D transmitter starts the STOP entry at the head, which stays in its queue (R128, R150). -/
def startStop (s : State) : State :=
  match s.port.transmitterD, s.port.stops with
  | .free, e :: _ => s.withPort { s.port with transmitterD := .sending e.frame true }
  | _, _ => s

/-- The free port D transmitter, with no STOP entry, starts the frame at the head of the D-forward queue, which leaves
the queue, so that room is reported (R147, R150). -/
def startDown (s : State) : State :=
  match s.port.transmitterD, s.port.stops, s.port.dForward with
  | .free, [], f :: rest =>
    reportRoom (s.withPort { s.port with transmitterD := .sending f false, dForward := rest })
  | _, _, _ => s

/-- The transmitter of a port. -/
def State.transmitter (s : State) : Port → Transmitter
  | .u => s.port.transmitterU
  | .d => s.port.transmitterD

/-- The transmitter of a port set. -/
def setTransmitter (s : State) (p : Port) (t : Transmitter) : State :=
  match p with
  | .u => s.withPort { s.port with transmitterU := t }
  | .d => s.withPort { s.port with transmitterD := t }

/-- A transmitter finishes its frame and gap (R128, R142, R149): counted as sent, a sent STOP entry removed. -/
def endTransmission (s : State) (p : Port) : State :=
  match s.transmitter p with
  | .free => s
  | .sending _ heldEntry =>
    let s := countAt (setTransmitter s p .free) p (·.addSent)
    if heldEntry then s.withPort { s.port with stops := s.port.stops.drop 1 } else s

/-- The free port U transmitter starts the frame at the head of the U-forward queue (R151). -/
def startUp (s : State) : State :=
  match s.port.transmitterU, s.port.uForward with
  | .free, f :: rest => s.withPort { s.port with transmitterU := .sending f false, uForward := rest }
  | _, _ => s

/-- A frame the part originates on port U: its own address as source and the next own sequence value (R152). -/
def State.ownFrame (s : State) (dst kind : Byte) (payload : List Byte) : Frame :=
  ⟨dst, BitVec.ofNat 8 s.port.ownAddress, kind, s.port.ownSeq, payload⟩

/-- The MG_REPLY frame of a reply (R155). -/
def State.replyFrame (s : State) (r : Reply) : Frame :=
  s.ownFrame r.dst Kind.mgReply (r.echo :: leBytes 1 r.code.code ++ r.data)

/-- The free port U transmitter, with the U-forward queue empty, starts the reply at the head of the reply queue (R151,
R155); a request waiting for that room is then taken (R154). -/
def startReply (s : State) : State :=
  match s.port.transmitterU, s.port.uForward, s.management.replies with
  | .free, [], r :: rest =>
    let s' := takeSeq (s.withPort { s.port with transmitterU := .sending (s.replyFrame r) false })
    serveRequests (s'.withManagement { s'.management with replies := rest })
  | _, _, _ => s

/-- The free port U transmitter, with the U-forward and reply queues empty, starts the notice at the head of the notice
queue, addressed to the CONTROLLER (R151, R167). -/
def startNotice (s : State) : State :=
  match s.port.transmitterU, s.port.uForward, s.management.replies, s.management.notices, s.addressOf .controller with
  | .free, [], [], n :: rest, some a =>
    let f := s.ownFrame (BitVec.ofNat 8 a) Kind.notice n.bytes
    let s' := takeSeq (s.withPort { s.port with transmitterU := .sending f false })
    s'.withManagement { s'.management with notices := rest }
  | _, _, _, _, _ => s

end Sys2Proof.Machine
end

