-- ==== Sys2Proof/Machine/Frames.lean ====
section
/-! DEFINITION. The commands that are frames and bytes arriving at the two ports (chapter 8): each names the frame it
brings, received whole (log 6). -/

namespace Sys2Proof.Machine

/-- STRAY_RUN: a run of bytes outside a frame ends (R139). -/
def execStrayRun (p : Port) (ending : StrayEnd) (s : State) : Host.Outcome State Fault Refusal :=
  live s fun s => endStray s p ending

/-- START_MARKER: a byte 0xA6 begins a frame at a receiver that is BETWEEN; in IN_FRAME it is data (R139). -/
def execStartMarker (p : Port) (s : State) : Host.Outcome State Fault Refusal := live s fun s => setReceiver s p .inFrame

/-- FRAME_DROPPED: the bytes collected of a frame end (R140, R142). -/
def execFrameDropped (p : Port) (collected : List Byte) (s : State) : Host.Outcome State Fault Refusal :=
  live s fun s => endFrame s p collected

/-- MOVE: a good MOVE frame on port U (R55). -/
def execMove (dst src seq : Byte) (payload : List Byte) (s : State) : Host.Outcome State Fault Refusal :=
  live s fun s => receiveU s ⟨dst, src, Kind.move, seq, payload⟩

/-- GRIP: a good GRIP_ALL, GRIP_LOW or GRIP_HIGH frame on port U (R92). -/
def execGrip (form : GripForm) (dst src seq : Byte) (payload : List Byte) (s : State) :
    Host.Outcome State Fault Refusal :=
  live s fun s => receiveU s ⟨dst, src, Kind.grip form, seq, payload⟩

/-- STOP: a good STOP frame on port U (R127). -/
def execStop (dst src seq : Byte) (payload : List Byte) (s : State) : Host.Outcome State Fault Refusal :=
  live s fun s => receiveU s ⟨dst, src, Kind.stop, seq, payload⟩

/-- PARAM: a good frame of any other kind on port U (R144). -/
def execParam (kind dst src seq : Byte) (payload : List Byte) (s : State) : Host.Outcome State Fault Refusal :=
  live s fun s => receiveU s ⟨dst, src, kind, seq, payload⟩

/-- MG_REQUEST: a good management frame on port U (R145). -/
def execMgRequest (kind : MgKind) (dst src seq : Byte) (payload : List Byte) (s : State) :
    Host.Outcome State Fault Refusal :=
  live s fun s => receiveU s ⟨dst, src, Kind.request kind, seq, payload⟩

/-- STATE: a good STATE frame on port D (R10). -/
def execState (dst src seq : Byte) (payload : List Byte) (s : State) : Host.Outcome State Fault Refusal :=
  live s fun s => receiveD s ⟨dst, src, Kind.state, seq, payload⟩

/-- SENSE_HEAD: a good SENSE_HEAD frame on port D (R98). -/
def execSenseHead (dst src seq : Byte) (payload : List Byte) (s : State) : Host.Outcome State Fault Refusal :=
  live s fun s => receiveD s ⟨dst, src, Kind.senseHead, seq, payload⟩

/-- SENSE_SAW: a good SENSE_SAW frame on port D (R112). -/
def execSenseSaw (dst src seq : Byte) (payload : List Byte) (s : State) : Host.Outcome State Fault Refusal :=
  live s fun s => receiveD s ⟨dst, src, Kind.senseSaw, seq, payload⟩

/-- UPSTREAM_FORWARD: a good frame of any kind on port D (R146). -/
def execUpstreamForward (kind dst src seq : Byte) (payload : List Byte) (s : State) :
    Host.Outcome State Fault Refusal :=
  live s fun s => receiveD s ⟨dst, src, kind, seq, payload⟩

end Sys2Proof.Machine
end

