-- ==== Sys2Proof/Machine/Requests.lean ====
section
/-! DEFINITION. The commands that are management requests (chapter 9): each is the request frame its operands spell,
addressed to the part, taken under R145 and carried out as soon as the reply queue has room (log 4). -/

namespace Sys2Proof.Machine

/-- A management frame for the part's own address arriving on port U. -/
def request (s : State) (kind src seq : Byte) (payload : List Byte) : State :=
  receiveU s ⟨BitVec.ofNat 8 s.port.ownAddress, src, kind, seq, payload⟩

/-- SET_MEMBERSHIP (R25 to R28). -/
def execSetMembership (src seq carriage membership : Byte) (s : State) : Host.Outcome State Fault Refusal :=
  live s fun s => request s Kind.mgCommand src seq [0x01, carriage, membership]

/-- HALT (R23). -/
def execHalt (src seq carriage : Byte) (s : State) : Host.Outcome State Fault Refusal :=
  live s fun s => request s Kind.mgCommand src seq [0x02, carriage]

/-- RESUME (R24). -/
def execResume (src seq carriage : Byte) (s : State) : Host.Outcome State Fault Refusal :=
  live s fun s => request s Kind.mgCommand src seq [0x03, carriage]

/-- CLEAR_FAULTS (R130). -/
def execClearFaults (src seq carriage : Byte) (s : State) : Host.Outcome State Fault Refusal :=
  live s fun s => request s Kind.mgCommand src seq [0x04, carriage]

/-- FENCE_ON (R83). -/
def execFenceOn (src seq fence : Byte) (s : State) : Host.Outcome State Fault Refusal :=
  live s fun s => request s Kind.mgCommand src seq [0x05, fence]

/-- FENCE_OFF (R85). -/
def execFenceOff (src seq fence : Byte) (s : State) : Host.Outcome State Fault Refusal :=
  live s fun s => request s Kind.mgCommand src seq [0x06, fence]

/-- BAY_RESTOCK (R108). -/
def execBayRestock (src seq bay : Byte) (s : State) : Host.Outcome State Fault Refusal :=
  live s fun s => request s Kind.mgCommand src seq [0x07, bay]

/-- RETIRE (R118). -/
def execRetire (src seq saw : Byte) (sequence : BitVec 16) (s : State) : Host.Outcome State Fault Refusal :=
  live s fun s => request s Kind.mgCommand src seq (0x08 :: saw :: leBytes 2 sequence.toNat)

/-- REQUEUE (R118). -/
def execRequeue (src seq saw : Byte) (sequence : BitVec 16) (s : State) : Host.Outcome State Fault Refusal :=
  live s fun s => request s Kind.mgCommand src seq (0x09 :: saw :: leBytes 2 sequence.toNat)

/-- LINE_RESET (R164). -/
def execLineReset (src seq : Byte) (s : State) : Host.Outcome State Fault Refusal :=
  live s fun s => request s Kind.mgCommand src seq [0x0A]

/-- NODE_MAP_WRITE (R143). -/
def execNodeMapWrite (src seq index : Byte) (record : List Byte) (s : State) : Host.Outcome State Fault Refusal :=
  live s fun s => request s Kind.mgWrite src seq (0x01 :: index :: record)

/-- RAIL_WRITE (R2, R3). -/
def execRailWrite (src seq index : Byte) (record : List Byte) (s : State) : Host.Outcome State Fault Refusal :=
  live s fun s => request s Kind.mgWrite src seq (0x02 :: index :: record)

/-- CARRIAGE_WRITE (R4, R5). -/
def execCarriageWrite (src seq index : Byte) (record : List Byte) (s : State) : Host.Outcome State Fault Refusal :=
  live s fun s => request s Kind.mgWrite src seq (0x03 :: index :: record)

/-- HEAD_WRITE (R86). -/
def execHeadWrite (src seq index : Byte) (record : List Byte) (s : State) : Host.Outcome State Fault Refusal :=
  live s fun s => request s Kind.mgWrite src seq (0x04 :: index :: record)

/-- CUP_LAYOUT_WRITE (R87). -/
def execCupLayoutWrite (src seq index : Byte) (record : List Byte) (s : State) : Host.Outcome State Fault Refusal :=
  live s fun s => request s Kind.mgWrite src seq (0x05 :: index :: record)

/-- SAW_WRITE (R111). -/
def execSawWrite (src seq index : Byte) (record : List Byte) (s : State) : Host.Outcome State Fault Refusal :=
  live s fun s => request s Kind.mgWrite src seq (0x06 :: index :: record)

/-- BAY_WRITE (R107). -/
def execBayWrite (src seq index : Byte) (record : List Byte) (s : State) : Host.Outcome State Fault Refusal :=
  live s fun s => request s Kind.mgWrite src seq (0x07 :: index :: record)

/-- QUEUE_WRITE (R115). -/
def execQueueWrite (src seq index : Byte) (record : List Byte) (s : State) : Host.Outcome State Fault Refusal :=
  live s fun s => request s Kind.mgWrite src seq (0x08 :: index :: record)

/-- FENCE_WRITE (R82). -/
def execFenceWrite (src seq index : Byte) (record : List Byte) (s : State) : Host.Outcome State Fault Refusal :=
  live s fun s => request s Kind.mgWrite src seq (0x09 :: index :: record)

/-- LAMP_WRITE (R173). -/
def execLampWrite (src seq index : Byte) (record : List Byte) (s : State) : Host.Outcome State Fault Refusal :=
  live s fun s => request s Kind.mgWrite src seq (0x0A :: index :: record)

/-- PART_STATUS_READ (R161). -/
def execPartStatusRead (src seq index : Byte) (s : State) : Host.Outcome State Fault Refusal :=
  live s fun s => request s Kind.mgRead src seq [0x22, index]

/-- COUNTERS_READ (R162). -/
def execCountersRead (src seq index group item clear : Byte) (s : State) : Host.Outcome State Fault Refusal :=
  live s fun s => request s Kind.mgRead src seq [0x23, index, group, item, clear]

end Sys2Proof.Machine
end

