-- ==== Sys2Proof/Machine/Pins.lean ====
section
/-! DEFINITION. The pins (chapter 10): power-on reset (R170), the taken levels of LRST_N and ESTOP_N and the events of
their changes (R134, R135, R137, R169, R171, R172), and the blink points of the lamps (R173). -/

namespace Sys2Proof.Machine

/-- An input at an advance of the line clock: its level there is sampled (R169). -/
def SampledPin.advance (p : SampledPin) (level : Bool) : SampledPin :=
  { p with level := level, sampleBefore := p.sample, sample := level }

/-- Both inputs at an advance of the line clock, at the levels that come next, or at their own where none is to come (R169,
log 23). -/
def Inputs.advance (i : Inputs) : Inputs :=
  match i.coming with
  | [] => { i with lrstN := i.lrstN.advance i.lrstN.level, estopN := i.estopN.advance i.estopN.level }
  | l :: later =>
    { i with lrstN := i.lrstN.advance l.lrstN, estopN := i.estopN.advance l.estopN, coming := later }

/-- Two consecutive samples agree on a level other than the taken one, so that the taken level changes (R169). -/
def SampledPin.changes (p : SampledPin) : Bool := p.sample == p.sampleBefore && p.sample != p.taken

/-- The taken level falls: it is high, and the two last samples agree that the pin is low (R169). -/
def SampledPin.falls (p : SampledPin) : Bool := p.changes && p.taken

/-- The taken level rises: it is low, and the two last samples agree that the pin is high (R169). -/
def SampledPin.rises (p : SampledPin) : Bool := p.changes && !p.taken

/-- The taken level of LRST_N set (R171). -/
def setLrst (s : State) (high : Bool) : State :=
  s.withInputs { s.inputs with lrstN := { s.inputs.lrstN with taken := high } }

/-- The taken level of ESTOP_N set, and the emergency state it gives (R172). -/
def setEstop (s : State) (high : Bool) : State :=
  s.withInputs { s.inputs with estopN := { s.inputs.estopN with taken := high }, emergency := !high }

/-- What an assertion of ESTOP_N does to carriage `k` (R135). -/
def emergencyStop (s : State) (k : Nat) : State :=
  match s.runState k with
  | some .active => haltCarriage s k .estop none
  | some .stopping => requestStops s k .estop
  | _ => s

/-- The assertion of ESTOP_N (R135): the notice first, then every installed carriage in index order. -/
def assertEstop (s : State) : State :=
  (List.range 4).foldl emergencyStop (hand (setEstop s false) .estop none .absent .asserted .absent)

/-- The release of ESTOP_N (R137). -/
def releaseEstop (s : State) : State := hand (setEstop s true) .estop none .absent .released .absent

/-- POWER_ON_RESET: the rise of RESET_N (R170). It follows a time of RESET_N low, and is taken from any state (log 24). -/
def execPowerOnReset (straps : BitVec 6) (lrstN estopN : Bool) (s : State) : Host.Outcome State Fault Refusal :=
  .next (powerOn s straps lrstN estopN)

/-- RESET_N_LOW: RESET_N goes low (R170). The part is held: both lines at the mark level, every lamp output low, no frame
received. -/
def execResetNLow (s : State) : Host.Outcome State Fault Refusal :=
  .next
    ((s.withPort { s.port with transmitterU := .free, transmitterD := .free }).withInputs
      { s.inputs with resetLow := true })

/-- LRST_N_ASSERTION: the taken level of LRST_N falls, where its samples bring that about (R169, R171). -/
def execLrstNAssertion (s : State) : Host.Outcome State Fault Refusal :=
  live s fun s => if s.inputs.lrstN.falls then lineReset (setLrst s false) .lrstN else s

/-- LRST_N_RISE: the taken level of LRST_N rises, where its samples bring that about, with no reset (R169, R171). -/
def execLrstNRise (s : State) : Host.Outcome State Fault Refusal :=
  live s fun s => if s.inputs.lrstN.rises then setLrst s true else s

/-- ESTOP_ASSERTION: the taken level of ESTOP_N falls, where its samples bring that about (R135, R169, R172). -/
def execEstopAssertion (s : State) : Host.Outcome State Fault Refusal :=
  live s fun s => if s.inputs.estopN.falls then assertEstop s else s

/-- ESTOP_RELEASE: the taken level of ESTOP_N rises, where its samples bring that about (R137, R169, R172). -/
def execEstopRelease (s : State) : Host.Outcome State Fault Refusal :=
  live s fun s => if s.inputs.estopN.rises then releaseEstop s else s

/-- A blink point passed: every output showing the pattern changes level (R173). -/
def passPoint (s : State) (b : Blink) : State :=
  match b with
  | .blink1 => s.withLamps { s.lamps with points1 := s.lamps.points1 + 1 }
  | .blink2 => s.withLamps { s.lamps with points2 := s.lamps.points2 + 1 }

/-- BLINK_PERIOD: a lit-to-dark or dark-to-lit point of a pattern, where one is due (R173). -/
def execBlinkPeriod (b : Blink) (s : State) : Host.Outcome State Fault Refusal :=
  live s fun s => if s.lamps.points b < s.lamps.pointsDue b then passPoint s b else s

end Sys2Proof.Machine
end

