-- ==== Sys2Proof/Machine/Timers.lean ====
section
/-! DEFINITION. Time (R1): the expiries, the arrival times that become absent, the wait for room (R77), the advance of the
line clock, and the steps that fall due by themselves. -/

namespace Sys2Proof.Machine

/-- STALE_EXPIRY of carriage `k`, if due (R14). -/
def execStaleExpiry (k : Nat) (s : State) : Host.Outcome State Fault Refusal := live s fun s => takeStale s k

/-- LOST_EXPIRY of carriage `k`, if due (R16). -/
def execLostExpiry (k : Nat) (s : State) : Host.Outcome State Fault Refusal := live s fun s => takeLost s k

/-- The hold deadline of carriage `k`'s held move has been reached (R78). -/
def State.holdDue (s : State) (k : Nat) : Bool :=
  match s.held k with
  | none => false
  | some h => reached s.lineClock h.deadline

/-- HOLD_TIMEOUT of carriage `k`, if due (R78). -/
def execHoldTimeout (k : Nat) (s : State) : Host.Outcome State Fault Refusal :=
  live s fun s => if s.holdDue k then endHeld s k .holdTimeout .absent else s

/-- GRIP_DEADLINE of carriage `k`, if due (R103). -/
def execGripDeadline (k : Nat) (s : State) : Host.Outcome State Fault Refusal := live s fun s => takeGripDeadline s k

/-- RELEASE_DEADLINE of carriage `k`, if due (R104). -/
def execReleaseDeadline (k : Nat) (s : State) : Host.Outcome State Fault Refusal :=
  live s fun s => takeReleaseDeadline s k

/-! Arrival times (R1). -/

/-- The recorded arrival time of a role's node or saw. -/
def State.arrivalOf (s : State) : Role → Option Clock
  | .controller => none
  | .xDrive k => (s.carriage k).bind (·.ctx.arrivalX)
  | .zDrive k => (s.carriage k).bind (·.ctx.arrivalZ)
  | .head k => (s.carriage k).bind (·.ctx.arrivalHead)
  | .saw j => (s.saws[j]?).bind (·.arrival)

/-- The recorded arrival time of a role's node or saw made absent. -/
def forgetArrival (s : State) : Role → State
  | .controller => s
  | .xDrive k => s.modContext k fun c => { c with arrivalX := none }
  | .zDrive k => s.modContext k fun c => { c with arrivalZ := none }
  | .head k => s.modContext k fun c => { c with arrivalHead := none }
  | .saw j => s.modSaw j fun saw => { saw with arrival := none }

/-- The recorded arrival time of a role's node or saw has reached the age of 2³¹ ms (R1). -/
def State.arrivalOld (s : State) (r : Role) : Bool :=
  match s.arrivalOf r with
  | none => false
  | some t => Config.absentAge ≤ age s.lineClock t

/-- ARRIVAL_TIME_ABSENT, if due (R1). -/
def execArrivalTimeAbsent (r : Role) (s : State) : Host.Outcome State Fault Refusal :=
  live s fun s => if s.arrivalOld r then forgetArrival s r else s

/-- A report of room taken (R74, R77, R147): every held move marked as waiting for room is re-evaluated. -/
def takeRoomReport (s : State) : State :=
  if 0 < s.port.roomReports then (s.withPort { s.port with roomReports := s.port.roomReports - 1 }).report .room else s

/-- WAITING_FOR_ROOM: a report of room that stands is taken (R74, R77, log 10). -/
def execWaitingForRoom (s : State) : Host.Outcome State Fault Refusal := live s takeRoomReport

/-! The steps of time (log 1). -/

/-- One millisecond (R1, R169, R173): the line clock advances, both inputs are sampled, the lamp phase moves on. -/
def tick (s : State) : State :=
  if s.inputs.resetLow then s
  else
    { s with
      lineClock := s.lineClock + 1
      inputs := s.inputs.advance
      lamps := { s.lamps with phase := s.lamps.phase + Config.microsPerMilli } }

/-- The deadline of a load in a phase has been reached. -/
def State.loadDue (s : State) (k : Nat) (phase : LoadPhase) : Bool :=
  match s.load k with
  | none => false
  | some l =>
    l.phase == phase &&
      (match l.deadline with
      | none => false
      | some d => reached s.lineClock d)

/-- A deadline of a Tracker expiry has been reached. -/
def State.deadlineDue (s : State) (d : Option Clock) : Bool :=
  match d with
  | none => false
  | some t => reached s.lineClock t

/-- Carriage `k` is FRESH. -/
def State.isFresh (s : State) (k : Nat) : Bool := ((s.carriage k).map (·.ctx.fresh)).getD false

/-- The changes of the taken levels that are due (R169). -/
def duePins (s : State) : List Instr :=
  (if s.inputs.lrstN.changes then [if s.inputs.lrstN.taken then .lrstNAssertion else .lrstNRise] else []) ++
    (if s.inputs.estopN.changes then [if s.inputs.estopN.taken then .estopAssertion else .estopRelease] else [])

/-- A report of room that stands, and is to be taken (R147). -/
def dueRoom (s : State) : List Instr := if 0 < s.port.roomReports then [.waitingForRoom] else []

/-- The expiries of carriage `k` that are due, in the order the model takes them (log 2). -/
def dueExpiries (s : State) (k : Nat) : List Instr :=
  (if s.isFresh k && s.deadlineDue (s.staleDeadline k) then [.staleExpiry k] else []) ++
    (if !s.isFresh k && s.deadlineDue (s.lostDeadline k) then [.lostExpiry k] else []) ++
    (if s.holdDue k then [.holdTimeout k] else []) ++
    (if s.loadDue k .gripping then [.gripDeadline k] else []) ++
    (if s.loadDue k .releasing then [.releaseDeadline k] else [])

/-- The roles whose nodes and saws have arrival times. -/
def arrivalRoles : List Role :=
  (List.range 4).flatMap (fun k => [.xDrive k, .zDrive k, .head k]) ++ (List.range 6).map .saw

/-- The steps that are due at the present line-clock value, in the order the model takes them (log 2). -/
def dueSteps (s : State) : List Instr :=
  duePins s ++ dueRoom s ++ (List.range 4).flatMap (dueExpiries s) ++
    (arrivalRoles.filter s.arrivalOld).map .arrivalTimeAbsent ++
    ([Blink.blink1, Blink.blink2].filter fun b => s.lamps.points b < s.lamps.pointsDue b).map .blinkPeriod

/-- The next step that is due, if any; none while RESET_N is low. -/
def nextDue (s : State) : Option Instr := if s.inputs.resetLow then none else (dueSteps s).head?

end Sys2Proof.Machine
end

