-- ==== Sys2Proof/Machine/Transmit.lean ====
section
/-! DEFINITION. The commands of the two transmitters (R149 to R152): each starts or ends a frame where its conditions
hold, and does nothing where they do not (log 3). -/

namespace Sys2Proof.Machine

/-- STOP_SEND (R128, R150). -/
def execStopSend (s : State) : Host.Outcome State Fault Refusal := live s startStop

/-- D_FORWARD_SEND (R150). -/
def execDForwardSend (s : State) : Host.Outcome State Fault Refusal := live s startDown

/-- FRAME_SENT (R149). -/
def execFrameSent (p : Port) (s : State) : Host.Outcome State Fault Refusal := live s fun s => endTransmission s p

/-- U_FORWARD_SEND (R151). -/
def execUForwardSend (s : State) : Host.Outcome State Fault Refusal := live s startUp

/-- MG_REPLY (R155). -/
def execMgReply (s : State) : Host.Outcome State Fault Refusal := live s startReply

/-- NOTICE (R167). -/
def execNotice (s : State) : Host.Outcome State Fault Refusal := live s startNotice

end Sys2Proof.Machine
end

