-- ==== Sys2Proof/Machine/Dispatch.lean ====
section
/-! DEFINITION. The meaning of every command: one arm for each row of spec/opcode_table.json. -/

namespace Sys2Proof.Machine

def exec (i : Instr) (s : State) : Host.Outcome State Fault Refusal :=
  match i with
  | .powerOnReset straps lrstN estopN => Sys2Proof.Machine.execPowerOnReset straps lrstN estopN s
  | .lrstNAssertion => Sys2Proof.Machine.execLrstNAssertion s
  | .estopAssertion => Sys2Proof.Machine.execEstopAssertion s
  | .estopRelease => Sys2Proof.Machine.execEstopRelease s
  | .strayRun p ending => Sys2Proof.Machine.execStrayRun p ending s
  | .frameDropped p collected => Sys2Proof.Machine.execFrameDropped p collected s
  | .move dst src seq payload => Sys2Proof.Machine.execMove dst src seq payload s
  | .grip form dst src seq payload => Sys2Proof.Machine.execGrip form dst src seq payload s
  | .stop dst src seq payload => Sys2Proof.Machine.execStop dst src seq payload s
  | .param kind dst src seq payload => Sys2Proof.Machine.execParam kind dst src seq payload s
  | .mgRequest kind dst src seq payload => Sys2Proof.Machine.execMgRequest kind dst src seq payload s
  | .state dst src seq payload => Sys2Proof.Machine.execState dst src seq payload s
  | .senseHead dst src seq payload => Sys2Proof.Machine.execSenseHead dst src seq payload s
  | .senseSaw dst src seq payload => Sys2Proof.Machine.execSenseSaw dst src seq payload s
  | .upstreamForward kind dst src seq payload => Sys2Proof.Machine.execUpstreamForward kind dst src seq payload s
  | .staleExpiry k => Sys2Proof.Machine.execStaleExpiry k s
  | .lostExpiry k => Sys2Proof.Machine.execLostExpiry k s
  | .holdTimeout k => Sys2Proof.Machine.execHoldTimeout k s
  | .gripDeadline k => Sys2Proof.Machine.execGripDeadline k s
  | .releaseDeadline k => Sys2Proof.Machine.execReleaseDeadline k s
  | .arrivalTimeAbsent of => Sys2Proof.Machine.execArrivalTimeAbsent of s
  | .waitingForRoom => Sys2Proof.Machine.execWaitingForRoom s
  | .stopSend => Sys2Proof.Machine.execStopSend s
  | .dForwardSend => Sys2Proof.Machine.execDForwardSend s
  | .frameSent p => Sys2Proof.Machine.execFrameSent p s
  | .uForwardSend => Sys2Proof.Machine.execUForwardSend s
  | .mgReply => Sys2Proof.Machine.execMgReply s
  | .notice => Sys2Proof.Machine.execNotice s
  | .setMembership src seq carriage membership => Sys2Proof.Machine.execSetMembership src seq carriage membership s
  | .halt src seq carriage => Sys2Proof.Machine.execHalt src seq carriage s
  | .resume src seq carriage => Sys2Proof.Machine.execResume src seq carriage s
  | .clearFaults src seq carriage => Sys2Proof.Machine.execClearFaults src seq carriage s
  | .fenceOn src seq fence => Sys2Proof.Machine.execFenceOn src seq fence s
  | .fenceOff src seq fence => Sys2Proof.Machine.execFenceOff src seq fence s
  | .bayRestock src seq bay => Sys2Proof.Machine.execBayRestock src seq bay s
  | .retire src seq saw sequence => Sys2Proof.Machine.execRetire src seq saw sequence s
  | .requeue src seq saw sequence => Sys2Proof.Machine.execRequeue src seq saw sequence s
  | .lineReset src seq => Sys2Proof.Machine.execLineReset src seq s
  | .nodeMapWrite src seq index record => Sys2Proof.Machine.execNodeMapWrite src seq index record s
  | .railWrite src seq index record => Sys2Proof.Machine.execRailWrite src seq index record s
  | .carriageWrite src seq index record => Sys2Proof.Machine.execCarriageWrite src seq index record s
  | .headWrite src seq index record => Sys2Proof.Machine.execHeadWrite src seq index record s
  | .cupLayoutWrite src seq index record => Sys2Proof.Machine.execCupLayoutWrite src seq index record s
  | .sawWrite src seq index record => Sys2Proof.Machine.execSawWrite src seq index record s
  | .bayWrite src seq index record => Sys2Proof.Machine.execBayWrite src seq index record s
  | .queueWrite src seq index record => Sys2Proof.Machine.execQueueWrite src seq index record s
  | .fenceWrite src seq index record => Sys2Proof.Machine.execFenceWrite src seq index record s
  | .lampWrite src seq index record => Sys2Proof.Machine.execLampWrite src seq index record s
  | .partStatusRead src seq index => Sys2Proof.Machine.execPartStatusRead src seq index s
  | .countersRead src seq index group item clear => Sys2Proof.Machine.execCountersRead src seq index group item clear s
  | .startMarker p => Sys2Proof.Machine.execStartMarker p s
  | .lrstNRise => Sys2Proof.Machine.execLrstNRise s
  | .resetNLow => Sys2Proof.Machine.execResetNLow s
  | .blinkPeriod pattern => Sys2Proof.Machine.execBlinkPeriod pattern s

end Sys2Proof.Machine
end

