-- ==== Sys2Proof/Machine/Step.lean ====
section
/-! DEFINITION. One step: the command at the front of the queue, or, on an empty queue, the part's own next step of time.
-/

namespace Sys2Proof.Machine

/-- One step. The command at the front of the queue is carried out on the state with the queue's rest. On an empty queue
the part goes on by itself: the next step that has fallen due is taken, and where none is due one millisecond passes
(DESIGN CHOICE, log 1). -/
def step (s : State) : Host.Outcome State Fault Refusal :=
  match s.pending with
  | c :: rest => exec c { s with pending := rest }
  | [] =>
    match nextDue s with
    | some c => exec c s
    | none => .next (tick s)

/-- The command a word spells put at the front of the queue; the table gives no row any bits, so no word spells one. -/
def State.withFetchWord (s : State) (nbits w : Nat) : State :=
  match decodeTableWord nbits w with
  | some c => { s with pending := c :: s.pending }
  | none => s

end Sys2Proof.Machine
end

