-- ==== Sys2Proof/WellFormed.lean ====
section
/-! DEFINITION. Which commands are well formed: operands within the ranges the manual gives the row. A command that is
not well formed still has a meaning (a frame too long is classified long, an index out of range finds nothing). -/

namespace Sys2Proof

/-- A payload a frame can carry: 0 to 48 bytes (R138). -/
def payloadOk (payload : List Byte) : Bool := payload.length ≤ 48

/-- A record a management write can carry behind its table id and index (R138, section 11.3). -/
def recordOk (record : List Byte) : Bool := record.length ≤ 46

/-- A kind a block of the part takes on port U (R144 lines 1 to 9, STOP aside, which may also pass by line 10). -/
def judgedKind (kind : Byte) : Bool :=
  kind == 0x10 || kind == 0x30 || kind == 0x31 || kind == 0x32

/-- A role among the nineteen of R143. -/
def Role.inRange : Role → Bool
  | .controller => true
  | .xDrive k | .zDrive k | .head k => k < 4
  | .saw j => j < 6

/-- A role whose node or saw has a recorded arrival time (R6, R111). -/
def Role.hasArrival : Role → Bool
  | .controller => false
  | r => r.inRange

/-- The operand ranges of the commands. -/
def Instr.wellFormed : Instr → Bool
  | .powerOnReset _ _ _ | .lrstNAssertion | .estopAssertion | .estopRelease | .strayRun _ _ => true
  | .frameDropped _ collected => collected.length ≤ 56
  | .move _ _ _ p | .stop _ _ _ p | .state _ _ _ p | .senseHead _ _ _ p | .senseSaw _ _ _ p => payloadOk p
  | .grip _ _ _ _ p | .mgRequest _ _ _ _ p => payloadOk p
  | .param kind _ _ _ p => payloadOk p && !judgedKind kind
  | .upstreamForward _ _ _ _ p => payloadOk p
  | .staleExpiry k | .lostExpiry k | .holdTimeout k | .gripDeadline k | .releaseDeadline k => k < 4
  | .arrivalTimeAbsent r => r.hasArrival
  | .waitingForRoom | .stopSend | .dForwardSend | .frameSent _ | .uForwardSend | .mgReply | .notice => true
  | .setMembership _ _ _ _ | .halt _ _ _ | .resume _ _ _ | .clearFaults _ _ _ | .fenceOn _ _ _ | .fenceOff _ _ _
  | .bayRestock _ _ _ | .retire _ _ _ _ | .requeue _ _ _ _ | .lineReset _ _ => true
  | .nodeMapWrite _ _ _ r | .railWrite _ _ _ r | .carriageWrite _ _ _ r | .headWrite _ _ _ r
  | .cupLayoutWrite _ _ _ r | .sawWrite _ _ _ r | .bayWrite _ _ _ r | .queueWrite _ _ _ r | .fenceWrite _ _ _ r
  | .lampWrite _ _ _ r => recordOk r
  | .partStatusRead _ _ _ | .countersRead _ _ _ _ _ _ => true
  | .startMarker _ | .lrstNRise | .resetNLow | .blinkPeriod _ => true

end Sys2Proof
end

