-- ==== Sys2Proof/Safety.lean ====
section
/-! DEFINITION. The terms in which the statements about the part are made: what a safe state is (reservations keep their
gap while a carriage may move, the queues keep their room, the Node Map its single holders, the carriage contexts their
laws), the conditions under which a command has its own effect, and what each arriving frame or request leaves. -/

namespace Sys2Proof.Machine

/-! Gap between reservations (R2, R34, R42). -/

/-- Carriages `k` and `k + 1`, where installed: if either is ACTIVE, their known reservations lie at least G apart. -/
def State.pairSpaced (s : State) (k : Nat) : Bool :=
  match s.carriage k, s.carriage (k + 1) with
  | some a, some b =>
    (a.ctx.runState != .active && b.ctx.runState != .active) ||
      (match a.reservation, b.reservation with
      | some x, some y => x.span.apartInOrder s.gap y.span
      | _, _ => true)
  | _, _ => true

/-- Every two adjacent carriages are spaced. -/
def State.spaced (s : State) : Bool := (List.range s.carriages.length).all s.pairSpaced

/-- A carriage out of UNSEEN has a known reservation, but for an EXCLUDED one, which is HALTED (R13, R28, R42). -/
def Carriage.placed (c : Carriage) : Bool :=
  if c.ctx.membership = .excluded then c.ctx.runState == .halted
  else c.ctx.runState == .unseen || c.reservation.isSome

/-- The gap is kept: adjacent carriages are spaced, and every carriage is placed. -/
def State.gapKept (s : State) : Bool := s.spaced && s.carriages.all (·.placed)

/-! Carriage contexts. -/

/-- An ACTIVE carriage has no fault flag (R129); a held move stands only in ACTIVE and NORMAL (R70); an unseen origin is
present only in UNSEEN, and always there (R6). -/
def Carriage.lawful (c : Carriage) : Bool :=
  (c.ctx.runState != .active || !c.ctx.flags.any) &&
    (c.slot.isNone || (c.ctx.runState == .active && c.ctx.membership == .normal)) &&
    (c.ctx.unseenOrigin.isSome == (c.ctx.runState == .unseen))

/-- At most four carriages are installed (R2), and every carriage context is lawful. -/
def State.lawful (s : State) : Bool := s.carriages.length ≤ 4 && s.carriages.all (·.lawful)

/-! Queues and Node Map. -/

/-- Every table has its size: Node Map (R143), CARRIAGE (R4), HEAD (R86), CUP_LAYOUT (R87), fences (R82), bays (R106) and
saws (R111). Every queue of frames, requests, replies and notices holds at most what it has room for (R147, R148, R154,
R166), and every Feed Queue at most 32 entries (R114). -/
def State.roomKept (s : State) : Bool :=
  s.port.nodeMap.length = 63 && s.carriageRecords.length = 4 && s.headRecords.length = 4 && s.cupLayout.length = 16 &&
  s.fences.length = 8 && s.bays.length = 24 && s.saws.length = 6 &&
  s.port.dForward.length ≤ Config.forwardRoom && s.port.uForward.length ≤ Config.forwardRoom &&
    s.management.requests.length ≤ Config.managementRoom && s.management.replies.length ≤ Config.managementRoom &&
    s.management.notices.length ≤ Config.noticeRoom && s.saws.all fun saw => saw.queue.length ≤ Config.feedRoom

/-- Sequences of a Feed Queue increase strictly from head to tail (R114). -/
def Saw.ordered (saw : Saw) : Prop := saw.queue.Pairwise fun a b => a.sequence < b.sequence

/-- Every Feed Queue is ordered. -/
def State.feedOrdered (s : State) : Prop := ∀ saw ∈ s.saws, saw.ordered

/-- Every role of the map is one of the nineteen, and is held by one address (R143). -/
def State.mapSingle (s : State) : Prop :=
  (s.port.nodeMap.filterMap id).Nodup ∧ ∀ r ∈ s.port.nodeMap.filterMap id, r.inRange = true

/-- A drive role. -/
def Role.isDrive : Role → Bool
  | .xDrive _ => true
  | .zDrive _ => true
  | .head _ => false
  | .saw _ => false
  | .controller => false

/-- Every STOP entry is for a mapped drive, and no two are for one node (R125). -/
def State.stopsSingle (s : State) : Prop :=
  (s.port.stops.map (·.node)).Nodup ∧ ∀ e ∈ s.port.stops, ((s.roleOf e.node).map Role.isDrive) = some true

/-! Conditions on a state. -/

/-- The part is not held in power-on reset (R170), and no report between blocks is left to act on. -/
structure State.Running (s : State) : Prop where
  running : s.inputs.resetLow = false
  settled : s.reports = []

/-- Every held-move slot is EMPTY. -/
def State.NoHeld (s : State) : Prop := ∀ c ∈ s.carriages, c.slot = none

/-- No carriage but `k` holds a move. -/
def State.NoneHeldBut (s : State) (k : Nat) : Prop := ∀ j, j ≠ k → ∀ c, s.carriage j = some c → c.slot = none

/-- The address is the part's own, which it takes frames at while it is 0 to 62 (R144, R146). -/
def State.Own (s : State) (address : Byte) : Prop := s.port.ownAddress < 63 ∧ address.toNat = s.port.ownAddress

/-- The part takes management frames from a source, and is ready to carry one out: not in reset, its own address below
63, the source allowed (R145), no request waiting and room for the reply (R154), and no report left to act on. -/
structure State.Listens (s : State) (src : Byte) : Prop where
  running : s.inputs.resetLow = false
  own : s.port.ownAddress < 63
  allowed : s.addressOf .controller = none ∨ s.addressOf .controller = some src.toNat
  idle : s.management.requests = []
  room : s.management.replies.length < 4
  settled : s.reports = []

/-- A report of carriage `k`'s head that arrives now brings about none of the run-state rules (R12): in UNSEEN and LOST
another node has not reported since the arrival set was emptied, or last did W ms ago or earlier (R13, R17); in ACTIVE,
STOPPING and HALTED the carriage is FRESH or EXCLUDED, or another arrival time is absent or W ms old or older (R15). -/
def State.HeadArrivalOnly (s : State) (k : Nat) (c : Carriage) : Prop :=
  let young (t : Option Clock) : Prop := ∃ r a, s.record k = some r ∧ t = some a ∧ age s.lineClock a < r.w
  let others : Prop := young c.ctx.arrivalX ∧ young c.ctx.arrivalZ
  if c.ctx.runState = .unseen ∨ c.ctx.runState = .lost then ¬(c.ctx.inSetX = true ∧ c.ctx.inSetZ = true ∧ others)
  else c.ctx.fresh = true ∨ c.ctx.membership = .excluded ∨ ¬others

/-! Windows (R39). -/

/-- Bay `b` is not UNUSED, and its window contains the position. -/
def State.InBayWindow (s : State) (p b : Nat) : Prop :=
  ∃ bay, s.bays[b]? = some bay ∧ bay.state ≠ .unused ∧ p ≤ bay.centre + bay.tolerance ∧ bay.centre ≤ p + bay.tolerance

/-- Saw `j` is written, and its window contains the position. -/
def State.InSawWindow (s : State) (p j : Nat) : Prop :=
  ∃ saw cfg, s.saws[j]? = some saw ∧ saw.config = some cfg ∧ p ≤ cfg.centre + cfg.tolerance ∧
    cfg.centre ≤ p + cfg.tolerance

/-- Bay `b` is what lies under the position: the first bay whose window contains it. -/
def State.OverBay (s : State) (p b : Nat) : Prop := s.InBayWindow p b ∧ ∀ i, i < b → ¬s.InBayWindow p i

/-- Saw `j` is what lies under the position: in no bay's window, it is the first saw whose window contains it. -/
def State.OverSaw (s : State) (p j : Nat) : Prop :=
  (∀ b, ¬s.InBayWindow p b) ∧ s.InSawWindow p j ∧ ∀ i, i < j → ¬s.InSawWindow p i

/-! What an arriving frame or request leaves. -/

/-- A frame received on port U, counted by what its routing came to (R139, R142). -/
def State.tookU (s : State) (r : Routing) : State :=
  { s with port := { s.port with receiverU := .between, countersU := s.port.countersU.addRouting r } }

/-- A frame received on port D, counted by what its routing came to (R139, R142). -/
def State.tookD (s : State) (r : Routing) : State :=
  { s with port := { s.port with receiverD := .between, countersD := s.port.countersD.addRouting r } }

/-- A frame placed in the D-forward queue (R147). -/
def State.sentDown (s : State) (f : Frame) : State :=
  { s with port := { s.port with dForward := s.port.dForward ++ [f] } }

/-- A frame placed in the U-forward queue (R148). -/
def State.sentUp (s : State) (f : Frame) : State :=
  { s with port := { s.port with uForward := s.port.uForward ++ [f] } }

/-- A frame from port D placed in the U-forward queue while it has room, and dropped as an overrun where it has none
(R148). -/
def State.passedUp (s : State) (f : Frame) : State :=
  if s.port.uForward.length < 8 then (s.sentUp f).tookD .good else s.tookD .overrun

/-- The state in which a request that has just arrived is carried out: port U's receiver is BETWEEN and its good count is
one higher (R139, R142). -/
def State.arrived (s : State) : State := s.tookU .good

/-- A request answered: its reply stands at the tail of the reply queue (R155). -/
def State.replied (s : State) (src seq : Byte) (code : ResultCode) (data : List Byte) : State :=
  { s with management := { s.management with replies := s.management.replies ++ [⟨src, seq, code, data⟩] } }

/-- A request refused, or accepted with no change: it has arrived and is answered, and nothing else is done. -/
def State.answered (s : State) (src seq : Byte) (code : ResultCode) : State := s.arrived.replied src seq code []

/-- The request frame for the part with a source, sequence, kind and payload. -/
def State.requestFrame (s : State) (kind src seq : Byte) (payload : List Byte) : Frame :=
  ⟨BitVec.ofNat 8 s.port.ownAddress, src, kind, seq, payload⟩

/-- A carriage changed in place. -/
def State.changed (s : State) (k : Nat) (f : Carriage → Carriage) : State :=
  { s with carriages := s.carriages.modify k f }

/-- What a halt, or an expiry that halts, leaves alone: time, pins, lamps, configuration, bays, saws with their Feed Queues,
the stamp counter, the Node Map, the counters of the ports, the receivers, the port U queue, the transmitters, and the
request and reply queues. (The carriages, fences, notices, the STOP and D-forward queues with the reports of room and the own
sequence may change.) -/
structure State.Outside (s t : State) : Prop where
  lineClock : t.lineClock = s.lineClock
  inputs : t.inputs = s.inputs
  lamps : t.lamps = s.lamps
  rail : t.rail = s.rail
  carriageRecords : t.carriageRecords = s.carriageRecords
  headRecords : t.headRecords = s.headRecords
  cupLayout : t.cupLayout = s.cupLayout
  stampCounter : t.stampCounter = s.stampCounter
  bays : t.bays = s.bays
  saws : t.saws = s.saws
  nodeMap : t.port.nodeMap = s.port.nodeMap
  ownAddress : t.port.ownAddress = s.port.ownAddress
  receivers : t.port.receiverU = s.port.receiverU ∧ t.port.receiverD = s.port.receiverD
  transmitters : t.port.transmitterU = s.port.transmitterU ∧ t.port.transmitterD = s.port.transmitterD
  uForward : t.port.uForward = s.port.uForward
  counters : t.port.countersU = s.port.countersU ∧ t.port.countersD = s.port.countersD
  requests : t.management.requests = s.management.requests
  replies : t.management.replies = s.management.replies
  pending : t.pending = s.pending

end Sys2Proof.Machine
end

