-- ==== Sys2Proof/Certificates/Slice0/Obligations.lean ====
section
/-! DEFINITION. The statements about the part, for the provers. -/

open Sys2Proof Sys2Proof.Machine

/-! Steps and resets. -/

/-- A step carries out the command at the front of the queue on the state with the queue's rest. On an empty queue (logs 1,
2, 10 and 23, the model's choices) the part goes on by itself: nothing happens while RESET_N is low; an input whose two last
samples agree on a level other than the taken one brings about its event, LRST_N before ESTOP_N; then a report of room that
stands is taken; then one of the expiries, arrival times and blink points that are due, if any is. With nothing due one
millisecond passes: the line clock advances by one, the lamp phase moves on, and both inputs are sampled, at the first of
the levels to come, or at their own where none is to come. -/
def Obligations.StepRunsFrontCommand : Prop :=
  (∀ (s : State) (c : Instr) (rest : List Instr), s.pending = c :: rest → step s = exec c { s with pending := rest }) ∧
  (∀ s : State, s.pending = [] → s.inputs.resetLow = true → step s = .next s) ∧
  ∀ s : State, s.pending = [] → s.inputs.resetLow = false →
    let settles (p : SampledPin) : Prop := p.sample = p.sampleBefore ∧ p.sample ≠ p.taken
    let sampled (p : SampledPin) (next : Option Bool) : SampledPin :=
      ⟨next.getD p.level, next.getD p.level, p.sample, p.taken⟩
    let passed (d : Option Clock) : Prop := ∃ t, d = some t ∧ reached s.lineClock t = true
    let due (i : Instr) : Prop :=
      match i with
      | .staleExpiry k => k < 4 ∧ (∃ c, s.carriage k = some c ∧ c.ctx.fresh = true) ∧ passed (s.staleDeadline k)
      | .lostExpiry k => k < 4 ∧ (∃ c, s.carriage k = some c ∧ c.ctx.fresh = false) ∧ passed (s.lostDeadline k)
      | .holdTimeout k => k < 4 ∧ ∃ h, (s.carriage k).bind (·.slot) = some h ∧ passed (some h.deadline)
      | .gripDeadline k => k < 4 ∧ ∃ l, (s.carriage k).bind (·.load) = some l ∧ l.phase = .gripping ∧ passed l.deadline
      | .releaseDeadline k =>
        k < 4 ∧ ∃ l, (s.carriage k).bind (·.load) = some l ∧ l.phase = .releasing ∧ passed l.deadline
      | .arrivalTimeAbsent role =>
        role.inRange = true ∧ ∃ t, s.arrivalOf role = some t ∧ 2147483648 ≤ age s.lineClock t
      | .blinkPeriod b => s.lamps.points b < s.lamps.pointsDue b
      | _ => False
    (settles s.inputs.lrstN → step s = exec (if s.inputs.lrstN.taken then .lrstNAssertion else .lrstNRise) s) ∧
    (¬settles s.inputs.lrstN → settles s.inputs.estopN →
      step s = exec (if s.inputs.estopN.taken then .estopAssertion else .estopRelease) s) ∧
    (¬settles s.inputs.lrstN → ¬settles s.inputs.estopN →
      (0 < s.port.roomReports → step s = exec .waitingForRoom s) ∧
      (s.port.roomReports = 0 → (∃ i, due i) → ∃ i, due i ∧ step s = exec i s) ∧
      (s.port.roomReports = 0 → (∀ i, ¬due i) →
        step s =
          .next
            { s with
              lineClock := s.lineClock + 1
              inputs :=
                { s.inputs with
                  lrstN := sampled s.inputs.lrstN (s.inputs.coming.head?.map (·.lrstN))
                  estopN := sampled s.inputs.estopN (s.inputs.coming.head?.map (·.estopN))
                  coming := s.inputs.coming.tail }
              lamps := { s.lamps with phase := s.lamps.phase + 1000 } }))

/-- The state after reset holds the power-on values that the chapters give, and meets every invariant stated below. The
own address and the pin levels, which come from outside (log 5), are left out. -/
def Obligations.ResetHoldsPowerOnValues : Prop :=
  State.reset.lineClock = 0 ∧ State.reset.rail = none ∧ State.reset.carriages = [] ∧
    State.reset.carriageRecords = List.replicate 4 none ∧ State.reset.headRecords = List.replicate 4 none ∧
    State.reset.cupLayout = List.replicate 16 none ∧
    State.reset.fences = List.replicate 8 { span := ⟨0, 0⟩, state := .off } ∧ State.reset.stampCounter = 0 ∧
    State.reset.bays = List.replicate 24 ⟨.unused, 0, 0, 0, 0, 0, 0, 0, 0⟩ ∧
    State.reset.saws = List.replicate 6 ⟨none, false, false, none, 0, []⟩ ∧
    State.reset.port.nodeMap = List.replicate 63 none ∧
    State.reset.port.receiverU = .between ∧ State.reset.port.receiverD = .between ∧
    State.reset.port.transmitterU = .free ∧ State.reset.port.transmitterD = .free ∧
    State.reset.port.dForward = [] ∧ State.reset.port.uForward = [] ∧ State.reset.port.stops = [] ∧
    State.reset.port.roomReports = 0 ∧
    State.reset.port.countersU = ⟨0, 0, 0, 0, 0, 0, 0, 0⟩ ∧ State.reset.port.countersD = ⟨0, 0, 0, 0, 0, 0, 0, 0⟩ ∧
    State.reset.port.ownSeq = 0 ∧ State.reset.management = ⟨[], [], [], false⟩ ∧
    State.reset.lamps.blink1 = .one ∧ State.reset.lamps.blink2 = .eight ∧ State.reset.lamps.duty = .half ∧
    State.reset.gapKept = true ∧ State.reset.lawful = true ∧ State.reset.roomKept = true ∧
    State.reset.feedOrdered ∧ State.reset.mapSingle ∧ State.reset.stopsSingle

/-- The rise of RESET_N brings every piece of state to its power-on value, latches the straps as the own address, and takes
the levels of LRST_N and ESTOP_N from their pins. The commands still waiting outside the part, and the pin levels still to
come there, stay (logs 24, 23). -/
def Obligations.PowerOnResetResult : Prop :=
  ∀ (s : State) (straps : BitVec 6) (lrstN estopN : Bool),
    exec (.powerOnReset straps lrstN estopN) s =
      .next
        { State.reset with
          inputs :=
            { resetLow := false
              lrstN := ⟨lrstN, lrstN, lrstN, lrstN⟩
              estopN := ⟨estopN, estopN, estopN, estopN⟩
              emergency := !estopN
              coming := s.inputs.coming }
          port := { State.reset.port with ownAddress := straps.toNat }
          pending := s.pending }

/-- RESET_N going low holds the part in power-on reset: both transmitters at the mark level and every lamp output low,
and no frame is received nor anything else done until RESET_N rises (log 24). -/
def Obligations.ResetNLowHolds : Prop :=
  (∀ s : State,
    exec .resetNLow s =
      .next
        { s with
          port := { s.port with transmitterU := .free, transmitterD := .free }
          inputs := { s.inputs with resetLow := true } }) ∧
    ∀ s : State, s.inputs.resetLow = true →
      (∀ i, lampOutput s i = false) ∧
        ∀ c : Instr, c ≠ .resetNLow → (∀ straps lrstN estopN, c ≠ .powerOnReset straps lrstN estopN) → exec c s = .next s

/-! Reception and frames. -/

/-- The end of a stray run counts one stray, and the 0xA6 that may end it begins a frame; a 0xA6 begins a frame in BETWEEN
and is data in IN_FRAME, where there is no stray run. The end of a frame that is not good drops it: the receiver becomes
BETWEEN, its class is counted, and nothing else is done. -/
def Obligations.ReceptionCounted : Prop :=
  (∀ s : State, s.Running →
    (s.port.receiverU = .between →
      exec (.strayRun .u .gap) s =
          .next { s with port := { s.port with countersU := { s.port.countersU with stray := bump s.port.countersU.stray } } } ∧
        exec (.strayRun .u .marker) s =
          .next
            { s with
              port :=
                { s.port with
                  receiverU := .inFrame
                  countersU := { s.port.countersU with stray := bump s.port.countersU.stray } } }) ∧
    (s.port.receiverD = .between →
      exec (.strayRun .d .gap) s =
          .next { s with port := { s.port with countersD := { s.port.countersD with stray := bump s.port.countersD.stray } } } ∧
        exec (.strayRun .d .marker) s =
          .next
            { s with
              port :=
                { s.port with
                  receiverD := .inFrame
                  countersD := { s.port.countersD with stray := bump s.port.countersD.stray } } }) ∧
    (s.port.receiverU = .inFrame → ∀ e, exec (.strayRun .u e) s = .next s) ∧
    (s.port.receiverD = .inFrame → ∀ e, exec (.strayRun .d e) s = .next s) ∧
    exec (.startMarker .u) s = .next { s with port := { s.port with receiverU := .inFrame } } ∧
    exec (.startMarker .d) s = .next { s with port := { s.port with receiverD := .inFrame } }) ∧
    ∀ (s : State) (rx : List Byte), s.Running →
      (classify rx = .short →
        exec (.frameDropped .u rx) s =
            .next
              { s with
                port :=
                  { s.port with
                    receiverU := .between
                    countersU := { s.port.countersU with short := bump s.port.countersU.short } } } ∧
          exec (.frameDropped .d rx) s =
            .next
              { s with
                port :=
                  { s.port with
                    receiverD := .between
                    countersD := { s.port.countersD with short := bump s.port.countersD.short } } }) ∧
      (classify rx = .long →
        exec (.frameDropped .u rx) s =
            .next
              { s with
                port :=
                  { s.port with
                    receiverU := .between
                    countersU := { s.port.countersU with long := bump s.port.countersU.long } } } ∧
          exec (.frameDropped .d rx) s =
            .next
              { s with
                port :=
                  { s.port with
                    receiverD := .between
                    countersD := { s.port.countersD with long := bump s.port.countersD.long } } }) ∧
      (classify rx = .checkError →
        exec (.frameDropped .u rx) s =
            .next
              { s with
                port :=
                  { s.port with
                    receiverU := .between
                    countersU := { s.port.countersU with checkError := bump s.port.countersU.checkError } } } ∧
          exec (.frameDropped .d rx) s =
            .next
              { s with
                port :=
                  { s.port with
                    receiverD := .between
                    countersD := { s.port.countersD with checkError := bump s.port.countersD.checkError } } })

/-- A received frame of at most 56 collected bytes is classified by the first line of R140 that applies. What the part sends
is received as what it sent: a frame of at most 48 payload bytes, written to the line with its check word, is classified
good with every field; and the fields of a MOVE payload that the part writes are read back from it, but for the clamped
flag, which is disregarded. -/
def Obligations.FramesClassifiedAndReadBack : Prop :=
  (∀ rx : List Byte, rx.length ≤ 56 →
    classify rx =
      if rx.length < 5 then .short
      else if 48 < (rx.getD 4 0).toNat then .long
      else if 55 < rx.length then .long
      else if rx.length < 7 + (rx.getD 4 0).toNat then .short
      else if 7 + (rx.getD 4 0).toNat < rx.length then .long
      else if checkWord (rx.take (5 + (rx.getD 4 0).toNat)) ≠
          (rx.getD (6 + (rx.getD 4 0).toNat) 0 ++ rx.getD (5 + (rx.getD 4 0).toNat) 0 : BitVec 16) then .checkError
      else .good ⟨rx.getD 0 0, rx.getD 1 0, rx.getD 2 0, rx.getD 3 0, (rx.drop 5).take (rx.getD 4 0).toNat⟩) ∧
  (∀ f : Frame, f.payload.length ≤ 48 → classify (f.wire.drop 1) = .good f) ∧
    ∀ (tag : Byte) (axis : Axis) (target speed : Nat) (action : BlockedAction) (clamped : Bool),
      target < 4294967296 → speed < 65536 →
        parseMove (moveBytes tag axis target speed action clamped) = some ⟨tag, some axis, target, speed, some action⟩

/-! Routing. -/

/-- Line 10 of R144: a frame from port U that no block takes is placed in the D-forward queue with every byte as received,
or dropped as an overrun where the queue is full. -/
def Obligations.OtherFramesPassDown : Prop :=
  ∀ (s : State) (kind dst src seq : Byte) (payload : List Byte), s.Running → payload.length ≤ 48 → ¬s.Own dst →
    (kind = 0x10 ∨ kind = 0x30 ∨ kind = 0x31 ∨ kind = 0x32 →
      dst.toNat ≠ 63 ∧ (∃ e ∈ s.port.nodeMap, e ≠ none) ∧ s.roleOf dst.toNat = none) →
    (kind = 0x11 → ∀ k axis, s.roleOf dst.toNat ≠ some (driveRole k axis)) →
      (s.port.dForward.length < 8 →
        exec (.param kind dst src seq payload) s = .next ((s.sentDown ⟨dst, src, kind, seq, payload⟩).tookU .good)) ∧
      (8 ≤ s.port.dForward.length → exec (.param kind dst src seq payload) s = .next (s.tookU .overrun))

/-- Lines 2, 3, 4, 6 and 8 of R144: a frame of another kind at the part's own address, and a MOVE or GRIP to broadcast, to
any address while the map is empty, or to a node of another role, is misdirected: counted, and nothing else done. -/
def Obligations.MisdirectedFromU : Prop :=
  ∀ (s : State) (dst src seq : Byte) (payload : List Byte), s.Running → payload.length ≤ 48 →
    (s.Own dst ∨ dst.toNat = 63 ∨ (∀ e ∈ s.port.nodeMap, e = none) ∨
        (∃ r, s.roleOf dst.toNat = some r ∧ ∀ k axis, r ≠ driveRole k axis) →
      exec (.move dst src seq payload) s = .next (s.tookU .misdirected)) ∧
    (s.Own dst ∨ dst.toNat = 63 ∨ (∀ e ∈ s.port.nodeMap, e = none) ∨
        (∃ r, s.roleOf dst.toNat = some r ∧ ∀ k, r ≠ .head k) →
      ∀ form, exec (.grip form dst src seq payload) s = .next (s.tookU .misdirected)) ∧
    (s.Own dst → ∀ kind : Byte, kind ≠ 0x60 → kind ≠ 0x61 → kind ≠ 0x62 →
      exec (.param kind dst src seq payload) s = .next (s.tookU .misdirected)) ∧
    (s.Own dst → exec (.stop dst src seq payload) s = .next (s.tookU .misdirected))

/-- R145 and R154: a management frame at the part's own address is misdirected from a source that the map does not allow.
Otherwise, while the reply queue is full, it waits in the request queue, or is dropped as an overrun where 4 wait. Where the
part is ready for it, it is carried out at once, in the step of its arrival (the eager agent is the model's choice, log 4),
and a read is answered with the bytes of section 11.4, the state otherwise unchanged: the entry of an address other than the
part's own (NODE_MAP); a record with its written marker, all 0 while it is unwritten (CARRIAGE, HEAD, CUP_LAYOUT; and, the
model's choice, RAIL and the SAW configuration: log 44); a saw with its live part; a bay; a fence with its state; the LAMP
record; of a Feed Queue its length, and from position 1 the entry there, NO_ENTRY beyond the last; sections 0 to 2 of the
CARRIAGE_STATUS (the blocker byte of an EMPTY slot 0xFF, log 37) and the LOAD_STATUS of an installed carriage. An index (a
position above 32, a section above 2) that the table does not hold is refused BAD_INDEX, a wrong number of operands
BAD_FIELD (a missing position or section too, log 30), an unknown table BAD_TABLE. (The reads of PART_STATUS and COUNTERS,
the writes and the commands are said row by row below, what R156 refuses of a write or a command by its table, code, index
or length in RefusedRequestChangesNothing.) -/
def Obligations.ManagementFrameTaken : Prop :=
  ∀ (s : State) (dst src seq : Byte), s.Running → s.Own dst →
    (∀ (kind : MgKind) (payload : List Byte), payload.length ≤ 48 →
      ((∃ a, s.addressOf .controller = some a ∧ a ≠ src.toNat) →
        s.management.requests = [] ∨ 4 ≤ s.management.replies.length →
          exec (.mgRequest kind dst src seq payload) s = .next (s.tookU .misdirected)) ∧
      (s.addressOf .controller = none ∨ s.addressOf .controller = some src.toNat → 4 ≤ s.management.replies.length →
        (s.management.requests.length < 4 →
          exec (.mgRequest kind dst src seq payload) s =
            .next
              ({ s with
                  management :=
                    { s.management with
                      requests :=
                        s.management.requests ++ [(⟨dst, src, Kind.request kind, seq, payload⟩ : Frame)] } }.tookU
                .good)) ∧
        (4 ≤ s.management.requests.length →
          exec (.mgRequest kind dst src seq payload) s = .next (s.tookU .overrun)))) ∧
    (s.Listens src →
      let read (table i : Byte) (operands : List Byte) : Host.Outcome State Fault Refusal :=
        exec (.mgRequest .read dst src seq (table :: i :: operands)) s
      let refused (table i : Byte) (operands : List Byte) (code : ResultCode) : Prop :=
        read table i operands = .next (s.answered src seq code)
      let answers (table i : Byte) (operands data : List Byte) : Prop :=
        read table i operands = .next (s.arrived.replied src seq .ok data) ∧
          ∀ b : Byte, refused table i (operands ++ [b]) .badField
      let one (n : Nat) : List Byte := [BitVec.ofNat 8 n]
      let two (n : Nat) : List Byte := one n ++ one (n / 256)
      let four (n : Nat) : List Byte := two n ++ two (n / 65536)
      let signed (v : Int) : List Byte := two (v % 65536).toNat
      let bit (b : Bool) (place : Nat) : Nat := if b then 2 ^ place else 0
      let index (o : Option Nat) : List Byte := one (o.getD 255)
      let time (t : Option Clock) : List Byte := four (t.getD 0).toNat
      (∀ i : Byte, (i.toNat = s.port.ownAddress ∨ s.port.nodeMap[i.toNat]? = none → refused 0x01 i [] .badIndex) ∧
        ∀ e, i.toNat ≠ s.port.ownAddress → s.port.nodeMap[i.toNat]? = some e →
          answers 0x01 i []
            (match e with
            | none => [0, 0]
            | some .controller => [1, 0]
            | some (.xDrive k) => 2 :: one k
            | some (.zDrive k) => 3 :: one k
            | some (.head k) => 4 :: one k
            | some (.saw j) => 5 :: one j)) ∧
      (∀ i : Byte, i ≠ 0 → refused 0x02 i [] .badIndex) ∧
      answers 0x02 0 []
        (match s.rail with
        | none => List.replicate 9 0
        | some r => 1 :: four r.railLength ++ two r.gap ++ one r.n ++ one r.lookahead) ∧
      (∀ i : Byte, (s.carriageRecords[i.toNat]? = none → refused 0x03 i [] .badIndex) ∧
        ∀ e, s.carriageRecords[i.toNat]? = some e →
          answers 0x03 i []
            (match e with
            | none => List.replicate 38 0
            | some r =>
              1 :: two r.leftExt ++ two r.rightExt ++ four r.travelLo ++ four r.travelHi ++ two r.vmax ++ two r.aStop ++
                one r.tReact ++ one r.vStill ++ two r.zClear ++ two r.zMax ++ one r.w ++ two r.l ++ two r.holdTime ++
                one (bit r.startHeld 0) ++
                (match r.park with
                | none => List.replicate 9 0
                | some p => 1 :: four p.lo ++ four p.hi))) ∧
      (∀ i : Byte, (s.headRecords[i.toNat]? = none → refused 0x04 i [] .badIndex) ∧
        ∀ e, s.headRecords[i.toNat]? = some e →
          answers 0x04 i []
            (match e with
            | none => List.replicate 14 0
            | some h =>
              1 :: one h.r ++ one h.minCups ++ one h.minHold ++ two h.gripTime ++ two h.releaseTime ++ one h.press ++
                two h.contactTol ++ two h.liftCheck ++ one h.n)) ∧
      (∀ i : Byte, (s.cupLayout[i.toNat]? = none → refused 0x05 i [] .badIndex) ∧
        ∀ e, s.cupLayout[i.toNat]? = some e →
          answers 0x05 i []
            (match e with
            | none => List.replicate 34 0
            | some cups =>
              1 :: cups.flatMap (fun cup => signed cup.dx ++ signed cup.dy) ++
                one ((cups.zipIdx.map fun p => bit p.1.fitted p.2).sum))) ∧
      (∀ i : Byte, (s.saws[i.toNat]? = none → refused 0x06 i [] .badIndex) ∧
        ∀ saw, s.saws[i.toNat]? = some saw →
          answers 0x06 i []
            ((match saw.config with
              | none => List.replicate 11 0
              | some c => 1 :: four c.centre ++ two c.tolerance ++ two c.tableHeight ++ two c.freshness) ++
              one (bit saw.ready 0 + bit saw.infeedClear 1 + bit saw.arrival.isSome 2) ++ time saw.arrival ++
              four saw.placed)) ∧
      (∀ i : Byte, (s.bays[i.toNat]? = none → refused 0x07 i [] .badIndex) ∧
        ∀ bay, s.bays[i.toNat]? = some bay →
          answers 0x07 i []
            (one bay.state.code ++ four bay.centre ++ two bay.tolerance ++ two bay.material ++ two bay.length ++
              two bay.width ++ two bay.thickness ++ one bay.count ++ two bay.base)) ∧
      (∀ i p : Byte, (s.saws[i.toNat]? = none ∨ 32 < p.toNat → refused 0x08 i [p] .badIndex) ∧
        ∀ saw, s.saws[i.toNat]? = some saw →
          refused 0x08 i [] .badField ∧
          (p = 0 → answers 0x08 i [p] (one saw.queue.length)) ∧
          (saw.queue.length < p.toNat → p.toNat ≤ 32 → refused 0x08 i [p] .noEntry) ∧
          ∀ q e, p.toNat = q + 1 → q < 32 → saw.queue[q]? = some e →
            answers 0x08 i [p]
              (one saw.queue.length ++ two e.sequence ++ two e.material ++ two e.length ++ two e.width ++
                two e.thickness ++ index e.sourceBay ++ one e.state.code ++ index e.carrier)) ∧
      (∀ i : Byte, (s.fences[i.toNat]? = none → refused 0x09 i [] .badIndex) ∧
        ∀ f, s.fences[i.toNat]? = some f →
          answers 0x09 i [] (four f.span.lo ++ four f.span.hi ++ one f.state.code)) ∧
      (∀ i : Byte, i ≠ 0 → refused 0x0A i [] .badIndex) ∧
      answers 0x0A 0 [] (one s.lamps.blink1.code ++ one s.lamps.blink2.code ++ one s.lamps.duty.code) ∧
      (∀ i p : Byte, (s.carriage i.toNat = none → refused 0x20 i [p] .badIndex ∧ refused 0x21 i [] .badIndex) ∧
        ∀ c, s.carriage i.toNat = some c →
          let axis (a : Option AxisReport) : List Byte :=
            match a with
            | none => List.replicate 7 0
            | some a =>
              four a.position ++ signed a.velocity ++
                one (bit a.status.ready 0 + bit a.status.fault 1 + bit a.status.inPosition 2)
          let active (m : Option ActiveMove) : List Byte :=
            match m with
            | none => List.replicate 5 0
            | some m => four m.target ++ [m.tag]
          let x := c.ctx
          let stale := s.staleDeadline i.toNat
          let lost := s.lostDeadline i.toNat
          refused 0x20 i [] .badField ∧ (2 < p.toNat → refused 0x20 i [p] .badIndex) ∧
          answers 0x20 i [0]
            (one x.membership.code ++ one x.runState.code ++ one (UnseenOrigin.code x.unseenOrigin) ++
              one (bit (!x.fresh) 0) ++
              one
                (bit x.lastX.isSome 0 + bit x.lastZ.isSome 1 + bit x.arrivalX.isSome 2 + bit x.arrivalZ.isSome 3 +
                  bit x.arrivalHead.isSome 4 + bit x.activeX.isSome 5 + bit x.activeZ.isSome 6) ++
              axis x.lastX ++ axis x.lastZ ++ time x.arrivalX ++ time x.arrivalZ ++ time x.arrivalHead ++
              one (bit x.inSetX 0 + bit x.inSetZ 1 + bit x.inSetHead 2 + bit x.stillX 3 + bit x.stillZ 4) ++
              one
                (bit x.flags.excursion 0 + bit x.flags.lost 1 + bit x.flags.vacuumDrop 2 + bit x.flags.releaseFail 3 +
                  bit x.flags.driveFault 4) ++
              active x.activeX ++ active x.activeZ) ∧
          answers 0x20 i [1]
            (one (bit stale.isSome 0 + bit lost.isSome 1 + bit c.virtualX.isSome 2) ++ time stale ++ time lost ++
              (match c.reservation with
              | none => List.replicate 9 0
              | some held => one held.stage.code ++ four held.span.lo ++ four held.span.hi) ++
              four (c.virtualX.getD 0)) ∧
          answers 0x20 i [2]
            (match c.slot with
            | none => List.replicate 11 0 ++ [0xFF] ++ List.replicate 16 0
            | some h =>
              one (1 + bit (h.axis == .z) 1 + bit h.waitingForRoom 2 + bit h.lastClamped.isSome 3) ++ four h.target ++
                two h.speed ++ [h.tag] ++ one h.action.code ++ one h.cause.code ++
                [if h.side = none then 0 else if h.side = some .left then 1 else 2] ++
                (match h.blocker with
                | none => [0xFF]
                | some (.carriage j) => one j
                | some (.fence f) => one (0x10 + f)) ++
                time (some h.arrival) ++ time (some h.deadline) ++ time (some h.stamp) ++
                four (h.lastClamped.getD 0)) ∧
          answers 0x21 i []
            ((match c.load with
              | none => [0, 0, 0xFF, 0, 0, 0xFF] ++ List.replicate 23 0
              | some l =>
                one l.phase.code ++ one ((l.beforeRelease.map LoadPhase.code).getD 0) ++ one l.jobSaw ++ two l.jobSeq ++
                  one l.originBay ++ four l.pickTop ++ two l.thickness ++ two l.length ++ two l.width ++
                  four l.mask.toNat ++ one (bit l.putBack 0) ++ one (bit l.deadline.isSome 0) ++ time l.deadline ++
                  two l.sum ++ one l.count) ++
              four c.image.toNat ++ one c.modulesReported ++ one c.modulesInForce)) ∧
      ∀ table i : Byte, table.toNat = 0 ∨ 0x0A < table.toNat ∧ table.toNat < 0x20 ∨ 0x23 < table.toNat →
        refused table i [] .badTable)

/-! Shared operations: notices and STOP requests. -/

/-- A notice handed while no address holds CONTROLLER is discarded; otherwise it is placed at the tail of the notice queue
while that holds fewer than 16, and discarded with the overflow flag set while it holds 16. Nothing else changes. -/
def Obligations.NoticeHandedByMapAndQueue : Prop :=
  ∀ (s : State) (kind : NoticeKind) (subject : Option Nat) (reference : Reference) (cause : Cause) (detail : Detail),
    (s.addressOf .controller = none → hand s kind subject reference cause detail = s) ∧
    ((∃ a, s.addressOf .controller = some a) → s.management.notices.length < 16 →
      hand s kind subject reference cause detail =
        { s with
          management :=
            { s.management with
              notices :=
                s.management.notices ++ [(⟨kind, subject, reference, cause, detail, s.lineClock⟩ : Notice)] } }) ∧
    ((∃ a, s.addressOf .controller = some a) → 16 ≤ s.management.notices.length →
      hand s kind subject reference cause detail = { s with management := { s.management with overflow := true } })

/-- A STOP request of the part for a drive of carriage `k` clears the active move of the axis. Where the drive's role holds
an address, an entry is made at the tail (origin PART, own address, the next own sequence value) unless the node has one,
which is then kept as it is, and every waiting MOVE frame for the node is withdrawn, the room reported: a report stands, where
a held move waits for room (log 10). Where it holds none, nothing more is done. -/
def Obligations.StopRequestedByPart : Prop :=
  ∀ (s : State) (k : Nat) (axis : Axis) (reason : StopReason),
    (s.addressOf (driveRole k axis) = none →
      requestStop s k axis reason =
        s.changed k fun c =>
          { c with
            ctx :=
              match axis with
              | .x => { c.ctx with activeX := none }
              | .z => { c.ctx with activeZ := none } }) ∧
    ∀ node, s.addressOf (driveRole k axis) = some node →
      requestStop s k axis reason =
        { s.changed k (fun c =>
            { c with
              ctx :=
                match axis with
                | .x => { c.ctx with activeX := none }
                | .z => { c.ctx with activeZ := none } }) with
          port :=
            { s.port with
              stops :=
                if ∃ e ∈ s.port.stops, e.node = node then s.port.stops
                else
                  s.port.stops ++
                    [(⟨node, reason, .part, BitVec.ofNat 8 s.port.ownAddress, s.port.ownSeq⟩ : StopEntry)]
              ownSeq := if ∃ e ∈ s.port.stops, e.node = node then s.port.ownSeq else s.port.ownSeq + 1
              dForward := s.port.dForward.filter fun f => !(f.kind == 0x10 && f.dst.toNat == node)
              roomReports :=
                if (∃ f ∈ s.port.dForward, f.kind = 0x10 ∧ f.dst.toNat = node) ∧
                    ∃ c ∈ s.carriages, c.slot.any (·.waitingForRoom) = true then
                  s.port.roomReports + 1
                else s.port.roomReports } }

/-- A STOP from port U for a drive of carriage `k` makes an entry with reason and origin CONTROLLER and the frame's own
source and sequence, or merges into the node's entry. It clears the axis's active move, ends the held move CANCELLED and
withdraws the waiting MOVE frames for the node, the room reported where another carriage's held move waits for it (log 10);
the run state and all else stay. For a carriage that is not installed the entry and the withdrawal are made all the same
(log 21). -/
def Obligations.ControllerStopTaken : Prop :=
  ∀ (s : State) (k : Nat) (axis : Axis) (dst src seq : Byte) (payload : List Byte), s.Running → payload.length ≤ 48 →
    ¬s.Own dst → s.roleOf dst.toNat = some (driveRole k axis) →
      exec (.stop dst src seq payload) s =
        .next
          (State.tookU
            { (match (s.carriage k).bind (·.slot) with
                | none => s
                | some h => hand s .holdEnd (some k) (.tag h.tag) .cancelled .absent) with
              carriages :=
                s.carriages.modify k fun c =>
                  { c with
                    slot := none
                    ctx :=
                      match axis with
                      | .x => { c.ctx with activeX := none }
                      | .z => { c.ctx with activeZ := none } }
              port :=
                { s.port with
                  stops :=
                    if ∃ e ∈ s.port.stops, e.node = dst.toNat then s.port.stops
                    else s.port.stops ++ [(⟨dst.toNat, .controller, .controller, src, seq⟩ : StopEntry)]
                  dForward := s.port.dForward.filter fun f => !(f.kind == 0x10 && f.dst.toNat == dst.toNat)
                  roomReports :=
                    if (∃ f ∈ s.port.dForward, f.kind = 0x10 ∧ f.dst.toNat = dst.toNat) ∧
                        ∃ j ∈ List.range s.carriages.length,
                          j ≠ k ∧ ((s.carriage j).bind (·.slot)).any (·.waitingForRoom) = true then
                      s.port.roomReports + 1
                    else s.port.roomReports } }
            .good)

/-! MOVE. -/

/-- The stopping distance, occupancy, envelope, stale and lost widening, target clamp and thickness result of chapter 2, each as
its rule writes it: every division rounded up but for the average, every difference stopping at 0, every bound clamped to the
rail. The free limits are the tightest of the candidates of R53 and name the blocker by its ties; a target is fenced by a
standing fence that both occupancies meet; a shorter target reaches the free limit on the side of travel, lies beyond the
position, fits, and exists only while the envelope fits; and the bay at a position is the first not UNUSED whose window
contains it. -/
def Obligations.EnvelopeArithmetic : Prop :=
  (∀ (r : CarriageRecord) (rail p v : Nat), 0 < r.aStop →
    (∃ braking reaction,
      5 * v * v ≤ r.aStop * braking ∧ r.aStop * braking < 5 * v * v + r.aStop ∧
        v * r.tReact ≤ 100 * reaction ∧ 100 * reaction < v * r.tReact + 100 ∧
        stopDistance r rail v = min (braking + reaction) rail) ∧
    occupancy r rail p = ⟨min (p - r.leftExt) rail, min (p + r.rightExt) rail⟩ ∧
    (0 < v →
      envelope r rail p v = ⟨min (p - r.leftExt) rail, min (p + r.rightExt + stopDistance r rail v) rail⟩ ∧
        envelope r rail p (-v) = ⟨min (p - r.leftExt - stopDistance r rail v) rail, min (p + r.rightExt) rail⟩) ∧
    envelope r rail p 0 = occupancy r rail p ∧
    (r.travelLo < r.travelHi → clampTarget r p = max r.travelLo (min p r.travelHi)) ∧
    (r.vmax * (r.l - r.w) ≤ 100 * dStale r ∧ 100 * dStale r < r.vmax * (r.l - r.w) + 100) ∧
    (∀ (span : Interval) (d : Nat), span.widen rail d = ⟨min (span.lo - d) rail, min (span.hi + d) rail⟩) ∧
    ∀ sum n t : Nat, 0 < n →
      (3 * t < 2 * (sum / n) → thicknessCheck sum n t = .double) ∧ (2 * (sum / n) < t → thicknessCheck sum n t = .thin) ∧
        (t ≤ 2 * (sum / n) → 2 * (sum / n) ≤ 3 * t → thicknessCheck sum n t = .ok)) ∧
  (∀ (s : State) (k : Nat) (occ : Interval),
    let fence (i : Nat) (span : Interval) : Prop :=
      i < 8 ∧ ∃ f, s.fences[i]? = some f ∧ f.state ≠ .off ∧ span = s.fenceSpan f
    let candidateLeft (v : Nat) (b : Option Blocker) : Prop :=
      (k = 0 ∧ v = 0 ∧ b = none) ∨
        (∃ j, k = j + 1 ∧ b = some (.carriage j) ∧ v = ((s.span j).map fun r => r.hi + s.gap).getD occ.lo) ∨
        ∃ i span, fence i span ∧ span.hi < occ.lo ∧ b = some (.fence i) ∧ v = span.hi + s.gap
    let candidateRight (v : Nat) (b : Option Blocker) : Prop :=
      (s.carriages.length ≤ k + 1 ∧ v = s.railLength ∧ b = none) ∨
        (k + 1 < s.carriages.length ∧ b = some (.carriage (k + 1)) ∧
          v = ((s.span (k + 1)).map fun r => r.lo - s.gap).getD occ.hi) ∨
        ∃ i span, fence i span ∧ occ.hi < span.lo ∧ b = some (.fence i) ∧ v = span.lo - s.gap
    let named (candidate : Nat → Option Blocker → Prop) (limit : Limit) : Prop :=
      candidate limit.value limit.blocker ∧
        (∀ j, candidate limit.value (some (.carriage j)) → limit.blocker = some (.carriage j)) ∧
        ∀ i, candidate limit.value (some (.fence i)) →
          limit.blocker ≠ none ∧ ∀ i', limit.blocker = some (.fence i') → i' ≤ i
    (named candidateLeft (s.leftFree k occ) ∧ ∀ v b, candidateLeft v b → v ≤ (s.leftFree k occ).value) ∧
    (named candidateRight (s.rightFree k occ) ∧ ∀ v b, candidateRight v b → (s.rightFree k occ).value ≤ v) ∧
    ∀ target : Interval,
      s.fencedTarget occ target = true ↔
        ∃ f ∈ s.fences, f.state ≠ .off ∧ (s.fenceSpan f).lo ≤ occ.hi ∧ occ.lo ≤ (s.fenceSpan f).hi ∧
          (s.fenceSpan f).lo ≤ target.hi ∧ target.lo ≤ (s.fenceSpan f).hi) ∧
  (∀ (r : CarriageRecord) (p x left right : Nat) (e : Interval),
    (∀ x', shorterTarget r p x left right e = some x' ↔
      left ≤ e.lo ∧ e.hi ≤ right ∧
        (p < x ∧ x' = right - r.rightExt ∧ p < x' ∨ x < p ∧ x' = left + r.leftExt ∧ x' < p)) ∧
    ∀ (rail v : Nat) (rightward : Bool) (x' : Nat), right ≤ rail →
      e = envelope r rail p (if rightward then (v : Int) else -(v : Int)) → shorterTarget r p x left right e = some x' →
        left ≤ (e.hull (occupancy r rail x')).lo ∧ (e.hull (occupancy r rail x')).hi ≤ right) ∧
  ∀ (s : State) (p b : Nat),
    let inside (i : Nat) : Prop :=
      ∃ bay, s.bays[i]? = some bay ∧ bay.state ≠ .unused ∧ p ≤ bay.centre + bay.tolerance ∧ bay.centre ≤ p + bay.tolerance
    s.bayAt p = some b ↔ inside b ∧ ∀ i, i < b → ¬inside i

/-- A MOVE refused: for a carriage not installed, with a notice and no count; for an ISOLATED or EXCLUDED one NOT_NORMAL;
for a NORMAL one by the first precondition that fails (ESTOP, and NOT_ACTIVE out of ACTIVE, without a last X position or a
record too, as in UNSEEN): of R57 for an X MOVE, of R63 for a raise, of R64 for a lowering, with what lies under it by R65
(a bay in RESTOCK, an EMPTY bay that is not the origin of a carried panel, a bay other than that origin, a saw with no
LOADED load). Each is a verdict: counted, with its notice, and nothing else done. A waitable precondition that fails is
refused under REFUSE and CLAMP, and held under WAIT and CLAMP_WAIT with its cause, no side and no blocker, a Z MOVE as WAIT.
`judge`, which judges held moves afresh (R75), answers these same causes. A MOVE that finds a held move ends it SUPERSEDED
first and is then judged as if the slot had been EMPTY. -/
def Obligations.MoveRefused : Prop :=
  ∀ (s : State) (k : Nat) (dst src seq : Byte) (payload : List Byte), s.Running → payload.length ≤ 48 → ¬s.Own dst →
    dst.toNat ≠ 63 →
      (∀ axis, s.roleOf dst.toNat = some (driveRole k axis) → s.carriage k = none →
        exec (.move dst src seq payload) s =
          .next ((hand s .verdict (some k) (.tag (payload.headD 0)) .refused (.cause .notNormal)).tookU .good)) ∧
      ∀ c : Carriage, s.carriage k = some c →
        let refused (cause : Cause) : Prop :=
          exec (.move dst src seq payload) s =
            .next
              ((hand
                (s.changed k fun c =>
                  { c with
                    ctx :=
                      { c.ctx with counters := { c.ctx.counters with refused := bump c.ctx.counters.refused } } })
                .verdict (some k) (.tag (payload.headD 0)) .refused (.cause cause)).tookU .good)
        (∀ axis, s.roleOf dst.toNat = some (driveRole k axis) →
          c.ctx.membership = .isolated ∨ c.ctx.membership = .excluded → refused .notNormal) ∧
        (∀ axis, s.roleOf dst.toNat = some (driveRole k axis) → c.ctx.membership = .normal → c.slot = none →
          (∀ m, parseMove payload = some m → m.action = none ∨ m.axis ≠ some axis) → refused .badField) ∧
        (∀ axis h, s.roleOf dst.toNat = some (driveRole k axis) → c.ctx.membership = .normal → c.slot = some h →
          exec (.move dst src seq payload) s =
            exec (.move dst src seq payload)
              (hand (s.changed k fun c => { c with slot := none }) .holdEnd (some k) (.tag h.tag) .superseded .absent)) ∧
        ∀ (axis : Axis) (m : MoveFields) (a : BlockedAction), s.roleOf dst.toNat = some (driveRole k axis) →
          c.ctx.membership = .normal → c.slot = none → parseMove payload = some m → m.axis = some axis →
          m.action = some a →
            let judged := judge s k false axis m.target m.speed
            let fails (cause : Cause) : Prop := refused cause ∧ judged = .refuse cause
            (s.inputs.emergency = true → fails .estop) ∧
            (s.inputs.emergency = false → c.ctx.runState ≠ .active → fails .notActive) ∧
            ∀ (r : CarriageRecord) (x : AxisReport), s.record k = some r → c.ctx.lastX = some x →
              let waits : Prop := a = .wait ∨ a = .clampWait
              let loaded (phases : List LoadPhase) : Prop := ∃ l, c.load = some l ∧ l.phase ∈ phases
              let waitsOn (cause : Cause) : Prop :=
                judged = .waitable cause ∧ (¬waits → refused cause) ∧
                  (waits →
                    exec (.move dst src seq payload) s =
                      .next
                        ((hand
                          { s.changed k (fun c =>
                              { c with
                                slot :=
                                  some
                                    { axis := axis
                                      target := m.target
                                      speed := m.speed
                                      tag := m.tag
                                      action := if axis = .z then .wait else a
                                      cause := cause
                                      side := none
                                      blocker := none
                                      arrival := s.lineClock
                                      deadline := s.lineClock + BitVec.ofNat 32 r.holdTime
                                      stamp := s.stampCounter
                                      lastClamped := none
                                      waitingForRoom := false }
                                ctx :=
                                  { c.ctx with counters := { c.ctx.counters with held := bump c.ctx.counters.held } } }) with
                            stampCounter := s.stampCounter + 1 }
                          .verdict (some k) (.tag m.tag) .held (.cause cause)).tookU .good))
              (s.inputs.emergency = false → c.ctx.runState = .active → c.ctx.fresh = false → fails .stale) ∧
              (s.inputs.emergency = false → c.ctx.runState = .active → c.ctx.fresh = true →
                let low : Prop :=
                  (∀ z, c.ctx.lastZ = some z → z.position < r.zClear) ∨ ∃ z, c.ctx.activeZ = some z ∧ z.target < r.zClear
                let lowering : Prop := ∃ z, c.ctx.lastZ = some z ∧ m.target < z.position ∧ m.target < r.zClear
                let moving : Prop := c.ctx.activeX ≠ none ∨ r.vStill < x.velocity.natAbs
                (axis = .x →
                  (low → waitsOn .headLow) ∧
                  (¬low → loaded [.gripping, .checking, .releasing] → waitsOn .loadBusy) ∧
                  (¬low → loaded [.rejected] → fails .loadRejected) ∧
                  (¬low → ¬loaded [.gripping, .checking, .releasing, .rejected] → m.speed = 0 → fails .badField)) ∧
                (axis = .z → ¬lowering →
                  (loaded [.gripping, .releasing] → waitsOn .loadBusy) ∧
                  (¬loaded [.gripping, .releasing] → m.speed = 0 → fails .badField)) ∧
                (axis = .z → lowering →
                  (loaded [.gripping, .checking, .releasing] → waitsOn .loadBusy) ∧
                  (¬loaded [.gripping, .checking, .releasing] →
                    (moving → waitsOn .xMoving) ∧
                    (¬moving → m.speed = 0 → fails .badField) ∧
                    (¬moving → m.speed ≠ 0 →
                      ((∀ b, ¬s.InBayWindow x.position b) → (∀ j, ¬s.InSawWindow x.position j) → fails .noWindow) ∧
                      (∀ b bay, s.OverBay x.position b → s.bays[b]? = some bay →
                        let own : Prop := ∃ l, c.load = some l ∧ l.originBay = b
                        (bay.state = .restock → fails .bayRestock) ∧
                        (bay.state = .empty → ¬own → fails .bayEmpty) ∧
                        (bay.state = .active → c.load ≠ none → ¬own → fails .wrongBay)) ∧
                      ∀ j, s.OverSaw x.position j → ¬loaded [.loaded] → fails .noLoad))))

/-- An X MOVE that meets every precondition of R57 and fits its free limits is forwarded with its clamped target and speed
limit: in one step the frame enters the D-forward queue, the reservation becomes the hull of the envelope and the occupancy
at the target, the active X move is set, the PENDING fences are tested (their notices come before the verdict's: the model's
order, log 39), and the verdict is ADMITTED, or CLAMPED with its notice. Where the D-forward queue is full it is dropped as
an overrun, with nothing else done. `judge`, which judges held moves afresh (R75), answers the same target, speed limit and
clamped flag. -/
def Obligations.XMoveForwarded : Prop :=
  ∀ (s : State) (k : Nat) (dst src seq : Byte) (payload : List Byte) (m : MoveFields) (a : BlockedAction) (c : Carriage)
    (r : CarriageRecord) (x z : AxisReport), s.Running → s.NoHeld → ¬s.Own dst → dst.toNat ≠ 63 →
    s.roleOf dst.toNat = some (.xDrive k) → parseMove payload = some m → m.axis = some .x → m.action = some a →
    s.carriage k = some c → s.record k = some r → c.ctx.lastX = some x → c.ctx.lastZ = some z →
    s.inputs.emergency = false → c.ctx.membership = .normal → c.ctx.runState = .active → c.ctx.fresh = true →
    r.zClear ≤ z.position → (∀ mz, c.ctx.activeZ = some mz → r.zClear ≤ mz.target) →
    (∀ l, c.load = some l → l.phase = .loaded) → m.speed ≠ 0 →
      let target := clampTarget r m.target
      let speed := min m.speed r.vmax
      let occ := occupancy r s.railLength x.position
      let span := (envelope r s.railLength x.position x.velocity).hull (occupancy r s.railLength target)
      let flag : Bool := target ≠ m.target || speed ≠ m.speed
      s.fencedTarget occ (occupancy r s.railLength target) = false → (s.leftFree k occ).value ≤ span.lo →
      span.hi ≤ (s.rightFree k occ).value →
        judge s k false .x m.target m.speed = .forward target speed flag ∧
        (8 ≤ s.port.dForward.length → exec (.move dst src seq payload) s = .next (s.tookU .overrun)) ∧
        (s.port.dForward.length < 8 →
          let moved :=
            testFences
              ((s.changed k fun c =>
                { c with
                  reservation := some ⟨span, .plain⟩
                  ctx := { c.ctx with activeX := some ⟨target, m.tag⟩ } }).sentDown
                ⟨dst, src, 0x10, seq, moveBytes m.tag .x target speed a flag⟩)
          exec (.move dst src seq payload) s =
            .next
              (State.tookU
                (if flag then
                  hand
                    (moved.changed k fun c =>
                      { c with
                        ctx :=
                          { c.ctx with counters := { c.ctx.counters with clamped := bump c.ctx.counters.clamped } } })
                    .verdict (some k) (.tag m.tag) .clamped (.position target)
                else
                  moved.changed k fun c =>
                    { c with
                      ctx :=
                        { c.ctx with counters := { c.ctx.counters with admitted := bump c.ctx.counters.admitted } } })
                .good))

/-- An X MOVE that meets every precondition of R57 but not its free limits is BLOCKED on the side its candidate passes (both
sides: the side of travel), by that limit's blocker. REFUSE refuses it BLOCKED; CLAMP without a shorter target refuses it
NO_ROOM; WAIT, and CLAMP_WAIT without a shorter target, hold it with its deadline and the next entry stamp, unless the
blocker carriage holds a move blocked by this one: then it is refused DEADLOCK. With a shorter target x′, CLAMP and
CLAMP_WAIT forward the MOVE to x′ with the clamped flag, reserve the hull of envelope and O(x′), set the active move to x′
and report CLAMPED with x′ (after the FENCE notices: the model's order, log 39); CLAMP_WAIT then holds the remainder with x′
as last forwarded target, or refuses it DEADLOCK; a full D-forward queue drops the MOVE as an overrun. A target inside a
fence that the carriage stands in is refused FENCED whatever the action. `judge`, which judges held moves afresh (R75),
answers the same. -/
def Obligations.XMoveBlocked : Prop :=
  ∀ (s : State) (k : Nat) (dst src seq : Byte) (payload : List Byte) (m : MoveFields) (a : BlockedAction) (c : Carriage)
    (r : CarriageRecord) (x z : AxisReport), s.Running → c.slot = none → ¬s.Own dst → dst.toNat ≠ 63 →
    s.roleOf dst.toNat = some (.xDrive k) → parseMove payload = some m → m.axis = some .x → m.action = some a →
    s.carriage k = some c → s.record k = some r → c.ctx.lastX = some x → c.ctx.lastZ = some z →
    s.inputs.emergency = false → c.ctx.membership = .normal → c.ctx.runState = .active → c.ctx.fresh = true →
    r.zClear ≤ z.position → (∀ mz, c.ctx.activeZ = some mz → r.zClear ≤ mz.target) →
    (∀ l, c.load = some l → l.phase = .loaded) → m.speed ≠ 0 →
      let target := clampTarget r m.target
      let speed := min m.speed r.vmax
      let occ := occupancy r s.railLength x.position
      let env := envelope r s.railLength x.position x.velocity
      let span := env.hull (occupancy r s.railLength target)
      let left := s.leftFree k occ
      let right := s.rightFree k occ
      let side : Side :=
        if span.lo < left.value ∧ right.value < span.hi then (if target < x.position then .left else .right)
        else if span.lo < left.value then .left
        else .right
      let blocker := if side = .left then left.blocker else right.blocker
      let shorter := shorterTarget r x.position target left.value right.value env
      let deadlock : Prop :=
        ∃ j h, blocker = some (.carriage j) ∧ (s.carriage j).bind (·.slot) = some h ∧ h.blocker = some (.carriage k)
      let refusedIn (t : State) (cause : Cause) : State :=
        hand
          (t.changed k fun c =>
            { c with ctx := { c.ctx with counters := { c.ctx.counters with refused := bump c.ctx.counters.refused } } })
          .verdict (some k) (.tag m.tag) .refused (.cause cause)
      let heldIn (t : State) (last : Option Nat) : State :=
        hand
          { t.changed k (fun c =>
              { c with
                slot :=
                  some
                    { axis := .x
                      target := m.target
                      speed := m.speed
                      tag := m.tag
                      action := a
                      cause := .blocked
                      side := some side
                      blocker := blocker
                      arrival := s.lineClock
                      deadline := s.lineClock + BitVec.ofNat 32 r.holdTime
                      stamp := s.stampCounter
                      lastClamped := last
                      waitingForRoom := false }
                ctx := { c.ctx with counters := { c.ctx.counters with held := bump c.ctx.counters.held } } }) with
            stampCounter := s.stampCounter + 1 }
          .verdict (some k) (.tag m.tag) .held (.cause .blocked)
      let answers (t : State) : Prop := exec (.move dst src seq payload) s = .next (t.tookU .good)
      let judged := judge s k false .x m.target m.speed
      (s.fencedTarget occ (occupancy r s.railLength target) = true →
        judged = .refuse .fenced ∧ answers (refusedIn s .fenced)) ∧
      (s.fencedTarget occ (occupancy r s.railLength target) = false →
        span.lo < left.value ∨ right.value < span.hi →
        judged = .blocked ⟨side, blocker, shorter, decide (x.position < target), speed⟩ ∧
        (a = .refuse → answers (refusedIn s .blocked)) ∧
        (a = .clamp → shorter = none → answers (refusedIn s .noRoom)) ∧
        (a = .wait ∨ a = .clampWait ∧ shorter = none → deadlock → answers (refusedIn s .deadlock)) ∧
        (a = .wait ∨ a = .clampWait ∧ shorter = none → ¬deadlock → answers (heldIn s none)) ∧
        ∀ x', shorter = some x' → a = .clamp ∨ a = .clampWait →
          let new := env.hull (occupancy r s.railLength x')
          let moved :=
            testFences
              ((s.changed k fun c =>
                { c with reservation := some ⟨new, .plain⟩, ctx := { c.ctx with activeX := some ⟨x', m.tag⟩ } }).sentDown
                ⟨dst, src, 0x10, seq, moveBytes m.tag .x x' speed a true⟩)
          let clamped :=
            hand
              (moved.changed k fun c =>
                { c with ctx := { c.ctx with counters := { c.ctx.counters with clamped := bump c.ctx.counters.clamped } } })
              .verdict (some k) (.tag m.tag) .clamped (.position x')
          let noReport : Prop := s.NoHeld ∨ ∃ held, c.reservation = some held ∧ new.lo ≤ held.span.lo ∧ held.span.hi ≤ new.hi
          (8 ≤ s.port.dForward.length → exec (.move dst src seq payload) s = .next (s.tookU .overrun)) ∧
          (s.port.dForward.length < 8 → noReport →
            (a = .clamp → answers clamped) ∧
            (a = .clampWait → ¬deadlock → answers (heldIn clamped (some x'))) ∧
            (a = .clampWait → deadlock → answers (refusedIn clamped .deadlock))))

/-- A Z MOVE that passes its preconditions is forwarded with its target clamped: a raise to zMax (R63); a lowering (R64), raised
to the floor of R39 where it lies below it and then limited to zMax, over an ACTIVE bay by an empty head, over the ACTIVE or
EMPTY bay that a LOADED or REJECTED panel came from (a put-back), and over a saw with a LOADED load (R65). The press depth is
the head record's (while that is unwritten, any: log 18). The active Z move is set and the verdict is ADMITTED, or CLAMPED with
its notice; with the D-forward queue full it is dropped as an overrun. `judge`, which judges held moves afresh (R75), answers
the same target and clamped flag. -/
def Obligations.ZMoveForwarded : Prop :=
  ∀ (s : State) (k : Nat) (dst src seq : Byte) (payload : List Byte) (m : MoveFields) (a : BlockedAction) (c : Carriage)
    (r : CarriageRecord) (x z : AxisReport) (target : Nat), s.Running → c.slot = none → ¬s.Own dst → dst.toNat ≠ 63 →
    s.roleOf dst.toNat = some (.zDrive k) → parseMove payload = some m → m.axis = some .z → m.action = some a →
    s.carriage k = some c → s.record k = some r → c.ctx.lastX = some x → c.ctx.lastZ = some z →
    s.inputs.emergency = false → c.ctx.membership = .normal → c.ctx.runState = .active → c.ctx.fresh = true →
    m.speed ≠ 0 →
      (∀ h, s.head k = some h → s.press k = h.press) ∧
      let carried (l : LoadRecord) : Prop := l.phase = .loaded ∨ l.phase = .rejected
      let raise : Prop :=
        (z.position ≤ m.target ∨ r.zClear ≤ m.target) ∧ target = min m.target r.zMax ∧
          ∀ l, c.load = some l → l.phase ≠ .gripping ∧ l.phase ≠ .releasing
      let onto (height : Nat) : Prop :=
        m.target < z.position ∧ m.target < r.zClear ∧ c.ctx.activeX = none ∧ x.velocity.natAbs ≤ r.vStill ∧
          target = min (max m.target (height - s.press k)) r.zMax
      let ontoBay : Prop :=
        ∃ b bay, s.OverBay x.position b ∧ s.bays[b]? = some bay ∧ onto (bay.base + bay.count * bay.thickness) ∧
          (bay.state = .active ∧ c.load = none ∨
            (bay.state = .active ∨ bay.state = .empty) ∧ ∃ l, c.load = some l ∧ carried l ∧ l.originBay = b)
      let ontoSaw : Prop :=
        ∃ j saw cfg l, s.OverSaw x.position j ∧ s.saws[j]? = some saw ∧ saw.config = some cfg ∧ c.load = some l ∧
          l.phase = .loaded ∧ onto (cfg.tableHeight + l.thickness)
      raise ∨ ontoBay ∨ ontoSaw →
        judge s k false .z m.target m.speed = .forward target m.speed (target != m.target) ∧
        (8 ≤ s.port.dForward.length → exec (.move dst src seq payload) s = .next (s.tookU .overrun)) ∧
        (s.port.dForward.length < 8 →
          let moved :=
            (s.changed k fun c => { c with ctx := { c.ctx with activeZ := some ⟨target, m.tag⟩ } }).sentDown
              ⟨dst, src, 0x10, seq, moveBytes m.tag .z target m.speed a (target != m.target)⟩
          exec (.move dst src seq payload) s =
            .next
              (State.tookU
                (if target ≠ m.target then
                  hand
                    (moved.changed k fun c =>
                      { c with
                        ctx :=
                          { c.ctx with counters := { c.ctx.counters with clamped := bump c.ctx.counters.clamped } } })
                    .verdict (some k) (.tag m.tag) .clamped (.position target)
                else
                  moved.changed k fun c =>
                    { c with
                      ctx :=
                        { c.ctx with counters := { c.ctx.counters with admitted := bump c.ctx.counters.admitted } } })
                .good))

/-- A MOVE for a SHADOW carriage is only judged and reported: nothing is forwarded, reserved, held or counted. One of a
wrong length, axis or action is refused BAD_FIELD. ESTOP_N asserted, no virtual position, a run state other than ACTIVE and
HALTED, and a STALE carriage refuse it ESTOP, NOT_ACTIVE, NOT_ACTIVE and STALE, tested in this order (ESTOP before the
virtual position: log 43). Every other is judged as for NORMAL, on the state in which the carriage is NORMAL and ACTIVE and
stands at its virtual position at velocity 0 with no active X move (what that judgement answers is stated by MoveRefused,
XMoveForwarded, XMoveBlocked and ZMoveForwarded; for an X MOVE that fits it is said out here), and is reported by the lines
of R69: a refusal REFUSED with its cause; a waitable cause WOULD_HOLD where the action waits, else REFUSED; one that fits
ADMITTED, or CLAMPED with its target; a blocked one under CLAMP and CLAMP_WAIT with a shorter target x′ CLAMPED with x′, and
then WOULD_HOLD BLOCKED under CLAMP_WAIT; without x′, WOULD_HOLD BLOCKED where the action waits, else REFUSED (NO_ROOM under
CLAMP). An X MOVE so ADMITTED or CLAMPED moves the virtual position to its target; a Z MOVE leaves it. -/
def Obligations.ShadowMoveReported : Prop :=
  ∀ (s : State) (k : Nat) (axis : Axis) (dst src seq : Byte) (payload : List Byte) (c : Carriage), s.Running →
    payload.length ≤ 48 → ¬s.Own dst → dst.toNat ≠ 63 → s.roleOf dst.toNat = some (driveRole k axis) →
    s.carriage k = some c → c.ctx.membership = .shadow →
      let answers (t : State) : Prop := exec (.move dst src seq payload) s = .next (t.tookU .good)
      let told (t : State) (cause : Cause) (detail : Detail) : State :=
        hand t .shadowVerdict (some k) (.tag (payload.headD 0)) cause detail
      let refused (cause : Cause) : Prop := answers (told s .refused (.cause cause))
      ((∀ m, parseMove payload = some m → m.action = none ∨ m.axis ≠ some axis) → refused .badField) ∧
      ∀ m a r, parseMove payload = some m → m.axis = some axis → m.action = some a → s.record k = some r →
        let waits : Prop := a = .wait ∨ a = .clampWait
        let heldFor (cause : Cause) : Prop := answers (told s .wouldHold (.cause cause))
        let movedTo (target : Nat) : State :=
          if axis = .x then s.changed k fun c => { c with virtualX := some target } else s
        (s.inputs.emergency = true → refused .estop) ∧
        (s.inputs.emergency = false → c.virtualX = none → refused .notActive) ∧
        ∀ p, s.inputs.emergency = false → c.virtualX = some p →
          (c.ctx.runState ≠ .active → c.ctx.runState ≠ .halted → refused .notActive) ∧
          (c.ctx.runState = .active ∨ c.ctx.runState = .halted →
            (c.ctx.fresh = false → refused .stale) ∧
            (c.ctx.fresh = true →
              let there : State :=
                s.changed k fun c =>
                  { c with
                    slot := none
                    ctx :=
                      { c.ctx with
                        membership := .normal
                        runState := .active
                        activeX := none
                        lastX := some ⟨p, 0, ⟨true, false, true⟩⟩ } }
              let judged := judge there k false axis m.target m.speed
              (∀ cause, judged = .refuse cause → refused cause) ∧
              (∀ cause, judged = .waitable cause → (waits → heldFor cause) ∧ (¬waits → refused cause)) ∧
              (∀ target speed clamped, judged = .forward target speed clamped →
                answers
                  (if clamped = true then told (movedTo target) .clamped (.position target)
                  else told (movedTo target) .admitted .absent)) ∧
              ∀ b, judged = .blocked b →
                (a = .refuse → refused .blocked) ∧
                (a = .clamp → b.shorter = none → refused .noRoom) ∧
                (a = .wait ∨ a = .clampWait ∧ b.shorter = none → heldFor .blocked) ∧
                ∀ x', b.shorter = some x' →
                  (a = .clamp → answers (told (movedTo x') .clamped (.position x'))) ∧
                  (a = .clampWait →
                    answers (told (told (movedTo x') .clamped (.position x')) .wouldHold (.cause .blocked)))) ∧
            ∀ z, axis = .x → c.ctx.fresh = true → c.ctx.lastZ = some z → r.zClear ≤ z.position →
              (∀ mz, c.ctx.activeZ = some mz → r.zClear ≤ mz.target) → (∀ l, c.load = some l → l.phase = .loaded) →
              m.speed ≠ 0 →
                let target := clampTarget r m.target
                let occ := occupancy r s.railLength p
                let span := occ.hull (occupancy r s.railLength target)
                s.fencedTarget occ (occupancy r s.railLength target) = false → (s.leftFree k occ).value ≤ span.lo →
                span.hi ≤ (s.rightFree k occ).value →
                  answers
                    (if target ≠ m.target ∨ r.vmax < m.speed then told (movedTo target) .clamped (.position target)
                    else told (movedTo target) .admitted .absent))

/-! GRIP. -/

/-- The resulting image of a GRIP takes the carried cups for its half and the image's for the rest, without the cups of an
absent module; the allowed mask holds the fitted cups on present modules that the panel covers. A GRIP is refused by the first
precondition of R92 that fails, with its notice and nothing else done (one of an unlisted length without a job reference, log
41). For an EMPTY load a GRIP that turns no cup on, and for a LOADED or REJECTED one a GRIP that keeps at least minHold cups of
the allowed mask, is forwarded with its cups as the clamps leave them: the image, and the load's commanded mask, become the
forwarded image, and a notice reports its count where the carried bits changed. With the D-forward queue full it is dropped as
an overrun. -/
def Obligations.GripJudged : Prop :=
  (∀ (form : GripForm) (cups image : Cups) (modules i : Nat), i < 32 →
    let carried : Prop :=
      match form with
      | .all => True
      | .low => i < 16
      | .high => 16 ≤ i
    ((resultingImage form cups image modules).getLsbD i = true ↔
      (i < 16 ∨ modules = 2) ∧ (carried ∧ cups.getLsbD i = true ∨ ¬carried ∧ image.getLsbD i = true))) ∧
  (∀ (s : State) (k radius modules length width i : Nat), i < 32 →
    ((allowedMask s k radius modules length width).getLsbD i = true ↔
      (i < 16 ∨ modules = 2) ∧
        ∃ group cup, s.cupLayout[4 * k + i / 8]? = some (some group) ∧ group[i % 8]? = some cup ∧ cup.fitted = true ∧
          2 * (cup.dx.natAbs + radius) ≤ length ∧ 2 * (cup.dy.natAbs + radius) ≤ width)) ∧
  ∀ (s : State) (k : Nat) (form : GripForm) (dst src seq : Byte) (payload : List Byte), s.Running →
    payload.length ≤ 48 → ¬s.Own dst → dst.toNat ≠ 63 → s.roleOf dst.toNat = some (.head k) →
      let run := exec (.grip form dst src seq payload) s
      let reference : Reference :=
        match (parseGrip form payload).bind (·.job) with
        | none => .absent
        | some (saw, q) => .job saw q
      let refused (cause : Cause) : Prop :=
        run = .next ((hand s .verdict (some k) reference .refused (.cause cause)).tookU .good)
      let forwarded (g : GripFields) (image : Cups) (load : Option LoadRecord) : Prop :=
        (8 ≤ s.port.dForward.length → run = .next (s.tookU .overrun)) ∧
        (s.port.dForward.length < 8 →
          let moved :=
            (s.changed k fun c => { c with image := image, load := load }).sentDown
              ⟨dst, src, Kind.grip form, seq, gripBytes form image payload⟩
          run =
            .next
              (State.tookU
                (if image &&& gripCarried form = g.cups &&& gripCarried form then moved
                else hand moved .verdict (some k) reference .clamped (.cups (cupCount image)))
                .good))
      (s.carriage k = none → refused .notNormal) ∧
      ∀ c : Carriage, s.carriage k = some c →
        (c.ctx.membership ≠ .normal → refused .notNormal) ∧
        (c.ctx.membership = .normal → s.inputs.emergency = true → refused .estop) ∧
        (c.ctx.membership = .normal → s.inputs.emergency = false →
          (∃ l, c.load = some l ∧ (l.phase = .gripping ∨ l.phase = .checking ∨ l.phase = .releasing)) →
            refused .loadBusy) ∧
        (c.ctx.membership = .normal → s.inputs.emergency = false →
          (∀ l, c.load = some l → l.phase = .loaded ∨ l.phase = .rejected) →
            (parseGrip form payload = none → refused .badField) ∧
            ∀ g, parseGrip form payload = some g →
              let image := resultingImage form g.cups c.image c.modulesInForce
              (c.load = none → image &&& ~~~c.image = 0 → forwarded g image none) ∧
              ∀ l h, c.load = some l → s.head k = some h →
                let clamped := image &&& allowedMask s k h.r c.modulesInForce l.length l.width
                h.minHold ≤ cupCount clamped → forwarded g clamped (some { l with mask := clamped }))

/-- A pick that passes every step of R94 is forwarded with its image clamped to the allowed mask. In the same step the load
becomes GRIPPING with the panel, the origin bay and its top, the grip deadline, and sample sum and count 0 (model choice,
log 40), and the entry becomes PICKED with the carriage as carrier; with the D-forward queue full it is dropped as an
overrun. A pick without head record or position is refused NOT_ACTIVE, and otherwise by the first step of R94, or condition
of the pick check, that fails, with its notice and nothing else done (saw byte 0xFF: a reference to saw 255, log 42). -/
def Obligations.PickForwarded : Prop :=
  ∀ (s : State) (k : Nat) (form : GripForm) (dst src seq : Byte) (payload : List Byte) (c : Carriage) (g : GripFields),
    s.Running → ¬s.Own dst → dst.toNat ≠ 63 → s.roleOf dst.toNat = some (.head k) → s.carriage k = some c →
    c.ctx.membership = .normal → s.inputs.emergency = false → c.load = none → parseGrip form payload = some g →
      let run := exec (.grip form dst src seq payload) s
      let image := resultingImage form g.cups c.image c.modulesInForce
      let reference : Reference :=
        match g.job with
        | none => .absent
        | some (saw, q) => .job saw q
      let refused (cause : Cause) : Prop :=
        run = .next ((hand s .verdict (some k) reference .refused (.cause cause)).tookU .good)
      image &&& ~~~c.image ≠ 0 →
        (s.head k = none ∨ c.ctx.lastX = none ∨ c.ctx.lastZ = none → refused .notActive) ∧
        ∀ h x z, s.head k = some h → c.ctx.lastX = some x → c.ctx.lastZ = some z →
          (g.job = none → refused .noJob) ∧
          ∀ j q, g.job = some (j, q) →
            ((∀ saw, s.saws[j]? = some saw → ∀ e ∈ saw.queue, e.sequence ≠ q) → refused .noEntry) ∧
            ∀ saw i e, s.saws[j]? = some saw → saw.queue[i]? = some e → e.sequence = q →
              (∀ i', i' < i → ∀ e', saw.queue[i']? = some e' → e'.sequence ≠ q) →
              (e.state ≠ .queued → refused .state) ∧
              (e.state = .queued → s.lookahead < i + 1 → refused .ahead) ∧
              (e.state = .queued → i + 1 ≤ s.lookahead → s.bayAt x.position = none → refused .noWindow) ∧
              ∀ b bay, e.state = .queued → i + 1 ≤ s.lookahead → s.bayAt x.position = some b →
                s.bays[b]? = some bay →
                let named : Prop := e.sourceBay = none ∨ e.sourceBay = some b
                let same : Prop :=
                  bay.material = e.material ∧ bay.length = e.length ∧ bay.width = e.width ∧ bay.thickness = e.thickness
                let top := bay.base + bay.count * bay.thickness
                let mask := allowedMask s k h.r c.modulesInForce e.length e.width
                let clamped := image &&& mask
                (bay.state = .empty → refused .bayEmpty) ∧ (bay.state = .restock → refused .bayRestock) ∧
                (bay.state = .active → ¬named → refused .wrongBay) ∧
                (bay.state = .active → named → ¬same → refused .mismatch) ∧
                (bay.state = .active → named → same → top + h.contactTol < z.position → refused .notLowered) ∧
                (bay.state = .active → named → same → z.position ≤ top + h.contactTol →
                  (image &&& ~~~mask &&& ~~~(gripCarried form) ≠ 0 → refused .uncovered) ∧
                  (image &&& ~~~mask &&& ~~~(gripCarried form) = 0 → cupCount clamped < h.minCups →
                    refused .smallPanel) ∧
                  (image &&& ~~~mask &&& ~~~(gripCarried form) = 0 → h.minCups ≤ cupCount clamped →
                    (8 ≤ s.port.dForward.length → run = .next (s.tookU .overrun)) ∧
                    (s.port.dForward.length < 8 →
                      let moved :=
                        { (s.changed k fun c =>
                            { c with
                              image := clamped
                              load :=
                                some
                                  { phase := .gripping
                                    jobSaw := j
                                    jobSeq := q
                                    originBay := b
                                    pickTop := top
                                    thickness := e.thickness
                                    length := e.length
                                    width := e.width
                                    mask := clamped
                                    putBack := false
                                    deadline := some (s.lineClock + BitVec.ofNat 32 h.gripTime)
                                    sum := 0
                                    count := 0
                                    beforeRelease := none } }).sentDown
                            ⟨dst, src, Kind.grip form, seq, gripBytes form clamped payload⟩ with
                          saws :=
                            s.saws.modify j fun saw =>
                              { saw with
                                queue :=
                                  saw.queue.map fun e =>
                                    if e.sequence = q then { e with state := .picked, carrier := some k } else e } }
                      run =
                        .next
                          (State.tookU
                            (if clamped &&& gripCarried form = g.cups &&& gripCarried form then moved
                            else hand moved .verdict (some k) (.job j q) .clamped (.cups (cupCount clamped)))
                            .good))))

/-- A release that passes R96 is forwarded with its clamped image and makes the load RELEASING with the release deadline: a
put-back within the origin bay's window at the pick height, and otherwise, for a LOADED load, a place over its own saw
while that is ready and the entry is the head of its queue; with the D-forward queue full it is dropped as an overrun. A
release without position is refused NOT_ACTIVE, one without the load's job reference WRONG_JOB, a REJECTED load away from its
bay NOT_AT_SAW, and a LOADED one by the first condition of the place check that fails, with its notice and nothing else done.
-/
def Obligations.ReleaseForwarded : Prop :=
  ∀ (s : State) (k : Nat) (form : GripForm) (dst src seq : Byte) (payload : List Byte) (c : Carriage) (g : GripFields)
    (h : HeadRecord) (l : LoadRecord), s.Running → ¬s.Own dst → dst.toNat ≠ 63 →
    s.roleOf dst.toNat = some (.head k) → s.carriage k = some c → c.ctx.membership = .normal →
    s.inputs.emergency = false → c.load = some l → l.phase = .loaded ∨ l.phase = .rejected →
    parseGrip form payload = some g → s.head k = some h →
      let run := exec (.grip form dst src seq payload) s
      let reference : Reference :=
        match g.job with
        | none => .absent
        | some (saw, q) => .job saw q
      let refused (cause : Cause) : Prop :=
        run = .next ((hand s .verdict (some k) reference .refused (.cause cause)).tookU .good)
      let clamped :=
        resultingImage form g.cups c.image c.modulesInForce &&& allowedMask s k h.r c.modulesInForce l.length l.width
      let passes (putBack : Bool) : Prop :=
        (8 ≤ s.port.dForward.length → run = .next (s.tookU .overrun)) ∧
        (s.port.dForward.length < 8 →
          let moved :=
            (s.changed k fun c =>
              { c with
                image := clamped
                load :=
                  some
                    { l with
                      phase := .releasing
                      mask := clamped
                      putBack := putBack
                      deadline := some (s.lineClock + BitVec.ofNat 32 h.releaseTime)
                      beforeRelease := some l.phase } }).sentDown
              ⟨dst, src, Kind.grip form, seq, gripBytes form clamped payload⟩
          run =
            .next
              (State.tookU
                (if clamped &&& gripCarried form = g.cups &&& gripCarried form then moved
                else hand moved .verdict (some k) (.job l.jobSaw l.jobSeq) .clamped (.cups (cupCount clamped)))
                .good))
      cupCount clamped < h.minHold →
        (c.ctx.lastX = none ∨ c.ctx.lastZ = none → refused .notActive) ∧
        ∀ x z, c.ctx.lastX = some x → c.ctx.lastZ = some z →
          let overBay : Prop :=
            ∃ bay, s.bays[l.originBay]? = some bay ∧ x.position ≤ bay.centre + bay.tolerance ∧
              bay.centre ≤ x.position + bay.tolerance ∧ z.position ≤ l.pickTop + h.contactTol
          let atSaw (saw : Saw) (cfg : SawConfig) : Prop :=
            s.saws[l.jobSaw]? = some saw ∧ saw.config = some cfg ∧ x.position ≤ cfg.centre + cfg.tolerance ∧
              cfg.centre ≤ x.position + cfg.tolerance
          (g.job ≠ some (l.jobSaw, l.jobSeq) → refused .wrongJob) ∧
          (g.job = some (l.jobSaw, l.jobSeq) →
            (overBay → passes true) ∧
            (¬overBay → l.phase = .rejected → refused .notAtSaw) ∧
            (¬overBay → l.phase = .loaded → (∀ saw cfg, ¬atSaw saw cfg) → refused .notAtSaw) ∧
            (¬overBay → l.phase = .loaded → ∀ saw cfg, atSaw saw cfg →
              let ready : Prop :=
                (∃ t, saw.arrival = some t ∧ age s.lineClock t ≤ cfg.freshness) ∧ saw.ready = true ∧
                  saw.infeedClear = true
              let low : Prop := z.position ≤ cfg.tableHeight + l.thickness + h.contactTol
              let first : Prop := ∃ e rest, saw.queue = e :: rest ∧ e.sequence = l.jobSeq
              (¬low → refused .notLowered) ∧ (low → ¬ready → refused .sawBusy) ∧
                (low → ready → ¬first → refused .notHead) ∧ (low → ready → first → passes false)))

/-! Reports from port D. -/

/-- A SENSE_SAW from the node of saw `j` sets the saw's ready, infeed clear and arrival time, written or not, and is then
placed in the U-forward queue, or dropped there as an overrun with the reading kept. From any other source it is forwarded
unread, and so is one whose length is not the listed one. -/
def Obligations.SenseSawRead : Prop :=
  ∀ (s : State) (dst src seq : Byte) (payload : List Byte), s.Running → payload.length ≤ 48 → ¬s.Own dst →
    (∀ j b, s.roleOf src.toNat = some (.saw j) → payload = [b] →
      exec (.senseSaw dst src seq payload) s =
        .next
          ({ s with
              saws :=
                s.saws.modify j fun saw =>
                  { saw with ready := b.getLsbD 0, infeedClear := b.getLsbD 1, arrival := some s.lineClock } }.passedUp
            ⟨dst, src, 0x41, seq, payload⟩)) ∧
    ((∀ j, s.roleOf src.toNat ≠ some (.saw j)) ∨ payload.length ≠ 1 →
      exec (.senseSaw dst src seq payload) s = .next (s.passedUp ⟨dst, src, 0x41, seq, payload⟩))

/-- A frame from port D at the part's own address, or of a management kind, is misdirected. Every other frame that is not a
report of a mapped node of an installed carriage or of a mapped saw, of its listed length, is placed unread in the
U-forward queue, or dropped as an overrun. -/
def Obligations.OtherFramesPassUp : Prop :=
  ∀ (s : State) (kind dst src seq : Byte) (payload : List Byte), s.Running → payload.length ≤ 48 →
    (s.Own dst ∨ kind = 0x60 ∨ kind = 0x61 ∨ kind = 0x62 →
      exec (.upstreamForward kind dst src seq payload) s = .next (s.tookD .misdirected)) ∧
    (¬s.Own dst → kind ≠ 0x60 → kind ≠ 0x61 → kind ≠ 0x62 →
      ¬(kind = 0x20 ∧ payload.length = 8 ∧
          ∃ k axis c, s.roleOf src.toNat = some (driveRole k axis) ∧ s.carriage k = some c) →
      ¬(kind = 0x40 ∧ payload.length = 7 ∧ ∃ k c, s.roleOf src.toNat = some (.head k) ∧ s.carriage k = some c) →
      ¬(kind = 0x41 ∧ payload.length = 1 ∧ ∃ j, s.roleOf src.toNat = some (.saw j)) →
        exec (.upstreamForward kind dst src seq payload) s = .next (s.passedUp ⟨dst, src, kind, seq, payload⟩))

/-- A STATE of an ACTIVE and FRESH carriage (log 12: even one whose other arrivals are W old, before the stale expiry of
R14). No fault: the axis fields and arrival are recorded and an in-position status with the active move's tag completes it.
A Z STATE does nothing else but re-evaluate the carriage's held move where that waits with HEAD_LOW and the head is at
zClear. On an X STATE the reservation becomes the candidate. Within the stored one, or grown by parts at least G from every
neighbour (in rail order, log 11) and every standing fence clear of the occupancy, that is silent; a shrink toward a
neighbour re-evaluates its move blocked by this carriage, and a stand without active move one that waits with X_MOVING; the
FENCE notices of the reservation come before those of the move re-evaluated (log 39). A grown part too close sets EXCURSION
with its notice, makes the carriage STOPPING with both still marks no (this same STATE sets none: log 13) and every offended
neighbour not ACTIVE, with STOPs. A status that shows fault: DRIVE_FAULT is set, with a FAULT notice where it was clear, the
held move ends DRIVE_FAULT, and the carriage becomes STOPPING (both still marks no: log 13) with STOPs of reason
DRIVE_FAULT, its notice and, on an X STATE, the envelope as reservation (FENCE notices after those of the halt, log 39). -/
def Obligations.StateOfActiveCarriage : Prop :=
  ∀ (s : State) (k : Nat) (dst src seq : Byte) (payload : List Byte) (rep : StateReport) (c : Carriage)
    (r : CarriageRecord), s.Running → ¬s.Own dst → parseState payload = some rep → s.carriage k = some c →
    s.record k = some r → c.ctx.runState = .active → c.ctx.membership ≠ .excluded → c.ctx.fresh = true →
      let run := exec (.state dst src seq payload) s
      let f : Frame := ⟨dst, src, 0x20, seq, payload⟩
      (rep.axis.status.fault = false →
        let reevaluated (t : State) (j : Nat) : State := { reevaluate t j with reports := [] }
        (s.roleOf src.toNat = some (.zDrive k) → s.NoneHeldBut k →
          let recorded :=
            s.changed k fun c =>
              { c with
                ctx :=
                  { c.ctx with
                    lastZ := some rep.axis
                    arrivalZ := some s.lineClock
                    inSetZ := true
                    activeZ := c.ctx.activeZ.filter fun m => !(rep.axis.status.inPosition && m.tag == rep.tag) } }
          let woken : Prop := ∃ h, c.slot = some h ∧ h.cause = .headLow ∧ r.zClear ≤ rep.axis.position
          (¬woken → run = .next (recorded.passedUp f)) ∧
            (woken → k < 4 → run = .next (reevaluated (recorded.passedUp f) k))) ∧
        (s.roleOf src.toNat = some (.xDrive k) → ∀ stored : Reservation, c.reservation = some stored →
          let active := c.ctx.activeX.filter fun m => !(rep.axis.status.inPosition && m.tag == rep.tag)
          let env := envelope r s.railLength rep.axis.position rep.axis.velocity
          let candidate :=
            match active with
            | none => env
            | some m => env.hull (occupancy r s.railLength m.target)
          let parts : List Interval :=
            (if candidate.lo < stored.span.lo then [⟨candidate.lo, stored.span.lo - 1⟩] else []) ++
              (if stored.span.hi < candidate.hi then [⟨stored.span.hi + 1, candidate.hi⟩] else [])
          let offends (j : Nat) : Prop := j ∈ s.neighbours k ∧ ∃ p ∈ parts, s.apartFrom k j p = false
          let fenced : Prop :=
            ∃ p ∈ parts, ∃ e ∈ s.fences, e.state ≠ .off ∧
              (s.fenceSpan e).intersects (occupancy r s.railLength rep.axis.position) = false ∧
                p.apart s.gap (s.fenceSpan e) = false
          let silent : Prop := candidate.within stored.span = true ∨ (∀ j, ¬offends j) ∧ ¬fenced
          let recorded :=
            testFences
              (s.changed k fun c =>
                { c with
                  reservation := some ⟨candidate, .plain⟩
                  ctx :=
                    { c.ctx with
                      lastX := some rep.axis
                      arrivalX := some s.lineClock
                      inSetX := true
                      activeX := active } })
          (s.NoneHeldBut k →
            let woken : Prop :=
              ∃ h, c.slot = some h ∧ h.cause = .xMoving ∧ active = none ∧ rep.axis.velocity.natAbs ≤ r.vStill
            (silent → ¬woken → run = .next (recorded.passedUp f)) ∧
              (silent → woken → k < 4 → run = .next (reevaluated (recorded.passedUp f) k))) ∧
          (∀ j h, j < 4 → j ≠ k → s.NoneHeldBut j → (s.carriage j).bind (·.slot) = some h → silent →
            let shrinks : Prop :=
              h.blocker = some (.carriage k) ∧
                (j + 1 = k ∧ stored.span.lo < candidate.lo ∨ j = k + 1 ∧ candidate.hi < stored.span.hi)
            (¬shrinks → run = .next (recorded.passedUp f)) ∧
              (shrinks → run = .next (reevaluated (recorded.passedUp f) j))) ∧
          (s.NoHeld → ∃ t d, run = .next t ∧ t.carriage k = some d ∧ d.reservation = some ⟨candidate, .plain⟩ ∧
            ((∃ j, offends j) ∨ fenced →
              d.ctx.flags = { c.ctx.flags with excursion := true } ∧ d.ctx.runState = .stopping ∧
                d.ctx.stillX = false ∧ d.ctx.stillZ = false ∧ d.ctx.activeX = none ∧ d.ctx.activeZ = none ∧
                (∀ axis node, s.addressOf (driveRole k axis) = some node → ∃ e ∈ t.port.stops, e.node = node) ∧
                (c.ctx.flags.excursion = false → s.addressOf .controller ≠ none → s.management.notices.length < 8 →
                  (⟨.fault, some k, .absent, .excursion, .absent, s.lineClock⟩ : Notice) ∈ t.management.notices) ∧
                (∀ j, offends j →
                  (∃ e, t.carriage j = some e ∧ e.ctx.runState ≠ .active ∧
                    (s.carriage j).map (·.ctx.flags) = some e.ctx.flags) ∧
                  (s.runState j ≠ some .lost → ∀ axis node, s.addressOf (driveRole j axis) = some node →
                    ∃ e ∈ t.port.stops, e.node = node)) ∧
                (∀ j, j ≠ k → ¬offends j → t.carriage j = s.carriage j) ∧ t.saws = s.saws ∧ t.bays = s.bays)))) ∧
      (rep.axis.status.fault = true → s.NoneHeldBut k →
        let faulted (read : Context → Context) : State :=
          let flagged :=
            s.changed k fun c =>
              { c with
                slot := none
                ctx :=
                  { read c.ctx with
                    flags := { c.ctx.flags with driveFault := true }
                    runState := .stopping
                    stillX := false
                    stillZ := false } }
          let told := if c.ctx.flags.driveFault then flagged else hand flagged .fault (some k) .absent .driveFault .absent
          let ended :=
            match c.slot with
            | none => told
            | some h => hand told .holdEnd (some k) (.tag h.tag) .driveFault .absent
          hand (requestStop (requestStop ended k .x .driveFault) k .z .driveFault) .stateChange (some k) .absent .stopping
            .absent
        (s.roleOf src.toNat = some (.zDrive k) →
          run =
            .next
              ((faulted fun x =>
                { x with lastZ := some rep.axis, arrivalZ := some s.lineClock, inSetZ := true }).passedUp f)) ∧
        (s.roleOf src.toNat = some (.xDrive k) → ∀ stored : Reservation, c.reservation = some stored →
          let env := envelope r s.railLength rep.axis.position rep.axis.velocity
          let halted : State :=
            faulted fun x => { x with lastX := some rep.axis, arrivalX := some s.lineClock, inSetX := true }
          (env.within stored.span = true →
            run =
              .next ((testFences (halted.changed k fun c => { c with reservation := some ⟨env, .plain⟩ })).passedUp f)) ∧
          ∃ t d, run = .next t ∧ t.carriage k = some d ∧ d.reservation = some ⟨env, .plain⟩ ∧
            d.ctx.flags.driveFault = true ∧ d.ctx.runState = .stopping ∧ d.ctx.activeX = none ∧ d.ctx.activeZ = none ∧
            ∀ axis node, s.addressOf (driveRole k axis) = some node →
              ∃ e ∈ t.port.stops, e.node = node ∧ (e ∈ s.port.stops ∨ e.reason = .driveFault)))

/-- First data of an UNSEEN carriage with a written record: the report, a SENSE_HEAD (of an EMPTY load) or a STATE, after
which all three nodes have reported since the set was emptied, each less than W ms ago. The reservation becomes the envelope
and the carriage FRESH without unseen origin, its flags kept. A standing carriage becomes HALTED where its origin is
POWER_ON, startHeld is yes, a flag is set or ESTOP_N is asserted, and ACTIVE otherwise; a moving one, and one whose envelope
lies closer than G to a neighbour's reservation (in rail order, log 11), becomes STOPPING, with STOPs of reason HALT, or
EXCURSION where a neighbour is too close (log 31 where both); that neighbour is not ACTIVE afterwards, its flags kept. Where
the report is a SENSE_HEAD and the carriage stands, clear of its neighbours, that is all, but for the FENCE notices and then
the STATE_CHANGE notice (log 39). A STATE that shows fault sets DRIVE_FAULT first, with a FAULT notice where it was clear,
and requests STOPs of reason DRIVE_FAULT: while the set is incomplete that is all and the carriage stays UNSEEN; with the
set complete it becomes HALTED where it stands. -/
def Obligations.FirstDataTaken : Prop :=
  ∀ (s : State) (k : Nat) (dst src seq : Byte) (payload : List Byte) (c : Carriage) (r : CarriageRecord), s.Running →
    s.NoHeld → ¬s.Own dst → s.carriage k = some c → s.record k = some r → c.ctx.runState = .unseen →
      let young (set : Bool) (t : Option Clock) : Prop := set = true ∧ ∃ a, t = some a ∧ age s.lineClock a < r.w
      let next : RunState :=
        if c.ctx.unseenOrigin = some .powerOn ∨ r.startHeld = true ∨ c.ctx.flags.any = true ∨ s.inputs.emergency = true
        then .halted
        else .active
      let taken (o : Host.Outcome State Fault Refusal) (x : AxisReport) (fault : Bool) : Prop :=
        let env := envelope r s.railLength x.position x.velocity
        let close := s.closeNeighbours k env
        let stops : Prop := r.vStill < x.velocity.natAbs ∨ close ≠ []
        ∃ t d, o = .next t ∧ t.carriage k = some d ∧ d.reservation = some ⟨env, .plain⟩ ∧ d.ctx.fresh = true ∧
          d.ctx.unseenOrigin = none ∧
          d.ctx.flags = (if fault then { c.ctx.flags with driveFault := true } else c.ctx.flags) ∧ d.ctx.lastX = some x ∧
          d.virtualX = (if c.ctx.membership = .shadow then some x.position else c.virtualX) ∧
          (¬stops → d.ctx.runState = (if fault then .halted else next) ∧ (fault = false → t.port.stops = s.port.stops)) ∧
          (stops → d.ctx.runState = .stopping ∧ d.ctx.stillX = false ∧ d.ctx.stillZ = false) ∧
          (stops ∨ fault = true → ∀ axis node, s.addressOf (driveRole k axis) = some node →
            ∃ e ∈ t.port.stops, e.node = node ∧
              (e ∈ s.port.stops ∨
                e.reason = if fault then .driveFault else if close = [] then .halt else .excursion)) ∧
          ∀ j ∈ close, ∃ e, t.carriage j = some e ∧ e.ctx.runState ≠ .active ∧
            (s.carriage j).map (·.ctx.flags) = some e.ctx.flags
      (∀ (rep : HeadReport) (x : AxisReport), s.roleOf src.toNat = some (.head k) →
        parseSenseHead payload = some rep → c.load = none → c.ctx.lastX = some x → young c.ctx.inSetX c.ctx.arrivalX →
        young c.ctx.inSetZ c.ctx.arrivalZ → 0 < r.w →
          let env := envelope r s.railLength x.position x.velocity
          taken (exec (.senseHead dst src seq payload) s) x false ∧
          (s.closeNeighbours k env = [] → x.velocity.natAbs ≤ r.vStill →
            exec (.senseHead dst src seq payload) s =
              .next
                ((hand
                  (testFences
                    (s.changed k fun c =>
                      { c with
                        reservation := some ⟨env, .plain⟩
                        virtualX := if c.ctx.membership = .shadow then some x.position else c.virtualX
                        modulesReported := rep.modules
                        modulesInForce := rep.modules
                        ctx :=
                          { c.ctx with
                            arrivalHead := some s.lineClock
                            inSetHead := true
                            fresh := true
                            unseenOrigin := none
                            runState := next } }))
                  .stateChange (some k) .absent next.cause .absent).passedUp
                  ⟨dst, src, 0x40, seq, payload⟩))) ∧
      ∀ rep, parseState payload = some rep →
        (0 < r.w → young c.ctx.inSetHead c.ctx.arrivalHead →
          (s.roleOf src.toNat = some (.xDrive k) → young c.ctx.inSetZ c.ctx.arrivalZ →
            taken (exec (.state dst src seq payload) s) rep.axis rep.axis.status.fault) ∧
          (s.roleOf src.toNat = some (.zDrive k) → young c.ctx.inSetX c.ctx.arrivalX →
            ∀ x, c.ctx.lastX = some x → taken (exec (.state dst src seq payload) s) x rep.axis.status.fault)) ∧
        (rep.axis.status.fault = true →
          let faulted (read : Context → Context) : State :=
            let flagged :=
              s.changed k fun c =>
                { c with ctx := { read c.ctx with flags := { c.ctx.flags with driveFault := true } } }
            let told :=
              if c.ctx.flags.driveFault then flagged else hand flagged .fault (some k) .absent .driveFault .absent
            requestStop (requestStop told k .x .driveFault) k .z .driveFault
          (s.roleOf src.toNat = some (.xDrive k) →
            ¬(young c.ctx.inSetZ c.ctx.arrivalZ ∧ young c.ctx.inSetHead c.ctx.arrivalHead) →
              exec (.state dst src seq payload) s =
                .next
                  ((faulted fun x =>
                    { x with lastX := some rep.axis, arrivalX := some s.lineClock, inSetX := true }).passedUp
                    ⟨dst, src, 0x20, seq, payload⟩)) ∧
          (s.roleOf src.toNat = some (.zDrive k) →
            ¬(young c.ctx.inSetX c.ctx.arrivalX ∧ young c.ctx.inSetHead c.ctx.arrivalHead) →
              exec (.state dst src seq payload) s =
                .next
                  ((faulted fun x =>
                    { x with lastZ := some rep.axis, arrivalZ := some s.lineClock, inSetZ := true }).passedUp
                    ⟨dst, src, 0x20, seq, payload⟩)))

/-- A STATE, showing no fault, of a STOPPING carriage sets the axis's still mark by the reported speed, and with both marks
yes the carriage becomes HALTED. For a Z STATE of a FRESH one that is all it does, but for the axis's fields and the
STATE_CHANGE notice. A STATE of a HALTED carriage that shows a speed above vStill is unbidden motion: STOP is requested for
both drives, and the carriage becomes STOPPING with both marks no; an EXCLUDED one stays HALTED in its park window, and
where its occupancy is no longer within that, EXCURSION is set. A STATE that shows fault first sets DRIVE_FAULT, with a
FAULT notice where it was clear and none where it was set, and STOPs stand for the mapped drives with reason DRIVE_FAULT (or
the one of an entry already there), both active moves absent; the run state and the still marks are then as without the
fault. -/
def Obligations.StillMarksSet : Prop :=
  ∀ (s : State) (k : Nat) (dst src seq : Byte) (payload : List Byte) (rep : StateReport) (c : Carriage)
    (r : CarriageRecord), s.Running → s.NoHeld → ¬s.Own dst → parseState payload = some rep → s.carriage k = some c →
    s.record k = some r →
      let run := exec (.state dst src seq payload) s
      let still : Bool := rep.axis.velocity.natAbs ≤ r.vStill
      let stopped (t : State) (reason : StopReason) : Prop :=
        ∀ axis node, s.addressOf (driveRole k axis) = some node →
          ∃ e ∈ t.port.stops, e.node = node ∧ (e ∈ s.port.stops ∨ e.reason = reason)
      (rep.axis.status.fault = false →
        (c.ctx.runState = .stopping →
          (s.roleOf src.toNat = some (.xDrive k) →
            ∃ t d, run = .next t ∧ t.carriage k = some d ∧ d.ctx.stillX = still ∧ d.ctx.stillZ = c.ctx.stillZ ∧
              d.ctx.runState = (if still = true ∧ c.ctx.stillZ = true then .halted else .stopping)) ∧
          (s.roleOf src.toNat = some (.zDrive k) → c.ctx.fresh = true →
            let halts : Bool := still && c.ctx.stillX
            let moved :=
              s.changed k fun c =>
                { c with
                  ctx :=
                    { c.ctx with
                      lastZ := some rep.axis
                      arrivalZ := some s.lineClock
                      inSetZ := true
                      activeZ := c.ctx.activeZ.filter fun m => !(rep.axis.status.inPosition && m.tag == rep.tag)
                      stillZ := still
                      runState := if halts then .halted else .stopping } }
            run =
              .next
                ((if halts then hand moved .stateChange (some k) .absent .halted .absent else moved).passedUp
                  ⟨dst, src, 0x20, seq, payload⟩))) ∧
        (c.ctx.runState = .halted → c.ctx.membership ≠ .excluded → r.vStill < rep.axis.velocity.natAbs →
          (s.roleOf src.toNat = some (.xDrive k) →
            ∃ t d, run = .next t ∧ t.carriage k = some d ∧ d.ctx.runState = .stopping ∧ d.ctx.stillX = false ∧
              d.ctx.stillZ = false ∧ ∀ axis node, s.addressOf (driveRole k axis) = some node →
                ∃ e ∈ t.port.stops, e.node = node) ∧
          (s.roleOf src.toNat = some (.zDrive k) → c.ctx.fresh = true →
            ∃ t d, run = .next t ∧ t.carriage k = some d ∧ d.ctx.runState = .stopping ∧ d.ctx.stillX = false ∧
              d.ctx.stillZ = false ∧ d.ctx.flags = c.ctx.flags ∧ d.reservation = c.reservation ∧ stopped t .halt ∧
              ∀ j, j ≠ k → t.carriage j = s.carriage j)) ∧
        (c.ctx.runState = .halted → c.ctx.membership = .excluded → r.vStill < rep.axis.velocity.natAbs →
          ∀ axis x park, s.roleOf src.toNat = some (driveRole k axis) → r.park = some park →
            (axis = .x → x = rep.axis) → (axis = .z → c.ctx.lastX = some x) →
              let parked : Prop :=
                park.lo ≤ (occupancy r s.railLength x.position).lo ∧ (occupancy r s.railLength x.position).hi ≤ park.hi
              ∃ t d, run = .next t ∧ t.carriage k = some d ∧ d.ctx.runState = .halted ∧ d.reservation = c.reservation ∧
                (parked → d.ctx.flags = c.ctx.flags ∧ stopped t .halt) ∧
                (¬parked → d.ctx.flags = { c.ctx.flags with excursion := true } ∧ stopped t .excursion) ∧
                ∀ j, j ≠ k → t.carriage j = s.carriage j)) ∧
      (rep.axis.status.fault = true → c.ctx.runState = .stopping ∨ c.ctx.runState = .halted →
        ∀ axis, s.roleOf src.toNat = some (driveRole k axis) →
          ∃ t d, run = .next t ∧ t.carriage k = some d ∧ d.ctx.flags.driveFault = true ∧ d.ctx.activeX = none ∧
            d.ctx.activeZ = none ∧ stopped t .driveFault ∧
            (c.ctx.flags.driveFault = false → s.addressOf .controller ≠ none → s.management.notices.length < 16 →
              (⟨.fault, some k, .absent, .driveFault, .absent, s.lineClock⟩ : Notice) ∈ t.management.notices) ∧
            (c.ctx.flags.driveFault = true → ∀ n ∈ t.management.notices, n.kind = .fault → n.cause = .driveFault →
              n ∈ s.management.notices) ∧
            (c.ctx.runState = .stopping →
              d.ctx.stillX = (if axis = .x then still else c.ctx.stillX) ∧
                d.ctx.stillZ = (if axis = .z then still else c.ctx.stillZ) ∧
                d.ctx.runState = (if d.ctx.stillX = true ∧ d.ctx.stillZ = true then .halted else .stopping)) ∧
            (c.ctx.runState = .halted →
              d.ctx.runState =
                if c.ctx.membership ≠ .excluded ∧ r.vStill < rep.axis.velocity.natAbs then .stopping else .halted) ∧
            (axis = .z → c.ctx.fresh = true → d.reservation = c.reservation ∧
              (c.ctx.membership ≠ .excluded → d.ctx.flags = { c.ctx.flags with driveFault := true }) ∧
              ∀ j, j ≠ k → t.carriage j = s.carriage j))

/-- A SENSE_HEAD of an installed carriage, in every membership and run state, is recorded as the head's arrival (here one
that brings about no run-state rule of R12: FirstDataTaken, StaleExpiryTaken and LostExpiryTaken say what one does that
does). With an EMPTY load both module counts become the reported one, otherwise the reported count alone. In GRIPPING,
vacuum on every commanded cup makes the load CHECKING with its sampling empty and no deadline, and vacuum on only a part
leaves it. In RELEASING, vacuum on any commanded cup leaves it. -/
def Obligations.SenseHeadRead : Prop :=
  ∀ (s : State) (k : Nat) (dst src seq : Byte) (payload : List Byte) (rep : HeadReport) (c : Carriage), s.Running →
    ¬s.Own dst → s.roleOf src.toNat = some (.head k) → parseSenseHead payload = some rep → s.carriage k = some c →
    s.HeadArrivalOnly k c →
      let read (load : Option LoadRecord) (inForce : Nat) : Prop :=
        exec (.senseHead dst src seq payload) s =
          .next
            ((s.changed k fun c =>
              { c with
                load := load
                modulesReported := rep.modules
                modulesInForce := inForce
                ctx := { c.ctx with arrivalHead := some s.lineClock, inSetHead := true } }).passedUp
              ⟨dst, src, 0x40, seq, payload⟩)
      (c.load = none → read none rep.modules) ∧
      ∀ l h, c.load = some l → s.head k = some h →
        (l.phase = .gripping → rep.vacuum &&& l.mask = l.mask →
          read (some { l with phase := .checking, sum := 0, count := 0, deadline := none }) c.modulesInForce) ∧
        (l.phase = .gripping → rep.vacuum &&& l.mask ≠ l.mask → read (some l) c.modulesInForce) ∧
        (l.phase = .releasing → rep.vacuum &&& l.mask ≠ 0 → read (some l) c.modulesInForce)

/-- In CHECKING, with at least minHold commanded cups under vacuum, a SENSE_HEAD (of a carriage in any membership and run
state, here one that brings about no run-state rule of R12) counts its gauge reading where the head is at or above the pick
top plus liftCheck, and the N-th reading decides: OK makes the load LOADED, lowers the origin bay's count (an ACTIVE bay's
last panel makes it EMPTY, a count already 0 sends it to RESTOCK), hands a PICK notice OK and counts a pick; DOUBLE or THIN
makes it REJECTED, hands a PICK notice REJECT and counts a reject. Either re-evaluates the carriage's held move where that
waits with LOAD_BUSY. -/
def Obligations.ThicknessDecided : Prop :=
  ∀ (s : State) (k : Nat) (dst src seq : Byte) (payload : List Byte) (rep : HeadReport) (c : Carriage) (l : LoadRecord)
    (h : HeadRecord) (z : AxisReport), s.Running → s.NoneHeldBut k → ¬s.Own dst → s.roleOf src.toNat = some (.head k) →
    parseSenseHead payload = some rep → s.carriage k = some c → s.HeadArrivalOnly k c →
    c.load = some l → s.head k = some h → l.phase = .checking → c.ctx.lastZ = some z →
    h.minHold ≤ cupCount (rep.vacuum &&& l.mask) →
      let f : Frame := ⟨dst, src, 0x40, seq, payload⟩
      let total := l.sum + rep.reading
      let after (load : LoadRecord) (counters : CarriageCounters) : State :=
        s.changed k fun c =>
          { c with
            load := some load
            modulesReported := rep.modules
            ctx := { c.ctx with arrivalHead := some s.lineClock, inSetHead := true, counters := counters } }
      let counted : LoadRecord := { l with sum := total, count := l.count + 1 }
      let woken : Prop := ∃ held, c.slot = some held ∧ held.cause = .loadBusy
      let freed (t : State) : Prop :=
        (¬woken → exec (.senseHead dst src seq payload) s = .next (t.passedUp f)) ∧
          (woken → k < 4 → exec (.senseHead dst src seq payload) s = .next { reevaluate (t.passedUp f) k with reports := [] })
      let rejected (cause : Cause) : Prop :=
        freed
          (hand
            (after { counted with phase := .rejected } { c.ctx.counters with rejects := bump c.ctx.counters.rejects })
            .pick (some k) (.job l.jobSaw l.jobSeq) .reject (.cause cause))
      (z.position < l.pickTop + h.liftCheck →
        exec (.senseHead dst src seq payload) s = .next ((after l c.ctx.counters).passedUp f)) ∧
      (l.pickTop + h.liftCheck ≤ z.position → l.count + 1 < h.n →
        exec (.senseHead dst src seq payload) s = .next ((after counted c.ctx.counters).passedUp f)) ∧
      (l.pickTop + h.liftCheck ≤ z.position → h.n ≤ l.count + 1 →
        (3 * l.thickness < 2 * (total / h.n) → rejected .double) ∧
        (2 * (total / h.n) ≤ 3 * l.thickness → 2 * (total / h.n) < l.thickness → rejected .thin) ∧
        (2 * (total / h.n) ≤ 3 * l.thickness → l.thickness ≤ 2 * (total / h.n) →
          freed
            (hand
              { after { counted with phase := .loaded }
                  { c.ctx.counters with picks := bump c.ctx.counters.picks } with
                bays :=
                  s.bays.modify l.originBay fun bay =>
                    { bay with
                      count := bay.count - 1
                      state :=
                        if bay.count = 0 then .restock
                        else if bay.state = .active ∧ bay.count = 1 then .empty
                        else bay.state } }
              .pick (some k) (.job l.jobSaw l.jobSeq) .ok .absent)))

/-- Read of a carriage in any membership and run state (here one whose SENSE_HEAD brings about no run-state rule of R12):
fewer than minHold commanded cups under vacuum in CHECKING, LOADED or REJECTED is a vacuum drop. VACUUM_DROP is set, with a
FAULT notice where it was clear; an ACTIVE carriage becomes STOPPING with both marks no and a STATE_CHANGE notice, any other
keeps its run state and marks; but in LOST, a STOP stands for each mapped drive and no move is active; the entry becomes
FAULTED, the origin bay goes to RESTOCK unless the load was LOADED, the load becomes EMPTY, and other carriages, fences and
the cup image stay. No vacuum on any commanded cup in RELEASING confirms the release: a place removes its entry and counts
for saw and carriage, a put-back returns the entry to QUEUED and, for a LOADED panel, raises the bay's count. Either re-
evaluates the carriage's held move where that waits with LOAD_BUSY. -/
def Obligations.LoadLost : Prop :=
  ∀ (s : State) (k : Nat) (dst src seq : Byte) (payload : List Byte) (rep : HeadReport) (c : Carriage) (l : LoadRecord)
    (h : HeadRecord), s.Running → s.NoneHeldBut k → ¬s.Own dst → s.roleOf src.toNat = some (.head k) →
    parseSenseHead payload = some rep → s.carriage k = some c → s.HeadArrivalOnly k c →
    c.load = some l → s.head k = some h →
      let f : Frame := ⟨dst, src, 0x40, seq, payload⟩
      let entries (g : List Entry → List Entry) : List Saw :=
        s.saws.modify l.jobSaw fun saw => { saw with queue := g saw.queue }
      let emptied (counters : CarriageCounters) : State :=
        s.changed k fun c =>
          { c with
            load := none
            modulesReported := rep.modules
            modulesInForce := rep.modules
            ctx := { c.ctx with arrivalHead := some s.lineClock, inSetHead := true, counters := counters } }
      let woken : Prop := ∃ held, c.slot = some held ∧ held.cause = .loadBusy
      let freed (t : State) : Prop :=
        (¬woken → exec (.senseHead dst src seq payload) s = .next (t.passedUp f)) ∧
          (woken → k < 4 → exec (.senseHead dst src seq payload) s = .next { reevaluate (t.passedUp f) k with reports := [] })
      (s.NoHeld → l.phase = .checking ∨ l.phase = .loaded ∨ l.phase = .rejected →
        cupCount (rep.vacuum &&& l.mask) < h.minHold →
        let faulted := if c.ctx.flags.vacuumDrop then s else hand s .fault (some k) .absent .vacuumDrop .absent
        let handed := if c.ctx.runState = .active then hand faulted .stateChange (some k) .absent .stopping .absent else faulted
        ∃ t d, exec (.senseHead dst src seq payload) s = .next t ∧ t.carriage k = some d ∧ d.load = none ∧
          d.ctx.flags = { c.ctx.flags with vacuumDrop := true } ∧ d.image = c.image ∧ d.reservation = c.reservation ∧
          d.ctx.arrivalHead = some s.lineClock ∧ d.modulesReported = rep.modules ∧ d.modulesInForce = rep.modules ∧
          (c.ctx.runState = .active →
            d.ctx.runState = .stopping ∧ d.ctx.stillX = false ∧ d.ctx.stillZ = false) ∧
          (c.ctx.runState ≠ .active →
            d.ctx.runState = c.ctx.runState ∧ d.ctx.stillX = c.ctx.stillX ∧ d.ctx.stillZ = c.ctx.stillZ) ∧
          (c.ctx.runState = .lost → t.port.stops = s.port.stops) ∧
          (c.ctx.runState ≠ .lost →
            d.ctx.activeX = none ∧ d.ctx.activeZ = none ∧ ∀ axis node, s.addressOf (driveRole k axis) = some node →
              ∃ e ∈ t.port.stops, e.node = node ∧ (e ∈ s.port.stops ∨ e.reason = .vacuumDrop)) ∧
          t.management = handed.management ∧ (∀ j, j ≠ k → t.carriage j = s.carriage j) ∧ t.fences = s.fences ∧
          t.saws =
            entries (·.map fun e =>
              if e.sequence = l.jobSeq then { e with state := .faulted, carrier := none } else e) ∧
          t.bays =
            if l.phase = .loaded then s.bays else s.bays.modify l.originBay fun bay => { bay with state := .restock }) ∧
      (l.phase = .releasing → rep.vacuum &&& l.mask = 0 → l.putBack = false →
        freed
          (hand
            { emptied { c.ctx.counters with places := bump c.ctx.counters.places } with
              saws :=
                s.saws.modify l.jobSaw fun saw =>
                  { saw with
                    queue := saw.queue.filter fun e => e.sequence != l.jobSeq
                    placed := bump saw.placed } }
            .place (some k) (.job l.jobSaw l.jobSeq) .placed .absent)) ∧
      (l.phase = .releasing → rep.vacuum &&& l.mask = 0 → l.putBack = true →
        freed
          (hand
            { emptied c.ctx.counters with
              saws :=
                entries (·.map fun e =>
                  if e.sequence = l.jobSeq then { e with state := .queued, carrier := none } else e)
              bays :=
                if l.beforeRelease = some .loaded then
                  s.bays.modify l.originBay fun bay =>
                    { bay with
                      count := min (bay.count + 1) 250
                      state := if bay.state = .empty then .active else bay.state }
                else s.bays }
            .place (some k) (.job l.jobSaw l.jobSeq) .putBack .absent))

/-! Expiries. -/

/-- The stale expiry acts on a FRESH carriage whose stale deadline has been reached, and on no other. The carriage becomes
STALE and its reservation WIDENED by dStale. Where that lies at least G from its neighbours (in rail order, log 11) and from
every standing fence clear of its occupancy, nothing else is done but the test of the PENDING fences. Otherwise the carriage
and each neighbour too close are not ACTIVE afterwards, and the reservation is the widened one all the same. A STALE
carriage whose report (a SENSE_HEAD of an EMPTY load, or a STATE without fault) finds all three arrivals less than W ms old
becomes FRESH with the candidate as PLAIN reservation, and where that lies within the widened one a SENSE_HEAD does nothing
else. With another arrival W ms old or older it stays STALE; its reservation stays where the candidate lies within it, and
otherwise becomes the hull of both with stage WIDENED: at least G from every neighbour and standing fence in its grown
parts, that sets no flag and halts none; too close, EXCURSION is set, the carriage is not ACTIVE afterwards, STOPs stand for
its drives, and every offended neighbour is not ACTIVE, its flags kept. -/
def Obligations.StaleExpiryTaken : Prop :=
  (∀ (s : State) (k : Nat), s.Running → s.NoHeld →
    ((∀ c d, s.carriage k = some c → s.staleDeadline k = some d → c.ctx.fresh = false ∨ reached s.lineClock d = false) →
      exec (.staleExpiry k) s = .next s) ∧
    ∀ (c : Carriage) (r : CarriageRecord) (d : Clock) (held : Reservation), s.carriage k = some c →
      s.record k = some r → s.staleDeadline k = some d → c.ctx.fresh = true → reached s.lineClock d = true →
      c.reservation = some held →
        let span : Interval :=
          ⟨min (held.span.lo - dStale r) s.railLength, min (held.span.hi + dStale r) s.railLength⟩
        (s.closeNeighbours k span = [] → s.nearFenceOf k span = false →
          exec (.staleExpiry k) s =
            .next
              (testFences
                (s.changed k fun c =>
                  { c with reservation := some ⟨span, .widened⟩, ctx := { c.ctx with fresh := false } }))) ∧
        ∃ t e, exec (.staleExpiry k) s = .next t ∧ t.carriage k = some e ∧ e.reservation = some ⟨span, .widened⟩ ∧
          e.ctx.fresh = false ∧ e.ctx.flags = c.ctx.flags ∧
          ((s.closeNeighbours k span ≠ [] ∨ s.nearFenceOf k span = true) →
            e.ctx.runState ≠ .active ∧ ∀ j ∈ s.closeNeighbours k span, t.runState j ≠ some .active)) ∧
  ∀ (s : State) (k : Nat) (dst src seq : Byte) (payload : List Byte) (c : Carriage) (r : CarriageRecord)
    (held : Reservation), s.Running → s.NoHeld → ¬s.Own dst → s.carriage k = some c → s.record k = some r →
    c.ctx.runState = .active ∨ c.ctx.runState = .stopping ∨ c.ctx.runState = .halted → c.ctx.membership ≠ .excluded →
    c.ctx.fresh = false → c.reservation = some held → 0 < r.w →
      let young (t : Option Clock) : Prop := ∃ a, t = some a ∧ age s.lineClock a < r.w
      let candidate (x : AxisReport) (active : Option ActiveMove) : Interval :=
        match active with
        | none => envelope r s.railLength x.position x.velocity
        | some m =>
          (envelope r s.railLength x.position x.velocity).hull (occupancy r s.railLength m.target)
      (∀ (rep : HeadReport) (x : AxisReport), s.roleOf src.toNat = some (.head k) → parseSenseHead payload = some rep →
        c.load = none → c.ctx.lastX = some x →
          let read (change : Carriage → Carriage) : State :=
            s.changed k fun c =>
              change
                { c with
                  modulesReported := rep.modules
                  modulesInForce := rep.modules
                  ctx := { c.ctx with arrivalHead := some s.lineClock, inSetHead := true } }
          let run := exec (.senseHead dst src seq payload) s
          let new := candidate x c.ctx.activeX
          (young c.ctx.arrivalX → young c.ctx.arrivalZ →
            (new.within held.span = true →
              run =
                .next
                  ((testFences
                    (read fun c => { c with reservation := some ⟨new, .plain⟩, ctx := { c.ctx with fresh := true } })).passedUp
                    ⟨dst, src, 0x40, seq, payload⟩)) ∧
            ∃ t d, run = .next t ∧ t.carriage k = some d ∧ d.ctx.fresh = true ∧ d.reservation = some ⟨new, .plain⟩) ∧
          (¬(young c.ctx.arrivalX ∧ young c.ctx.arrivalZ) →
            run = .next ((read id).passedUp ⟨dst, src, 0x40, seq, payload⟩))) ∧
      ∀ rep, parseState payload = some rep → rep.axis.status.fault = false →
        let run := exec (.state dst src seq payload) s
        (s.roleOf src.toNat = some (.xDrive k) →
          let active := c.ctx.activeX.filter fun m => !(rep.axis.status.inPosition && m.tag == rep.tag)
          let new := candidate rep.axis active
          (young c.ctx.arrivalZ → young c.ctx.arrivalHead →
            ∃ t d, run = .next t ∧ t.carriage k = some d ∧ d.ctx.fresh = true ∧ d.reservation = some ⟨new, .plain⟩) ∧
          (¬(young c.ctx.arrivalZ ∧ young c.ctx.arrivalHead) →
            (new.within held.span = true →
              ∃ t d, run = .next t ∧ t.carriage k = some d ∧ d.ctx.fresh = false ∧ d.reservation = some held) ∧
            (new.within held.span = false →
              let parts : List Interval :=
                (if new.lo < held.span.lo then [⟨new.lo, held.span.lo - 1⟩] else []) ++
                  (if held.span.hi < new.hi then [⟨held.span.hi + 1, new.hi⟩] else [])
              let offends (j : Nat) : Prop := j ∈ s.neighbours k ∧ ∃ p ∈ parts, s.apartFrom k j p = false
              let fenced : Prop :=
                ∃ p ∈ parts, ∃ e ∈ s.fences, e.state ≠ .off ∧
                  (s.fenceSpan e).intersects (occupancy r s.railLength rep.axis.position) = false ∧
                    p.apart s.gap (s.fenceSpan e) = false
              let excursion : Prop := (∃ j, offends j) ∨ fenced
              ∃ t d, run = .next t ∧ t.carriage k = some d ∧ d.ctx.fresh = false ∧
                d.reservation = some ⟨held.span.hull new, .widened⟩ ∧
                (¬excursion →
                  d.ctx.flags = c.ctx.flags ∧ (c.ctx.runState = .active → d.ctx.runState = .active) ∧
                    ∀ j, j ≠ k → t.carriage j = s.carriage j) ∧
                (excursion →
                  d.ctx.flags = { c.ctx.flags with excursion := true } ∧ d.ctx.runState ≠ .active ∧
                    d.ctx.activeX = none ∧ d.ctx.activeZ = none ∧
                    (∀ axis node, s.addressOf (driveRole k axis) = some node →
                      ∃ e ∈ t.port.stops, e.node = node ∧ (e ∈ s.port.stops ∨ e.reason = .excursion)) ∧
                    (∀ j, offends j → ∃ e, t.carriage j = some e ∧ e.ctx.runState ≠ .active ∧
                      (s.carriage j).map (·.ctx.flags) = some e.ctx.flags) ∧
                    ∀ j, j ≠ k → ¬offends j → t.carriage j = s.carriage j)))) ∧
        (s.roleOf src.toNat = some (.zDrive k) → young c.ctx.arrivalX → young c.ctx.arrivalHead →
          ∀ x, c.ctx.lastX = some x →
            ∃ t d, run = .next t ∧ t.carriage k = some d ∧ d.ctx.fresh = true ∧
              d.reservation = some ⟨candidate x c.ctx.activeX, .plain⟩)

/-- The lost expiry acts on a STALE carriage (log 16) whose lost deadline has been reached, and on no other. The carriage
enters LOST: flag set, both active moves absent, arrival set empty, held move ended, reservation widened by s(vmax) and
FROZEN. A STOP entry stands for each of its mapped drives, each neighbour too close (in rail order, log 11) is not ACTIVE,
every carriage that is no such neighbour is unchanged, and of the rest only fences, notices, the D-forward queue, the STOP
injection queue and the own sequence may change: bays, saws, Feed Queues and stamp counter do not. A LOST carriage recovers
at the report (a SENSE_HEAD of an EMPTY load, or an X STATE without fault) that completes a fresh arrival set: it becomes
FRESH and HALTED with its envelope as PLAIN reservation. Outside the frozen span EXCURSION is set, STOPs stand, and the
neighbour on each offending side is not ACTIVE. An X STATE above vStill makes it STOPPING. A STATE that shows fault and
leaves the set incomplete sets DRIVE_FAULT, with a FAULT notice where it was clear, and requests no STOP. -/
def Obligations.LostExpiryTaken : Prop :=
  (∀ (s : State) (k : Nat), s.Running →
    ((∀ c d, s.carriage k = some c → s.lostDeadline k = some d → c.ctx.fresh = true ∨ reached s.lineClock d = false) →
      exec (.lostExpiry k) s = .next s) ∧
    ∀ (c : Carriage) (r : CarriageRecord) (d : Clock) (held : Reservation), s.NoneHeldBut k → s.carriage k = some c →
      s.record k = some r → s.lostDeadline k = some d → c.ctx.fresh = false → reached s.lineClock d = true →
      c.reservation = some held →
        let stop := stopDistance r s.railLength r.vmax
        let span : Interval := ⟨min (held.span.lo - stop) s.railLength, min (held.span.hi + stop) s.railLength⟩
        ∃ t, exec (.lostExpiry k) s = .next t ∧
          t.carriage k =
            some
              { c with
                slot := none
                reservation := some ⟨span, .frozen⟩
                ctx :=
                  { c.ctx with
                    flags := { c.ctx.flags with lost := true }
                    runState := .lost
                    activeX := none
                    activeZ := none
                    inSetX := false
                    inSetZ := false
                    inSetHead := false } } ∧
          (∀ axis node, s.addressOf (driveRole k axis) = some node → ∃ e ∈ t.port.stops, e.node = node) ∧
          (∀ j ∈ s.closeNeighbours k span, t.runState j ≠ some .active) ∧
          (∀ j, j ≠ k → j ∉ s.closeNeighbours k span → t.carriage j = s.carriage j) ∧ s.Outside t) ∧
  ∀ (s : State) (k : Nat) (dst src seq : Byte) (payload : List Byte) (c : Carriage) (r : CarriageRecord)
    (held : Reservation), s.Running → s.NoHeld → ¬s.Own dst → s.carriage k = some c → s.record k = some r →
    c.ctx.runState = .lost → c.reservation = some held → 0 < r.w →
      let young (set : Bool) (t : Option Clock) : Prop := set = true ∧ ∃ a, t = some a ∧ age s.lineClock a < r.w
      let recovered (o : Host.Outcome State Fault Refusal) (x : AxisReport) (moves : Prop) : Prop :=
        let env := envelope r s.railLength x.position x.velocity
        let within : Prop := held.span.lo ≤ env.lo ∧ env.hi ≤ held.span.hi
        let offended (j : Nat) : Prop :=
          j ∈ s.neighbours k ∧ (j < k ∧ env.lo < held.span.lo ∨ k < j ∧ held.span.hi < env.hi)
        ∃ t d, o = .next t ∧ t.carriage k = some d ∧ d.ctx.fresh = true ∧
          d.reservation = some ⟨env, .plain⟩ ∧
          (¬moves → d.ctx.runState = .halted) ∧
          (moves → d.ctx.runState = .stopping ∧ d.ctx.stillX = false ∧ d.ctx.stillZ = false) ∧
          (within → d.ctx.flags = c.ctx.flags) ∧
          (¬within → d.ctx.flags = { c.ctx.flags with excursion := true }) ∧
          (¬within ∨ moves → ∀ axis node, s.addressOf (driveRole k axis) = some node → ∃ e ∈ t.port.stops, e.node = node) ∧
          (∀ j, offended j → ∃ e, t.carriage j = some e ∧ e.ctx.runState ≠ .active ∧
            (s.carriage j).map (·.ctx.flags) = some e.ctx.flags) ∧
          ∀ j, j ≠ k → ¬offended j → t.carriage j = s.carriage j
      (∀ (rep : HeadReport) (x : AxisReport), s.roleOf src.toNat = some (.head k) → parseSenseHead payload = some rep →
        c.load = none → c.ctx.lastX = some x → young c.ctx.inSetX c.ctx.arrivalX → young c.ctx.inSetZ c.ctx.arrivalZ →
          recovered (exec (.senseHead dst src seq payload) s) x False) ∧
      ∀ rep, parseState payload = some rep →
        (s.roleOf src.toNat = some (.xDrive k) → rep.axis.status.fault = false → young c.ctx.inSetZ c.ctx.arrivalZ →
          young c.ctx.inSetHead c.ctx.arrivalHead → c.ctx.membership ≠ .excluded →
            recovered (exec (.state dst src seq payload) s) rep.axis (r.vStill < rep.axis.velocity.natAbs)) ∧
        (rep.axis.status.fault = true →
          let faulted (read : Context → Context) : State :=
            let flagged :=
              s.changed k fun c =>
                { c with ctx := { read c.ctx with flags := { c.ctx.flags with driveFault := true } } }
            if c.ctx.flags.driveFault then flagged else hand flagged .fault (some k) .absent .driveFault .absent
          (s.roleOf src.toNat = some (.xDrive k) →
            ¬(young c.ctx.inSetZ c.ctx.arrivalZ ∧ young c.ctx.inSetHead c.ctx.arrivalHead) →
              exec (.state dst src seq payload) s =
                .next
                  ((faulted fun x =>
                    { x with
                      lastX := some rep.axis
                      arrivalX := some s.lineClock
                      inSetX := true
                      activeX := c.ctx.activeX.filter fun m => !(rep.axis.status.inPosition && m.tag == rep.tag) }).passedUp
                    ⟨dst, src, 0x20, seq, payload⟩)) ∧
          (s.roleOf src.toNat = some (.zDrive k) →
            ¬(young c.ctx.inSetX c.ctx.arrivalX ∧ young c.ctx.inSetHead c.ctx.arrivalHead) →
              exec (.state dst src seq payload) s =
                .next
                  ((faulted fun x =>
                    { x with
                      lastZ := some rep.axis
                      arrivalZ := some s.lineClock
                      inSetZ := true
                      activeZ := c.ctx.activeZ.filter fun m => !(rep.axis.status.inPosition && m.tag == rep.tag) }).passedUp
                    ⟨dst, src, 0x20, seq, payload⟩)))

/-- At the hold deadline of carriage `k`'s held move the slot becomes EMPTY and a HOLD_END notice reports HOLD_TIMEOUT; with
the slot EMPTY or the deadline not reached, nothing is done. A report of room that stands (log 10) is taken: it re-evaluates
the one move that is marked as waiting, its mark taken off first, in the state as it is then, be the D-forward queue full
again; with none marked only the report goes, and with no report nothing is done. A re-evaluation judges the held move
afresh. Refused, it ends with that cause, counted as refused. Blocked, or waiting on a precondition, it stays with the
cause, side and blocker of this judgement (a mark for room stays: only a report of room takes it, log 9), and with a new
blocker carriage that waits in its turn on this one the younger of the two ends DEADLOCK. CLAMP_WAIT inches to a shorter
target beyond its last one, with a CLAMPED verdict, and stays held. Forwarded in full, it ends ADMITTED or CLAMPED. A frame
so generated carries the part's address, its next sequence value and the held move's action (log 17), and sets the active
move (and the reservation, on the X axis; FENCE notices come first, log 39); with the D-forward queue full the move is only
marked as waiting for room. -/
def Obligations.HeldMoveTimersAndRoom : Prop :=
  (∀ (s : State) (k : Nat), s.Running →
    (∀ h, (s.carriage k).bind (·.slot) = some h →
      (reached s.lineClock h.deadline = true →
        exec (.holdTimeout k) s =
          .next (hand (s.changed k fun c => { c with slot := none }) .holdEnd (some k) (.tag h.tag) .holdTimeout .absent)) ∧
      (reached s.lineClock h.deadline = false → exec (.holdTimeout k) s = .next s)) ∧
    ((s.carriage k).bind (·.slot) = none → exec (.holdTimeout k) s = .next s)) ∧
  (∀ s : State, s.Running →
    (s.port.roomReports = 0 → exec .waitingForRoom s = .next s) ∧
    ∀ n, s.port.roomReports = n + 1 →
      let taken : State := { s with port := { s.port with roomReports := n } }
      ((∀ c ∈ s.carriages, ∀ h, c.slot = some h → h.waitingForRoom = false) → exec .waitingForRoom s = .next taken) ∧
      ∀ k h, s.NoneHeldBut k → k < 4 → (s.carriage k).bind (·.slot) = some h → h.waitingForRoom = true →
        exec .waitingForRoom s =
          .next
            { reevaluate (taken.changed k fun c => { c with slot := some { h with waitingForRoom := false } }) k with
              reports := [] }) ∧
  ∀ (s : State) (k : Nat) (c : Carriage) (h : HeldMove), s.carriage k = some c → c.slot = some h →
    let judged := judge s k false h.axis h.target h.speed
    let counted (t : State) (j : Nat) (f : CarriageCounters → CarriageCounters) : State :=
      t.changed j fun c => { c with ctx := { c.ctx with counters := f c.ctx.counters } }
    let ended (t : State) (j : Nat) (tag : Byte) (cause : Cause) (detail : Detail) : State :=
      hand (t.changed j fun c => { c with slot := none }) .holdEnd (some j) (.tag tag) cause detail
    let refused (t : State) (j : Nat) (tag : Byte) (cause : Cause) : State :=
      ended (counted t j fun n => { n with refused := bump n.refused }) j tag cause .absent
    let marked : State := s.changed k fun c => { c with slot := some { h with waitingForRoom := true } }
    let stays (t u : State) (cause : Cause) (side : Option Side) (blocker : Option Blocker) (last : Option Nat) : Prop :=
      let kept :=
        t.changed k fun c =>
          { c with
            slot := some { h with cause := cause, side := side, blocker := blocker, lastClamped := last } }
      let crossed (j : Nat) (g : HeldMove) : Prop :=
        blocker ≠ h.blocker ∧ blocker = some (.carriage j) ∧ j ≠ k ∧ (s.carriage j).bind (·.slot) = some g ∧
          g.blocker = some (.carriage k)
      ((∀ j g, ¬crossed j g) → blocker ≠ some (.carriage k) → u = kept) ∧
        ∀ j g, crossed j g →
          u =
            if (h.stamp - g.stamp).toNat < 2147483648 then refused kept k h.tag .deadlock
            else refused kept j g.tag .deadlock
    let generated (node target speed : Nat) (clamped : Bool) : State :=
      let frame : Frame :=
        ⟨BitVec.ofNat 8 node, BitVec.ofNat 8 s.port.ownAddress, 0x10, s.port.ownSeq,
          moveBytes h.tag h.axis target speed h.action clamped⟩
      let sent : State :=
        { s with port := { s.port with ownSeq := s.port.ownSeq + 1, dForward := s.port.dForward ++ [frame] } }
      match h.axis with
      | .z => sent.changed k fun c => { c with ctx := { c.ctx with activeZ := some ⟨target, h.tag⟩ } }
      | .x =>
        let moved := sent.changed k fun c => { c with ctx := { c.ctx with activeX := some ⟨target, h.tag⟩ } }
        match s.currentEnvelope k, s.record k with
        | some e, some r =>
          testFences
            (moved.changed k fun c =>
              { c with reservation := some ⟨e.hull (occupancy r s.railLength target), .plain⟩ })
        | _, _ => moved
    let same (u v : State) : Prop := { u with reports := s.reports } = { v with reports := s.reports }
    (∀ cause, judged = .refuse cause → reevaluate s k = refused s k h.tag cause) ∧
    (∀ cause, judged = .waitable cause → stays s (reevaluate s k) cause none none h.lastClamped) ∧
    (∀ target speed clamped, judged = .forward target speed clamped →
      (8 ≤ s.port.dForward.length → reevaluate s k = marked) ∧
      ∀ node, s.addressOf (driveRole k h.axis) = some node → s.port.dForward.length < 8 →
        same (reevaluate s k)
          (if clamped then
            ended (counted (generated node target speed true) k fun n => { n with clamped := bump n.clamped }) k h.tag
              .clamped (.position target)
          else
            ended (counted (generated node target speed false) k fun n => { n with admitted := bump n.admitted }) k h.tag
              .admitted .absent)) ∧
    ∀ b, judged = .blocked b →
      let inches (x : Nat) : Prop :=
        h.action = .clampWait ∧ b.shorter = some x ∧
          ∀ last, h.lastClamped = some last → if b.rightward = true then last < x else x < last
      ((∀ x, ¬inches x) → stays s (reevaluate s k) .blocked (some b.side) b.blocker h.lastClamped) ∧
      ∀ x, inches x →
        (8 ≤ s.port.dForward.length → reevaluate s k = marked) ∧
        ∀ node, s.addressOf (driveRole k h.axis) = some node → s.port.dForward.length < 8 →
          let inched :=
            hand
              (counted (generated node x b.speed true) k fun n => { n with clamped := bump n.clamped })
              .verdict (some k) (.tag h.tag) .clamped (.position x)
          ∃ u, stays inched u .blocked (some b.side) b.blocker (some x) ∧ same (reevaluate s k) u

/-- At the grip deadline of a GRIPPING load the entry returns to QUEUED, the load becomes EMPTY with the module count in
force following the reported one, and a GRIP_FAIL notice is handed; no flag is set, and cups and bay stay; the carriage's
held move is re-evaluated where it waits with LOAD_BUSY. At the release deadline of a RELEASING load RELEASE_FAIL is set, an
ACTIVE carriage becomes STOPPING, a STOP stands for each mapped drive, and the load stays with its deadline absent. A load
in another state, or a deadline not reached, is left alone. -/
def Obligations.HeadDeadlinesTaken : Prop :=
  ∀ (s : State) (k : Nat) (c : Carriage), s.Running → s.NoneHeldBut k → s.carriage k = some c →
    (c.load = none → exec (.gripDeadline k) s = .next s ∧ exec (.releaseDeadline k) s = .next s) ∧
    ∀ l, c.load = some l →
      (l.phase ≠ .gripping ∨ (∀ d, l.deadline = some d → reached s.lineClock d = false) →
        exec (.gripDeadline k) s = .next s) ∧
      (l.phase ≠ .releasing ∨ (∀ d, l.deadline = some d → reached s.lineClock d = false) →
        exec (.releaseDeadline k) s = .next s) ∧
      ∀ d, l.deadline = some d → reached s.lineClock d = true →
        (l.phase = .gripping →
          let failed :=
            hand
              { s.changed k (fun c => { c with load := none, modulesInForce := c.modulesReported }) with
                saws :=
                  s.saws.modify l.jobSaw fun saw =>
                    { saw with
                      queue :=
                        saw.queue.map fun e =>
                          if e.sequence = l.jobSeq then { e with state := .queued, carrier := none } else e } }
              .gripFail (some k) (.job l.jobSaw l.jobSeq) .none .absent
          let woken : Prop := ∃ held, c.slot = some held ∧ held.cause = .loadBusy
          (¬woken → exec (.gripDeadline k) s = .next failed) ∧
            (woken → k < 4 → exec (.gripDeadline k) s = .next { reevaluate failed k with reports := [] })) ∧
        (s.NoHeld → l.phase = .releasing →
          ∃ t e, exec (.releaseDeadline k) s = .next t ∧ t.carriage k = some e ∧
            e.load = some { l with deadline := none } ∧ e.ctx.flags = { c.ctx.flags with releaseFail := true } ∧
            e.ctx.runState = (if c.ctx.runState = .active then .stopping else c.ctx.runState) ∧
            (c.ctx.runState ≠ .lost → ∀ axis node, s.addressOf (driveRole k axis) = some node →
              ∃ e ∈ t.port.stops, e.node = node) ∧
            (∀ j, j ≠ k → t.carriage j = s.carriage j) ∧ t.saws = s.saws ∧ t.bays = s.bays ∧ t.fences = s.fences ∧
            s.Outside t)

/-- A recorded arrival time of a node or saw becomes absent when its age has reached 2³¹ ms, and stays before. -/
def Obligations.ArrivalTimeForgotten : Prop :=
  ∀ s : State, s.Running →
    (∀ role, (∀ t, s.arrivalOf role = some t → age s.lineClock t < 2147483648) →
      exec (.arrivalTimeAbsent role) s = .next s) ∧
    (∀ role t, s.arrivalOf role = some t → 2147483648 ≤ age s.lineClock t →
      exec (.arrivalTimeAbsent role) s =
        .next
          (match role with
          | .xDrive k => s.changed k fun c => { c with ctx := { c.ctx with arrivalX := none } }
          | .zDrive k => s.changed k fun c => { c with ctx := { c.ctx with arrivalZ := none } }
          | .head k => s.changed k fun c => { c with ctx := { c.ctx with arrivalHead := none } }
          | .saw j => { s with saws := s.saws.modify j fun saw => { saw with arrival := none } }
          | .controller => s))

/-! Transmitters. -/

/-- The port D transmitter: free, it starts the STOP entry at the head of the STOP injection queue, which stays there, and
only with no entry waiting the frame at the head of the D-forward queue, which leaves it: room is reported, and the report
stands where a held move waits for it (log 10). Sending, it starts nothing. The end of a frame frees it, counts it sent, and
removes a sent STOP entry. -/
def Obligations.DownstreamTransmitter : Prop :=
  ∀ s : State, s.Running →
    (∀ e rest, s.port.transmitterD = .free → s.port.stops = e :: rest →
      exec .stopSend s =
          .next
            { s with
              port :=
                { s.port with
                  transmitterD :=
                    .sending ⟨BitVec.ofNat 8 e.node, e.source, 0x11, e.sequence, [BitVec.ofNat 8 e.reason.code]⟩ true } } ∧
        exec .dForwardSend s = .next s) ∧
    (s.port.stops = [] → exec .stopSend s = .next s) ∧
    (∀ f rest, s.port.transmitterD = .free → s.port.stops = [] → s.port.dForward = f :: rest →
      exec .dForwardSend s =
        .next
          { s with
            port :=
              { s.port with
                transmitterD := .sending f false
                dForward := rest
                roomReports :=
                  if ∃ c ∈ s.carriages, c.slot.any (·.waitingForRoom) = true then s.port.roomReports + 1
                  else s.port.roomReports } }) ∧
    (s.port.dForward = [] → exec .dForwardSend s = .next s) ∧
    (s.port.transmitterD = .free → exec (.frameSent .d) s = .next s) ∧
    ∀ f stop, s.port.transmitterD = .sending f stop →
      exec .stopSend s = .next s ∧ exec .dForwardSend s = .next s ∧
        exec (.frameSent .d) s =
          .next
            { s with
              port :=
                { s.port with
                  transmitterD := .free
                  stops := if stop then s.port.stops.drop 1 else s.port.stops
                  countersD := { s.port.countersD with sent := bump s.port.countersD.sent } } }

/-- The port U transmitter: free, it starts the head of the U-forward queue; with that queue empty, the reply at the head of
the reply queue, to the request's source; with both empty, the notice at the head of the notice queue, to the address that
holds CONTROLLER. A notice is its 16 bytes of section 11.5: kind, subject (0xFF for none), reference, cause, detail and the
line clock when it was handed, with the codes listed there. A reply and a notice take the own address and the next own
sequence value. Sending, it starts nothing. The end of a frame frees it and counts it sent. Where 4 replies wait and a reply
leaves, the request at the head of the request queue is taken in that step (log 4): it is carried out on the state so
reached and its reply placed at the tail. -/
def Obligations.UpstreamTransmitter : Prop :=
  let one (n : Nat) : List Byte := [BitVec.ofNat 8 n]
  let two (n : Nat) : List Byte := one n ++ one (n / 256)
  let four (n : Nat) : List Byte := two n ++ two (n / 65536)
  let noticeBytes (n : Notice) : List Byte :=
    one n.kind.code ++ one (n.subject.getD 255) ++
      (match n.reference with
      | .absent => [0, 0, 0, 0]
      | .tag t => [1, t, 0, 0]
      | .job saw sequence => 2 :: one saw ++ two sequence) ++
      one n.cause.code ++
      (match n.detail with
      | .absent => [0, 0, 0, 0, 0]
      | .position p => 1 :: four p
      | .cups count => 2 :: four count
      | .cause c => 3 :: four c.code) ++
      four n.time.toNat
  let codes (causes : List Cause) (first : Nat) : Prop := causes.map (·.code) = List.range' first causes.length
  (([.verdict, .shadowVerdict, .holdEnd, .pick, .place, .gripFail, .fault, .stateChange, .fence, .estop, .lineReset] :
      List NoticeKind).map (·.code) = List.range' 1 11) ∧
  (codes [.none, .admitted, .clamped, .held, .refused, .wouldHold] 0x00 ∧
    codes [.notNormal, .estop, .notActive, .stale, .headLow, .loadBusy, .loadRejected, .badField, .blocked, .noRoom,
      .fenced, .deadlock, .xMoving, .noWindow, .bayRestock, .bayEmpty, .wrongBay, .noLoad, .noJob, .noEntry, .state,
      .ahead, .mismatch, .notLowered, .uncovered, .smallPanel, .wrongJob, .notAtSaw, .sawBusy, .notHead] 0x10 ∧
    codes [.holdTimeout, .superseded, .cancelled, .excursion, .lostFlag, .vacuumDrop, .releaseFail, .driveFault] 0x40 ∧
    codes [.ok, .reject, .double, .thin, .placed, .putBack] 0x50 ∧ codes [.off, .pending, .on] 0x60 ∧
    codes [.asserted, .released, .lrstN, .command] 0x68 ∧ codes [.unseen, .active, .stopping, .halted, .lost] 0x70 ∧
    codes [.normal, .isolated, .excluded, .shadow] 0x78) ∧
  (([.ok, .badTable, .badIndex, .badField, .locked, .inUse, .state, .overlap, .full, .order, .duplicate, .noEntry] :
      List ResultCode).map (·.code) = List.range 12) ∧
  (∀ s : State, s.Running →
    (∀ f rest, s.port.transmitterU = .free → s.port.uForward = f :: rest →
      exec .uForwardSend s =
          .next { s with port := { s.port with transmitterU := .sending f false, uForward := rest } } ∧
        exec .mgReply s = .next s ∧ exec .notice s = .next s) ∧
    (∀ r rest, s.port.transmitterU = .free → s.port.uForward = [] → s.management.replies = r :: rest →
      (s.management.requests = [] →
        exec .mgReply s =
          .next
            { s with
              port :=
                { s.port with
                  transmitterU :=
                    .sending
                      ⟨r.dst, BitVec.ofNat 8 s.port.ownAddress, 0x68, s.port.ownSeq,
                        r.echo :: BitVec.ofNat 8 r.code.code :: r.data⟩ false
                  ownSeq := s.port.ownSeq + 1 }
              management := { s.management with replies := rest } }) ∧
        exec .uForwardSend s = .next s ∧ exec .notice s = .next s) ∧
    (∀ n rest a, s.port.transmitterU = .free → s.port.uForward = [] → s.management.replies = [] →
      s.management.notices = n :: rest → s.addressOf .controller = some a →
        exec .notice s =
            .next
              { s with
                port :=
                  { s.port with
                    transmitterU :=
                      .sending
                        ⟨BitVec.ofNat 8 a, BitVec.ofNat 8 s.port.ownAddress, 0x69, s.port.ownSeq, noticeBytes n⟩ false
                    ownSeq := s.port.ownSeq + 1 }
                management := { s.management with notices := rest } } ∧
          exec .uForwardSend s = .next s ∧ exec .mgReply s = .next s) ∧
    (s.port.transmitterU = .free → exec (.frameSent .u) s = .next s) ∧
    ∀ f, s.port.transmitterU = .sending f false →
      exec .uForwardSend s = .next s ∧ exec .mgReply s = .next s ∧ exec .notice s = .next s ∧
        exec (.frameSent .u) s =
          .next
            { s with
              port :=
                { s.port with
                  transmitterU := .free
                  countersU := { s.port.countersU with sent := bump s.port.countersU.sent } } }) ∧
  ∀ (s : State) (r : Reply) (rest : List Reply) (q : Frame) (more : List Frame), s.Running →
    s.port.transmitterU = .free → s.port.uForward = [] → s.management.replies = r :: rest → rest.length = 3 →
    s.management.requests = q :: more →
      let begun : State :=
        { s with
          port :=
            { s.port with
              transmitterU :=
                .sending
                  ⟨r.dst, BitVec.ofNat 8 s.port.ownAddress, 0x68, s.port.ownSeq,
                    r.echo :: BitVec.ofNat 8 r.code.code :: r.data⟩ false
              ownSeq := s.port.ownSeq + 1 }
          management := { s.management with replies := rest, requests := more } }
      let a := carryOut begun q
      a.after.reports = [] →
        exec .mgReply s = .next (a.after.replied q.src q.seq a.code a.data) ∧ a.after.management.replies = rest

/-! Resets and pins. -/

/-- A line reset is taken where the taken level of LRST_N falls, with source LRST_N, and by the LINE-RESET command, which is
answered OK behind the replies already waiting, with source COMMAND. The taken level falls where it is high and the two last
samples agree that the pin is low; it rises, with no reset, where it is low and they agree that the pin is high; in every other
case neither row does anything (log 3), and neither changes the pin's own level or a sample. -/
def Obligations.LineResetTaken : Prop :=
  (∀ s : State, s.Running →
    let p := s.inputs.lrstN
    let taking (level : Bool) : State := { s with inputs := { s.inputs with lrstN := { p with taken := level } } }
    let falls : Prop := p.taken = true ∧ p.sample = false ∧ p.sampleBefore = false
    let rises : Prop := p.taken = false ∧ p.sample = true ∧ p.sampleBefore = true
    (falls → exec .lrstNAssertion s = .next (lineReset (taking false) .lrstN)) ∧
    (¬falls → exec .lrstNAssertion s = .next s) ∧
    (rises → exec .lrstNRise s = .next (taking true)) ∧
    (¬rises → exec .lrstNRise s = .next s)) ∧
  ∀ (s : State) (src seq : Byte), s.Listens src →
    exec (.lineReset src seq) s = .next ((lineReset s.arrived .command).replied src seq .ok [])

/-- What a line reset leaves. Every carriage not EXCLUDED is UNSEEN of origin LINE_RESET, with positions, arrivals, set,
marks and active moves cleared and its reservation UNKNOWN; an EXCLUDED one is HALTED in its park window with its reports
kept. Slots and virtual positions are gone, a grip or present release deadline starts anew, a sampling begins anew. Both
forward queues are empty, and the STOP injection queue holds one LINE_RESET entry, with consecutive own sequence values, for
each mapped drive of the carriages that were ACTIVE or STOPPING. The notice queue holds the LINE_RESET notice, followed only
by notices of fences. Each fence keeps its interval and its state, but for a PENDING one that no park window intersects,
which becomes ON. A transmitter finishes its frame, which on port D no queue holds any longer. No report is left, and all
else is kept. -/
def Obligations.LineResetEffect : Prop :=
  ∀ (s : State) (source : Cause), s.carriages.length ≤ 4 →
    let t := lineReset s source
    let nodes : List Nat :=
      (List.range s.carriages.length).flatMap fun k =>
        if s.runState k = some .active ∨ s.runState k = some .stopping then
          (s.addressOf (.xDrive k)).toList ++ (s.addressOf (.zDrive k)).toList
        else []
    (∀ k c, s.carriage k = some c →
      t.carriage k =
        some
          { c with
            slot := none
            virtualX := none
            reservation :=
              if c.ctx.membership = .excluded then
                ((s.record k).bind (·.park)).map fun p => (⟨p, .park⟩ : Reservation)
              else none
            load :=
              c.load.map fun l =>
                match l.phase, s.head k with
                | .gripping, some h => { l with deadline := some (s.lineClock + BitVec.ofNat 32 h.gripTime) }
                | .releasing, some h =>
                  { l with deadline := l.deadline.map fun _ => s.lineClock + BitVec.ofNat 32 h.releaseTime }
                | .checking, _ => { l with sum := 0, count := 0 }
                | _, _ => l
            ctx :=
              if c.ctx.membership = .excluded then
                { c.ctx with
                  runState := .halted
                  unseenOrigin := none
                  fresh := false
                  inSetX := false
                  inSetZ := false
                  inSetHead := false
                  stillX := false
                  stillZ := false
                  activeX := none
                  activeZ := none }
              else
                { c.ctx with
                  runState := .unseen
                  unseenOrigin := some .lineReset
                  fresh := false
                  lastX := none
                  lastZ := none
                  arrivalX := none
                  arrivalZ := none
                  arrivalHead := none
                  inSetX := false
                  inSetZ := false
                  inSetHead := false
                  stillX := false
                  stillZ := false
                  activeX := none
                  activeZ := none } }) ∧
      t.carriages.length = s.carriages.length ∧ t.port.dForward = [] ∧ t.port.uForward = [] ∧
      t.port.stops =
        nodes.zipIdx.map (fun p =>
          (⟨p.1, .lineReset, .part, BitVec.ofNat 8 s.port.ownAddress, s.port.ownSeq + BitVec.ofNat 8 p.2⟩ : StopEntry)) ∧
      t.port.ownSeq = s.port.ownSeq + BitVec.ofNat 8 nodes.length ∧ t.port.nodeMap = s.port.nodeMap ∧
      t.port.receiverU = s.port.receiverU ∧ t.port.receiverD = s.port.receiverD ∧
      t.port.countersU = s.port.countersU ∧ t.port.countersD = s.port.countersD ∧
      t.port.ownAddress = s.port.ownAddress ∧ t.port.roomReports = 0 ∧
      t.port.transmitterU = s.port.transmitterU ∧
      t.port.transmitterD =
        (match s.port.transmitterD with
        | .free => .free
        | .sending f _ => .sending f false) ∧
      (∀ i f, s.fences[i]? = some f →
        let clear : Prop :=
          i < 8 ∧ f.state = .pending ∧
            ∀ j c r, t.carriage j = some c → c.reservation = some r → r.span.intersects (s.fenceSpan f) = false
        (clear → t.fences[i]? = some { f with state := .on }) ∧ (¬clear → t.fences[i]? = some f)) ∧
      (∃ later, t.management.notices =
        (if s.addressOf .controller = none then []
        else [(⟨.lineReset, none, .absent, source, .absent, s.lineClock⟩ : Notice)]) ++ later ∧
          ∀ n ∈ later, n.kind = .fence) ∧
      t.management.requests = s.management.requests ∧ t.management.replies = s.management.replies ∧
      t.management.overflow = s.management.overflow ∧ t.lineClock = s.lineClock ∧ t.inputs = s.inputs ∧
      t.lamps = s.lamps ∧ t.rail = s.rail ∧ t.carriageRecords = s.carriageRecords ∧ t.headRecords = s.headRecords ∧
      t.cupLayout = s.cupLayout ∧ t.bays = s.bays ∧ t.saws = s.saws ∧ t.stampCounter = s.stampCounter ∧
      t.fences.length = s.fences.length ∧ t.pending = s.pending ∧ t.reports = []

/-- At an assertion of ESTOP_N the emergency state becomes ASSERTED. Every ACTIVE carriage becomes STOPPING with both still
marks no, no held move and no active move; every STOPPING one keeps its marks with its active moves absent; every other
carriage is unchanged, and so are loads, images, reservations, fences, bays and Feed Queues. A STOP entry stands for each
mapped drive of the carriages that were ACTIVE or STOPPING. It is an assertion where the taken level is high and the two last
samples agree that the pin is low; in every other case nothing is done (log 3). The pin's own level and its samples stay. -/
def Obligations.EstopAsserted : Prop :=
  ∀ s : State, s.Running → s.lawful = true →
    let p := s.inputs.estopN
    let falls : Prop := p.taken = true ∧ p.sample = false ∧ p.sampleBefore = false
    (¬falls → exec .estopAssertion s = .next s) ∧
    (falls →
      ∃ t, exec .estopAssertion s = .next t ∧
        t.carriages =
          s.carriages.map (fun c =>
            if c.ctx.runState = .active then
              { c with
                slot := none
                ctx :=
                  { c.ctx with
                    runState := .stopping
                    stillX := false
                    stillZ := false
                    activeX := none
                    activeZ := none } }
            else if c.ctx.runState = .stopping then { c with ctx := { c.ctx with activeX := none, activeZ := none } }
            else c) ∧
        t.inputs = { s.inputs with estopN := { p with taken := false }, emergency := true } ∧
        (∀ k axis node, s.runState k = some .active ∨ s.runState k = some .stopping →
          s.addressOf (driveRole k axis) = some node → ∃ e ∈ t.port.stops, e.node = node) ∧
        t.fences = s.fences ∧ t.bays = s.bays ∧ t.saws = s.saws ∧
        s.Outside { t with inputs := s.inputs })

/-- At a release of ESTOP_N the emergency state becomes RELEASED and one ESTOP notice RELEASED without subject is handed;
nothing else is done. It is a release where the taken level is low and the two last samples agree that the pin is high; in
every other case nothing is done (log 3). The pin's own level and its samples stay. -/
def Obligations.EstopReleased : Prop :=
  ∀ s : State, s.Running →
    let p := s.inputs.estopN
    let rises : Prop := p.taken = false ∧ p.sample = true ∧ p.sampleBefore = true
    (rises →
      exec .estopRelease s =
        .next
          (hand { s with inputs := { s.inputs with estopN := { p with taken := true }, emergency := false } } .estop none
            .absent .released .absent)) ∧
    (¬rises → exec .estopRelease s = .next s)

/-- The pattern of each beacon and of LAMP4 is the first row of R174 that applies. An output is low for OFF, high for ON, and for
a blink, once the points due have been passed (log 22), lit exactly in the duty share that begins each period from the lamp
phase origin. A lit-to-dark or dark-to-lit point of a blink pattern that is due changes the level of every output showing it,
and of no other; where none is due nothing changes. A LAMP write of listed values sets the lamp record and restarts both
patterns at the lit start of a period; any other value is refused BAD_FIELD with nothing applied. -/
def Obligations.LampsBlinkAndAreWritten : Prop :=
  (∀ s : State,
    (∀ k, k < 4 → s.carriage k = none → lampPattern s k = .off) ∧
    (∀ k c, k < 4 → s.carriage k = some c →
      let alarm : Prop := c.ctx.flags ≠ {} ∨ c.ctx.runState = .stopping ∨ c.ctx.runState = .lost
      let dark : Prop := c.ctx.runState = .unseen ∨ c.ctx.membership = .excluded
      let slow : Prop := c.ctx.membership = .shadow ∨ c.ctx.runState = .halted ∨ c.slot ≠ none
      (alarm → lampPattern s k = .blink2) ∧ (¬alarm → dark → lampPattern s k = .off) ∧
        (¬alarm → ¬dark → slow → lampPattern s k = .blink1) ∧ (¬alarm → ¬dark → ¬slow → lampPattern s k = .on)) ∧
    (s.addressOf .controller = none → lampPattern s 4 = .off) ∧
    (s.addressOf .controller ≠ none → s.inputs.emergency = true → lampPattern s 4 = .blink2) ∧
    (s.addressOf .controller ≠ none → s.inputs.emergency = false → lampPattern s 4 = .on)) ∧
  (∀ (s : State) (i : Nat), s.Running →
    let share : Nat :=
      match s.lamps.duty with
      | .quarter => 1
      | .half => 2
      | .threeQuarters => 3
    let slow : Nat :=
      match s.lamps.blink1 with
      | .half => 2000000
      | .one => 1000000
      | .two => 500000
      | .four => 250000
    let fast : Nat :=
      match s.lamps.blink2 with
      | .two => 500000
      | .four => 250000
      | .eight => 125000
      | .sixteen => 62500
    (lampPattern s i = .off → lampOutput s i = false) ∧ (lampPattern s i = .on → lampOutput s i = true) ∧
    (lampPattern s i = .blink1 → s.lamps.points .blink1 = s.lamps.pointsDue .blink1 →
      (lampOutput s i = true ↔ 4 * (s.lamps.phase % slow) < share * slow)) ∧
    (lampPattern s i = .blink2 → s.lamps.points .blink2 = s.lamps.pointsDue .blink2 →
      (lampOutput s i = true ↔ 4 * (s.lamps.phase % fast) < share * fast))) ∧
  (∀ (s : State) (b : Blink), s.Running →
    (s.lamps.pointsDue b ≤ s.lamps.points b → exec (.blinkPeriod b) s = .next s) ∧
    (s.lamps.points b < s.lamps.pointsDue b →
      ∃ t, exec (.blinkPeriod b) s = .next t ∧
        (match b with
        | .blink1 => t = { s with lamps := { s.lamps with points1 := s.lamps.points1 + 1 } }
        | .blink2 => t = { s with lamps := { s.lamps with points2 := s.lamps.points2 + 1 } }) ∧
        ∀ i, lampOutput t i =
          if lampPattern s i = (match b with | .blink1 => .blink1 | .blink2 => .blink2) then !lampOutput s i
          else lampOutput s i)) ∧
  ∀ (s : State) (src seq index b1 b2 duty : Byte), s.Listens src →
    (index ≠ 0 → exec (.lampWrite src seq index [b1, b2, duty]) s = .next (s.answered src seq .badIndex)) ∧
    (index = 0 → 3 < b1.toNat ∨ 3 < b2.toNat ∨ 2 < duty.toNat →
      exec (.lampWrite src seq index [b1, b2, duty]) s = .next (s.answered src seq .badField)) ∧
    (index = 0 → ∀ f1 f2 d, Blink1Frequency.code f1 = b1.toNat → Blink2Frequency.code f2 = b2.toNat →
      Duty.code d = duty.toNat →
        exec (.lampWrite src seq index [b1, b2, duty]) s =
          .next
            (State.replied
              { s.arrived with lamps := { blink1 := f1, blink2 := f2, duty := d, phase := 0, points1 := 0, points2 := 0 } }
              src seq .ok []))

/-! Management requests. -/

/-- A request that is refused, with whatever code, changes nothing: the state after it is the state before it. Refused by
tests 1 to 5 of R156 are: a payload too short for its header, a COUNTERS read without its group, and a command code that
names no command, BAD_FIELD; a table that does not exist, and a write to one of the four read-only ones, BAD_TABLE; an index
that the table or the command does not hold, BAD_INDEX, whatever the length; and a record or operands of another length than
the table or the command takes, BAD_FIELD (a command without its index operand too, log 30). -/
def Obligations.RefusedRequestChangesNothing : Prop :=
  (∀ (s : State) (f : Frame), (carryOut s f).code ≠ .ok → (carryOut s f).after = s ∧ (carryOut s f).data = []) ∧
  ∀ (s : State) (dst src seq : Byte), s.Own dst → s.Listens src →
    let refused (kind : MgKind) (payload : List Byte) (code : ResultCode) : Prop :=
      exec (.mgRequest kind dst src seq payload) s = .next (s.answered src seq code)
    let sized (table : Byte) (size : Nat) (holds : Nat → Prop) : Prop :=
      ∀ (i : Byte) (record : List Byte), record.length ≤ 46 →
        (¬holds i.toNat → refused .write (table :: i :: record) .badIndex) ∧
        (holds i.toNat → record.length ≠ size → refused .write (table :: i :: record) .badField)
    let operands (code : Byte) (size bound : Nat) : Prop :=
      ∀ given : List Byte, given.length ≤ 47 →
        (∀ i rest, given = i :: rest → bound ≤ i.toNat → refused .command (code :: given) .badIndex) ∧
        ((∀ i rest, given = i :: rest → i.toNat < bound) → given.length ≠ size → refused .command (code :: given) .badField)
    (∀ payload : List Byte, payload.length < 2 → refused .write payload .badField ∧ refused .read payload .badField) ∧
    refused .command [] .badField ∧ (∀ i : Byte, refused .read [0x23, i] .badField) ∧
    (∀ (table i : Byte) (rest : List Byte), rest.length ≤ 46 →
      (table = 0 ∨ 0x0A < table.toNat → refused .write (table :: i :: rest) .badTable) ∧
      (table = 0 ∨ 0x0A < table.toNat → table.toNat < 0x20 ∨ 0x23 < table.toNat →
        refused .read (table :: i :: rest) .badTable)) ∧
    (∀ (code : Byte) (given : List Byte), given.length ≤ 47 → code = 0 ∨ 0x0A < code.toNat →
      refused .command (code :: given) .badField) ∧
    sized 0x01 2 (fun i => i ≤ 62 ∧ i ≠ s.port.ownAddress) ∧ sized 0x02 8 (· = 0) ∧ sized 0x03 37 (· ≤ 3) ∧
    sized 0x04 13 (· ≤ 3) ∧ sized 0x05 33 (· ≤ 15) ∧ sized 0x06 10 (· < s.saws.length) ∧
    sized 0x07 18 (· < s.bays.length) ∧ sized 0x08 11 (· < s.saws.length) ∧ sized 0x09 8 (· < s.fences.length) ∧
    sized 0x0A 3 (· = 0) ∧ operands 0x01 2 s.carriages.length ∧ operands 0x02 1 s.carriages.length ∧
    operands 0x03 1 s.carriages.length ∧ operands 0x04 1 s.carriages.length ∧ operands 0x05 1 8 ∧ operands 0x06 1 8 ∧
    operands 0x07 1 24 ∧ operands 0x08 3 6 ∧ operands 0x09 3 6 ∧
    ∀ given : List Byte, given ≠ [] → given.length ≤ 47 → refused .command (0x0A :: given) .badField

/-- SET-MEMBERSHIP: BAD_INDEX for a carriage not installed, BAD_FIELD for no membership, OK and no change for the present
one. NORMAL and SHADOW: STATE from EXCLUDED, and unless the carriage is HALTED, FRESH, unflagged and both drives ready; NORMAL
OVERLAP unless its envelope lies at least G from each neighbour's known reservation (in rail order, log 11) and each standing
fence; SHADOW takes the last X position as virtual position. EXCLUDED: STATE unless HALTED with its occupancy within its park
window, OVERLAP where that is closer than G to a neighbour's reservation; else the park window becomes the reservation and the
carriage STALE. ISOLATED: from EXCLUDED the carriage becomes UNSEEN of origin UNEXCLUDE, its reports, arrivals, set and
reservation gone; otherwise accepted in every run state, the held move ended NOT_NORMAL, and an ACTIVE carriage with an active
move STOPPING with STOPs of reason ISOLATE. Each change is reported; the order of its notices is the model's (logs 15, 39). -/
def Obligations.MembershipSet : Prop :=
  ∀ (s : State) (src seq k membership : Byte), s.Listens src →
    let run := exec (.setMembership src seq k membership) s
    let become (m : Membership) (virtual : Option Nat) (cause : Cause) : Prop :=
      run =
        .next
          (((hand
            (s.arrived.changed k.toNat fun c =>
              { c with virtualX := virtual, ctx := { c.ctx with membership := m } })
            .stateChange (some k.toNat) .absent cause .absent)).replied src seq .ok [])
    (s.carriages.length ≤ k.toNat → run = .next (s.answered src seq .badIndex)) ∧
    (k.toNat < s.carriages.length → 3 < membership.toNat → run = .next (s.answered src seq .badField)) ∧
    ∀ c, s.carriage k.toNat = some c →
      let sound : Prop :=
        c.ctx.runState = .halted ∧ c.ctx.fresh = true ∧ c.ctx.flags = {} ∧
          (∃ x, c.ctx.lastX = some x ∧ x.status.ready = true) ∧ ∃ z, c.ctx.lastZ = some z ∧ z.status.ready = true
      let working : Prop := c.ctx.membership ≠ .excluded ∧ c.ctx.membership.code ≠ membership.toNat
      (c.ctx.membership.code = membership.toNat → run = .next (s.answered src seq .ok)) ∧
      (membership = 0 ∨ membership = 3 → c.ctx.membership = .excluded → run = .next (s.answered src seq .state)) ∧
      (membership = 0 ∨ membership = 3 → working → ¬sound → run = .next (s.answered src seq .state)) ∧
      (membership = 0 → working → sound → ∀ (env : Interval), s.currentEnvelope k.toNat = some env →
        let clear : Prop :=
          s.closeNeighbours k.toNat env = [] ∧
            ∀ f ∈ s.fences, f.state ≠ .off → env.apart s.gap (s.fenceSpan f) = true
        (¬clear → run = .next (s.answered src seq .overlap)) ∧ (clear → become .normal none .normal)) ∧
      (membership = 3 → working → sound → become .shadow (c.ctx.lastX.map (·.position)) .shadow) ∧
      (membership = 2 → working →
        let parked (park : Interval) : Prop :=
          c.ctx.runState = .halted ∧ (s.record k.toNat).bind (·.park) = some park ∧
            ∃ occ, s.currentOccupancy k.toNat = some occ ∧ park.lo ≤ occ.lo ∧ occ.hi ≤ park.hi
        ((∀ park, ¬parked park) → run = .next (s.answered src seq .state)) ∧
        ∀ park, parked park →
          (s.closeNeighbours k.toNat park ≠ [] → run = .next (s.answered src seq .overlap)) ∧
          (s.closeNeighbours k.toNat park = [] → s.NoHeld →
            run =
              .next
                ((testFences
                  (hand
                    (s.arrived.changed k.toNat fun c =>
                      { c with
                        virtualX := none
                        reservation := some ⟨park, .park⟩
                        ctx := { c.ctx with membership := .excluded, fresh := false } })
                    .stateChange (some k.toNat) .absent .excluded .absent)).replied src seq .ok []))) ∧
      (membership = 1 → c.ctx.membership = .excluded →
        run =
          .next
            ((testFences
              (hand
                (hand
                  (s.arrived.changed k.toNat fun c =>
                    { c with
                      virtualX := none
                      reservation := none
                      ctx :=
                        { c.ctx with
                          membership := .isolated
                          runState := .unseen
                          unseenOrigin := some .unexclude
                          fresh := false
                          lastX := none
                          lastZ := none
                          arrivalX := none
                          arrivalZ := none
                          arrivalHead := none
                          inSetX := false
                          inSetZ := false
                          inSetHead := false } })
                  .stateChange (some k.toNat) .absent .isolated .absent)
                .stateChange (some k.toNat) .absent .unseen .absent)).replied src seq .ok [])) ∧
      (membership = 1 → working →
        let isolated : State :=
          hand
            ((match c.slot with
              | none => s.arrived
              | some h => hand s.arrived .holdEnd (some k.toNat) (.tag h.tag) .notNormal .absent).changed k.toNat
              fun c => { c with slot := none, virtualX := none, ctx := { c.ctx with membership := .isolated } })
            .stateChange (some k.toNat) .absent .isolated .absent
        let moving : Prop := c.ctx.runState = .active ∧ (c.ctx.activeX ≠ none ∨ c.ctx.activeZ ≠ none)
        (¬moving → run = .next (isolated.replied src seq .ok [])) ∧
        (moving →
          let stopping :=
            isolated.changed k.toNat fun c =>
              { c with ctx := { c.ctx with runState := .stopping, stillX := false, stillZ := false } }
          let stopped := requestStop (requestStop stopping k.toNat .x .isolate) k.toNat .z .isolate
          run =
            .next
              ((hand stopped .stateChange (some k.toNat) .absent .stopping .absent).replied src seq .ok [])))

/-- HALT: BAD_INDEX for a carriage not installed; OK and no change in HALTED, UNSEEN and LOST. In STOPPING a STOP is requested
for both drives with reason HALT. In ACTIVE the held move ends CANCELLED, the carriage becomes STOPPING with both still
marks no, STOP is requested for both drives, X before Z, and a STATE_CHANGE notice reports STOPPING. -/
def Obligations.HaltCarriedOut : Prop :=
  ∀ (s : State) (src seq k : Byte), s.Listens src →
    (s.carriages.length ≤ k.toNat → exec (.halt src seq k) s = .next (s.answered src seq .badIndex)) ∧
    ∀ c, s.carriage k.toNat = some c →
      let stopped (t : State) : State := requestStop (requestStop t k.toNat .x .halt) k.toNat .z .halt
      (c.ctx.runState = .halted ∨ c.ctx.runState = .unseen ∨ c.ctx.runState = .lost →
        exec (.halt src seq k) s = .next (s.answered src seq .ok)) ∧
      (c.ctx.runState = .stopping →
        exec (.halt src seq k) s = .next ((stopped s.arrived).replied src seq .ok [])) ∧
      (c.ctx.runState = .active →
        exec (.halt src seq k) s =
          .next
            ((hand
              (stopped
                ((match c.slot with
                  | none => s.arrived
                  | some h => hand s.arrived .holdEnd (some k.toNat) (.tag h.tag) .cancelled .absent).changed k.toNat
                  fun c =>
                    { c with
                      slot := none
                      ctx := { c.ctx with runState := .stopping, stillX := false, stillZ := false } }))
              .stateChange (some k.toNat) .absent .stopping .absent).replied src seq .ok []))

/-- RESUME is accepted only for a HALTED carriage that is FRESH, unflagged, NORMAL, with both drives ready and ESTOP_N
released, whose reservation lies at least G from each neighbour's and from each standing fence that its occupancy does not
intersect: it becomes ACTIVE, and a STATE_CHANGE notice reports it. An ACTIVE carriage is accepted with no change; one that
fails the last condition alone is refused OVERLAP; every other is refused STATE, and a carriage not installed BAD_INDEX. -/
def Obligations.ResumeCarriedOut : Prop :=
  ∀ (s : State) (src seq k : Byte), s.Listens src →
    let run := exec (.resume src seq k) s
    (s.carriages.length ≤ k.toNat → run = .next (s.answered src seq .badIndex)) ∧
    ∀ c, s.carriage k.toNat = some c →
      let sound : Prop :=
        c.ctx.fresh = true ∧ c.ctx.flags = {} ∧ (∃ x, c.ctx.lastX = some x ∧ x.status.ready = true) ∧
          (∃ z, c.ctx.lastZ = some z ∧ z.status.ready = true) ∧ s.inputs.emergency = false ∧ c.ctx.membership = .normal
      (c.ctx.runState = .active → run = .next (s.answered src seq .ok)) ∧
      (c.ctx.runState ≠ .active → c.ctx.runState ≠ .halted → run = .next (s.answered src seq .state)) ∧
      (c.ctx.runState = .halted → ¬sound → run = .next (s.answered src seq .state)) ∧
      (c.ctx.runState = .halted → sound → ∀ held occ, c.reservation = some held →
        s.currentOccupancy k.toNat = some occ →
          let clear : Prop :=
            s.closeNeighbours k.toNat held.span = [] ∧
              ∀ f ∈ s.fences, f.state ≠ .off → (s.fenceSpan f).intersects occ = false →
                held.span.apart s.gap (s.fenceSpan f) = true
          (¬clear → run = .next (s.answered src seq .overlap)) ∧
          (clear →
            run =
              .next
                ((hand (s.arrived.changed k.toNat fun c => { c with ctx := { c.ctx with runState := .active } })
                  .stateChange (some k.toNat) .absent .active .absent).replied src seq .ok [])))

/-- CLEAR-FAULTS removes every fault flag and changes nothing else. It is refused STATE while the load is RELEASING with
RELEASE_FAIL set, while the carriage is LOST or STALE, and while the last STATE of either drive shows fault or is absent; and
BAD_INDEX for a carriage not installed. -/
def Obligations.FaultsCleared : Prop :=
  ∀ (s : State) (src seq k : Byte), s.Listens src →
    (s.carriages.length ≤ k.toNat → exec (.clearFaults src seq k) s = .next (s.answered src seq .badIndex)) ∧
    ∀ c, s.carriage k.toNat = some c →
      let stands : Prop :=
        (∃ l, c.load = some l ∧ l.phase = .releasing ∧ c.ctx.flags.releaseFail = true) ∨ c.ctx.runState = .lost ∨
          c.ctx.fresh = false ∨ (∀ x, c.ctx.lastX = some x → x.status.fault = true) ∨
          ∀ z, c.ctx.lastZ = some z → z.status.fault = true
      (stands → exec (.clearFaults src seq k) s = .next (s.answered src seq .state)) ∧
      (¬stands →
        exec (.clearFaults src seq k) s =
          .next
            ((s.arrived.changed k.toNat fun c => { c with ctx := { c.ctx with flags := {} } }).replied src seq .ok []))

/-- FENCE-ON makes an OFF fence ON where no known reservation intersects it and PENDING where one does, FENCE-OFF makes a
PENDING or ON fence OFF, each with a FENCE notice; a fence already there is accepted with no change, and an index above 7
refused BAD_INDEX. FENCE-OFF re-evaluates a held move that the fence blocks. The test of the fences that follows every change
of a reservation makes each PENDING fence that no known reservation intersects ON, with a FENCE notice each in index order;
every other fence, and all else, it leaves. -/
def Obligations.FencesSwitched : Prop :=
  (∀ s : State,
    let clears (f : Fence) : Bool :=
      f.state == .pending && !(s.carriages.any fun c => c.reservation.any fun r => r.span.intersects (s.fenceSpan f))
    testFences s =
      ((List.range 8).filter fun i => (s.fences[i]?).any clears).foldl
        (fun t i => hand t .fence (some i) .absent .on .absent)
        { s with fences := s.fences.mapIdx fun i f => if i < 8 ∧ clears f = true then { f with state := .on } else f }) ∧
  ∀ (s : State) (src seq f : Byte), s.Listens src →
    (7 < f.toNat →
      exec (.fenceOn src seq f) s = .next (s.answered src seq .badIndex) ∧
        exec (.fenceOff src seq f) s = .next (s.answered src seq .badIndex)) ∧
    ∀ fence, f.toNat < 8 → s.fences[f.toNat]? = some fence →
      let become (state : FenceState) (cause : Cause) : State :=
        hand { s.arrived with fences := s.fences.set f.toNat { fence with state := state } } .fence
          (some f.toNat) .absent cause .absent
      let held : Prop :=
        ∃ c ∈ s.carriages, ∃ r, c.reservation = some r ∧ r.span.intersects (s.fenceSpan fence) = true
      (fence.state = .off → held → exec (.fenceOn src seq f) s = .next ((become .pending .pending).replied src seq .ok [])) ∧
      (fence.state = .off → ¬held → exec (.fenceOn src seq f) s = .next ((become .on .on).replied src seq .ok [])) ∧
      (fence.state ≠ .off → exec (.fenceOn src seq f) s = .next (s.answered src seq .ok)) ∧
      (fence.state = .off → exec (.fenceOff src seq f) s = .next (s.answered src seq .ok)) ∧
      (fence.state ≠ .off →
        (∀ c ∈ s.carriages, ∀ h, c.slot = some h → h.blocker ≠ some (.fence f.toNat)) →
          exec (.fenceOff src seq f) s = .next ((become .off .off).replied src seq .ok [])) ∧
      (fence.state ≠ .off → ∀ k h, k < 4 → s.NoneHeldBut k → (s.carriage k).bind (·.slot) = some h →
        h.blocker = some (.fence f.toNat) →
          exec (.fenceOff src seq f) s =
            .next (State.replied { reevaluate (become .off .off) k with reports := [] } src seq .ok []))

/-- The bytes of a BAY record in the record form (section 11.4) are read back as its fields. BAY-RESTOCK sends a bay to
RESTOCK from every state with its other fields kept; a BAY write in the record form replaces the record, ACTIVE or EMPTY by
its count, and in the clear form makes it UNUSED with every field 0. All three are refused IN_USE while a load names the bay
as its origin or a carriage with a written record (log 26) stands lowered in its window, and BAD_INDEX above 23. -/
def Obligations.BaysChanged : Prop :=
  let one (n : Nat) : List Byte := [BitVec.ofNat 8 n]
  let two (n : Nat) : List Byte := one n ++ one (n / 256)
  let four (n : Nat) : List Byte := two n ++ two (n / 65536)
  (∀ bay : Bay, bay.state = (if bay.count = 0 then .empty else .active) → bay.centre < 4294967296 →
    bay.tolerance < 65536 → bay.material < 65536 → bay.length < 65536 → bay.width < 65536 → bay.thickness < 65536 →
    bay.count < 256 → bay.base < 65536 →
      parseBay
        (one 0 ++ four bay.centre ++ two bay.tolerance ++ two bay.material ++ two bay.length ++ two bay.width ++
          two bay.thickness ++ one bay.count ++ two bay.base) = bay) ∧
  ∀ (s : State) (src seq b : Byte) (record : List Byte), s.Listens src → record.length = 18 →
    let command := exec (.bayRestock src seq b) s
    let write := exec (.bayWrite src seq b record) s
    (23 < b.toNat → s.bays.length = 24 →
      command = .next (s.answered src seq .badIndex) ∧ write = .next (s.answered src seq .badIndex)) ∧
    ∀ bay, b.toNat < 24 → s.bays[b.toNat]? = some bay →
      let inUse : Prop :=
        ∃ k c, s.carriage k = some c ∧
          ((∃ l, c.load = some l ∧ l.originBay = b.toNat) ∨
            ∃ x z r, c.ctx.lastX = some x ∧ c.ctx.lastZ = some z ∧ s.record k = some r ∧
              x.position ≤ bay.centre + bay.tolerance ∧ bay.centre ≤ x.position + bay.tolerance ∧ z.position < r.zClear)
      let become (new : Bay) : Host.Outcome State Fault Refusal :=
        .next (State.replied { s.arrived with bays := s.bays.set b.toNat new } src seq .ok [])
      let new := parseBay record
      let valid : Prop :=
        new.centre ≤ s.railLength ∧ new.tolerance ≤ 5000 ∧ 100 ≤ new.length ∧ new.length ≤ 5600 ∧ 100 ≤ new.width ∧
          new.width ≤ 2200 ∧ 30 ≤ new.thickness ∧ new.thickness ≤ 1000 ∧ new.count ≤ 250 ∧ new.base ≤ 25000 ∧
          ∀ k c r, s.carriage k = some c → s.record k = some r →
            new.base + new.count * new.thickness + 100 ≤ r.zClear
      (inUse → command = .next (s.answered src seq .inUse)) ∧
      (¬inUse → command = become { bay with state := .restock }) ∧
      (record.head? = some 0 → ¬valid → write = .next (s.answered src seq .badField)) ∧
      (record.head? = some 0 → valid → inUse → write = .next (s.answered src seq .inUse)) ∧
      (record.head? = some 0 → valid → ¬inUse →
        write = become { new with state := if new.count = 0 then .empty else .active }) ∧
      (record.head? = some 1 → inUse → write = .next (s.answered src seq .inUse)) ∧
      (record.head? = some 1 → ¬inUse → write = become ⟨.unused, 0, 0, 0, 0, 0, 0, 0, 0⟩) ∧
      ((∃ m, record.head? = some m ∧ 1 < m.toNat) → write = .next (s.answered src seq .badField))

/-- RETIRE removes a QUEUED or FAULTED entry wherever it stands, the entries behind it moving up, and REQUEUE returns a
FAULTED entry to QUEUED in its place with its carrier absent. RETIRE of a PICKED entry and REQUEUE of one not FAULTED are
refused STATE, an entry that does not exist NO_ENTRY, a saw above 5 BAD_INDEX. -/
def Obligations.EntriesRetiredAndRequeued : Prop :=
  ∀ (s : State) (src seq j : Byte) (q : BitVec 16), s.Listens src →
    (5 < j.toNat →
      exec (.retire src seq j q) s = .next (s.answered src seq .badIndex) ∧
        exec (.requeue src seq j q) s = .next (s.answered src seq .badIndex)) ∧
    ∀ saw, j.toNat < 6 → s.saws[j.toNat]? = some saw →
      ((∀ e ∈ saw.queue, e.sequence ≠ q.toNat) →
        exec (.retire src seq j q) s = .next (s.answered src seq .noEntry) ∧
          exec (.requeue src seq j q) s = .next (s.answered src seq .noEntry)) ∧
      ∀ (front back : List Entry) (e : Entry), saw.queue = front ++ e :: back → e.sequence = q.toNat →
        (∀ e' ∈ front ++ back, e'.sequence ≠ q.toNat) →
          let become (queue : List Entry) : Host.Outcome State Fault Refusal :=
            .next
              (State.replied { s.arrived with saws := s.saws.set j.toNat { saw with queue := queue } } src seq .ok [])
          (e.state = .picked →
            exec (.retire src seq j q) s = .next (s.answered src seq .state)) ∧
          (e.state ≠ .picked → exec (.retire src seq j q) s = become (front ++ back)) ∧
          (e.state = .faulted →
            exec (.requeue src seq j q) s =
              become (front ++ { e with state := .queued, carrier := none } :: back)) ∧
          (e.state ≠ .faulted → exec (.requeue src seq j q) s = .next (s.answered src seq .state))

/-- A NODE_MAP write is judged in the order of R143: BAD_INDEX for an index above 62 or the own address, BAD_FIELD for no
role of the nineteen, LOCKED while the line is not idle or a STOP waits for the address, DUPLICATE for a role that another
address holds. Otherwise the entry is replaced; a map left with no CONTROLLER empties the notice queue. -/
def Obligations.NodeMapWritten : Prop :=
  ∀ (s : State) (src seq i code index : Byte), s.Listens src →
    let run := exec (.nodeMapWrite src seq i [code, index]) s
    let locked : Prop := s.lineIdle = false ∨ ∃ e ∈ s.port.stops, e.node = i.toNat
    (62 < i.toNat ∨ i.toNat = s.port.ownAddress → run = .next (s.answered src seq .badIndex)) ∧
    (i.toNat ≤ 62 → i.toNat ≠ s.port.ownAddress →
      (5 < code.toNat ∨ ((code = 2 ∨ code = 3 ∨ code = 4) ∧ 3 < index.toNat) ∨ (code = 5 ∧ 5 < index.toNat) →
        run = .next (s.answered src seq .badField)) ∧
      ∀ entry, Role.codes entry = (code.toNat, index.toNat) → (∀ r, entry = some r → r.inRange = true) →
        (locked → run = .next (s.answered src seq .locked)) ∧
        (¬locked → (∃ r a, entry = some r ∧ s.addressOf r = some a ∧ a ≠ i.toNat) →
          run = .next (s.answered src seq .duplicate)) ∧
        (¬locked → (∀ r a, entry = some r → s.addressOf r = some a → a = i.toNat) →
          let map := s.port.nodeMap.set i.toNat entry
          run =
            .next
              (State.replied
                { s.arrived with
                  port := { s.arrived.port with nodeMap := map }
                  management :=
                    { s.management with
                      notices := if some Role.controller ∈ map then s.management.notices else [] } }
                src seq .ok [])))

/-- The bytes of a RAIL record (section 11.4) are read back as its fields. A RAIL write: BAD_FIELD for a field out of range
or a rail too short for a written record below the new n; LOCKED while the line is not idle; IN_USE while a carriage to be
removed holds a load. Otherwise the record is replaced, carriages n and above are discarded, and each newly installed one
receives its power-on values; where the rail length stands, or no reservation is known, nothing else is done but the test of
the PENDING fences (log 32). Where it changes, every known reservation is recomputed by its stage under the rail now in
force, and each carriage keeps its run state and flags. -/
def Obligations.RailWritten : Prop :=
  let one (n : Nat) : List Byte := [BitVec.ofNat 8 n]
  let two (n : Nat) : List Byte := one n ++ one (n / 256)
  let four (n : Nat) : List Byte := two n ++ two (n / 65536)
  (∀ railLength gap n lookahead, railLength < 4294967296 → gap < 65536 → n < 256 → lookahead < 256 →
    parseRail (four railLength ++ two gap ++ one n ++ one lookahead) = ⟨railLength, gap, n, lookahead⟩) ∧
  ∀ (s : State) (src seq : Byte) (record : List Byte), s.Listens src → record.length = 8 →
    let run := exec (.railWrite src seq 0 record) s
    let r := parseRail record
    let valid : Prop :=
      1000 ≤ r.railLength ∧ r.railLength ≤ 600000 ∧ r.gap ≤ 10000 ∧ 1 ≤ r.n ∧ r.n ≤ 4 ∧ 1 ≤ r.lookahead ∧
        r.lookahead ≤ 4 ∧
        ∀ k c, k < r.n → s.record k = some c →
          c.travelHi ≤ r.railLength ∧ ∀ p, c.park = some p → p.hi ≤ r.railLength
    let loaded : Prop := ∃ k c, r.n ≤ k ∧ s.carriage k = some c ∧ c.load ≠ none
    let new : Carriage :=
      { ctx := {}
        reservation := none
        slot := none
        virtualX := none
        load := none
        image := 0
        modulesReported := 1
        modulesInForce := 1 }
    (∀ i : Byte, i ≠ 0 → exec (.railWrite src seq i record) s = .next (s.answered src seq .badIndex)) ∧
    (¬valid → run = .next (s.answered src seq .badField)) ∧
    (valid → s.lineIdle = false → run = .next (s.answered src seq .locked)) ∧
    (valid → s.lineIdle = true → loaded → run = .next (s.answered src seq .inUse)) ∧
    (valid → s.lineIdle = true → ¬loaded →
      (∃ old, s.rail = some old ∧ old.railLength = r.railLength) ∨ (∀ c ∈ s.carriages, c.reservation = none) →
        run =
          .next
            ((testFences
              { s.arrived with
                rail := some r
                carriages := s.carriages.take r.n ++ List.replicate (r.n - s.carriages.length) new }).replied
              src seq .ok [])) ∧
    (valid → s.lineIdle = true → ¬loaded → s.NoHeld → (∀ old, s.rail = some old → old.railLength ≠ r.railLength) →
      ∃ t, run = .next t ∧ t.rail = some r ∧ t.carriages.length = r.n ∧
        (∀ k, s.carriages.length ≤ k → k < r.n → t.carriage k = some new) ∧
        ∀ k c, k < r.n → s.carriage k = some c →
          ∃ d, t.carriage k = some d ∧ d.ctx.runState = c.ctx.runState ∧ d.ctx.flags = c.ctx.flags ∧
            d.ctx.membership = c.ctx.membership ∧ d.load = c.load ∧
            (c.reservation = none → d.reservation = none) ∧
            ∀ held, c.reservation = some held →
              (held.stage = .park → d.reservation = some held) ∧
              (held.stage = .frozen →
                d.reservation = some ⟨⟨min held.span.lo r.railLength, min held.span.hi r.railLength⟩, .frozen⟩) ∧
              ∀ own x, s.record k = some own → c.ctx.lastX = some x →
                let env := envelope own r.railLength x.position x.velocity
                (held.stage = .plain → d.reservation = some ⟨env, .plain⟩) ∧
                (held.stage = .widened →
                  d.reservation =
                    some
                      ⟨⟨min (env.lo - dStale own) r.railLength, min (env.hi + dStale own) r.railLength⟩, .widened⟩))

/-- The bytes of a CARRIAGE record (section 11.4) are read back as its fields, those of an absent park window disregarded. A
CARRIAGE write of 37 bytes: BAD_INDEX above 3, BAD_FIELD for a yes/no byte above 1 or a field that R4 does not allow (on an
unwritten rail the park window too is bounded by 600 000: log 20). For a carriage not installed the record is replaced. For
an installed one it is refused LOCKED unless that is ISOLATED or EXCLUDED and HALTED or UNSEEN, and STATE where an EXCLUDED
one's park window would change; in UNSEEN its arrival set is emptied; EXCLUDED, its reservation stays; in HALTED, not
EXCLUDED, a PLAIN reservation becomes the envelope under the new record and a WIDENED one that envelope widened by dStale. A
neighbour then too close (in rail order, log 11) is halted: not ACTIVE, its flags kept, STOPs for its drives. -/
def Obligations.CarriageWritten : Prop :=
  let one (n : Nat) : List Byte := [BitVec.ofNat 8 n]
  let two (n : Nat) : List Byte := one n ++ one (n / 256)
  let four (n : Nat) : List Byte := two n ++ two (n / 65536)
  (∀ (r : CarriageRecord) (rest : List Byte), rest.length = 8 → r.leftExt < 65536 → r.rightExt < 65536 →
    r.travelLo < 4294967296 → r.travelHi < 4294967296 → r.vmax < 65536 → r.aStop < 65536 → r.tReact < 256 →
    r.vStill < 256 → r.zClear < 65536 → r.zMax < 65536 → r.w < 256 → r.l < 65536 → r.holdTime < 65536 →
    (∀ p, r.park = some p → p.lo < 4294967296 ∧ p.hi < 4294967296) →
      parseCarriage
        (two r.leftExt ++ two r.rightExt ++ four r.travelLo ++ four r.travelHi ++ two r.vmax ++ two r.aStop ++
          one r.tReact ++ one r.vStill ++ two r.zClear ++ two r.zMax ++ one r.w ++ two r.l ++ two r.holdTime ++
          one (if r.startHeld then 1 else 0) ++
          (match r.park with
          | none => 0 :: rest
          | some p => 1 :: four p.lo ++ four p.hi)) = some r) ∧
  ∀ (s : State) (src seq k : Byte) (record : List Byte), s.Listens src → record.length = 37 →
    let run := exec (.carriageWrite src seq k record) s
    let stored (t : State) (r : CarriageRecord) : State :=
      { t with carriageRecords := s.carriageRecords.set k.toNat (some r) }
    let allowed (r : CarriageRecord) : Prop :=
      r.leftExt ≤ 30000 ∧ r.rightExt ≤ 30000 ∧ r.travelLo < r.travelHi ∧ r.travelHi ≤ s.railLength ∧ 1 ≤ r.vmax ∧
        r.vmax ≤ 4000 ∧ 100 ≤ r.aStop ∧ r.aStop ≤ 20000 ∧ r.tReact ≤ 100 ∧ 1 ≤ r.vStill ∧ r.vStill ≤ 50 ∧
        r.zClear ≤ r.zMax ∧ r.zMax ≤ 25000 ∧ 5 ≤ r.w ∧ r.w ≤ 250 ∧ r.w + 5 ≤ r.l ∧ r.l ≤ 2000 ∧ 100 ≤ r.holdTime ∧
        r.holdTime ≤ 60000 ∧ ∀ p, r.park = some p → p.lo ≤ p.hi ∧ p.hi ≤ s.railLength
    (3 < k.toNat → run = .next (s.answered src seq .badIndex)) ∧
    (k.toNat ≤ 3 → (∀ r, parseCarriage record = some r → ¬allowed r) → run = .next (s.answered src seq .badField)) ∧
    (1 < field record 27 1 ∨ 1 < field record 28 1 ↔ parseCarriage record = none) ∧
    ∀ r, k.toNat ≤ 3 → parseCarriage record = some r → allowed r →
      (s.carriage k.toNat = none → run = .next ((stored s.arrived r).replied src seq .ok [])) ∧
      ∀ c, s.carriage k.toNat = some c →
        let open_ : Prop :=
          (c.ctx.membership = .isolated ∨ c.ctx.membership = .excluded) ∧
            (c.ctx.runState = .halted ∨ c.ctx.runState = .unseen)
        let parkKept : Prop := c.ctx.membership = .excluded → r.park = (s.record k.toNat).bind (·.park)
        (¬open_ → run = .next (s.answered src seq .locked)) ∧
        (open_ → ¬parkKept → run = .next (s.answered src seq .state)) ∧
        (open_ → parkKept → c.ctx.runState = .unseen →
          run =
            .next
              (((stored s.arrived r).changed k.toNat fun c =>
                { c with ctx := { c.ctx with inSetX := false, inSetZ := false, inSetHead := false } }).replied
                src seq .ok [])) ∧
        (open_ → parkKept → c.ctx.runState = .halted → c.ctx.membership = .excluded →
          run = .next ((stored s.arrived r).replied src seq .ok [])) ∧
        (open_ → c.ctx.runState = .halted → c.ctx.membership = .isolated → s.NoHeld →
          ∀ x held, c.ctx.lastX = some x → c.reservation = some held → held.stage = .plain ∨ held.stage = .widened →
            k.toNat < s.carriageRecords.length →
              let env := envelope r s.railLength x.position x.velocity
              let new : Reservation :=
                if held.stage = .plain then ⟨env, .plain⟩
                else ⟨⟨min (env.lo - dStale r) s.railLength, min (env.hi + dStale r) s.railLength⟩, .widened⟩
              (s.closeNeighbours k.toNat new.span = [] →
                run =
                  .next
                    ((testFences
                      ((stored s.arrived r).changed k.toNat fun c => { c with reservation := some new })).replied
                      src seq .ok [])) ∧
              ∃ t, run = .next t ∧ t.carriageRecords = s.carriageRecords.set k.toNat (some r) ∧
                t.carriage k.toNat = some { c with reservation := some new } ∧
                (∀ j ∈ s.closeNeighbours k.toNat new.span, ∃ e, t.carriage j = some e ∧ e.ctx.runState ≠ .active ∧
                  (s.carriage j).map (·.ctx.flags) = some e.ctx.flags ∧
                  (s.runState j ≠ some .lost → ∀ axis node, s.addressOf (driveRole j axis) = some node →
                    ∃ e ∈ t.port.stops, e.node = node)) ∧
                ∀ j, j ≠ k.toNat → j ∉ s.closeNeighbours k.toNat new.span → t.carriage j = s.carriage j)

/-- The writes of one record that replace it and do nothing else: HEAD and CUP_LAYOUT, refused LOCKED for an installed
carriage unless it is ISOLATED or EXCLUDED, HALTED or UNSEEN, with an EMPTY load; SAW, refused IN_USE while the saw's Feed
Queue holds an entry; FENCE, refused IN_USE unless the fence is OFF. Each is refused BAD_INDEX for an index out of range and
BAD_FIELD for a field out of range. The bytes of a record of each of the four (section 11.4) are read back as its fields. -/
def Obligations.RecordsReplaced : Prop :=
  let one (n : Nat) : List Byte := [BitVec.ofNat 8 n]
  let two (n : Nat) : List Byte := one n ++ one (n / 256)
  let four (n : Nat) : List Byte := two n ++ two (n / 65536)
  let signed (v : Int) : List Byte := two (v % 65536).toNat
  (∀ h : HeadRecord, h.r < 256 → h.minCups < 256 → h.minHold < 256 → h.gripTime < 65536 → h.releaseTime < 65536 →
    h.press < 256 → h.contactTol < 65536 → h.liftCheck < 65536 → h.n < 256 →
      parseHead
        (one h.r ++ one h.minCups ++ one h.minHold ++ two h.gripTime ++ two h.releaseTime ++ one h.press ++
          two h.contactTol ++ two h.liftCheck ++ one h.n) = h) ∧
  (∀ cups : List Cup, cups.length = 8 →
    (∀ c ∈ cups, -32768 ≤ c.dx ∧ c.dx ≤ 32767 ∧ -32768 ≤ c.dy ∧ c.dy ≤ 32767) →
      parseCups
        (cups.flatMap (fun c => signed c.dx ++ signed c.dy) ++
          one (cups.zipIdx.map fun p => if p.1.fitted then 2 ^ p.2 else 0).sum) = cups) ∧
  (∀ c : SawConfig, c.centre < 4294967296 → c.tolerance < 65536 → c.tableHeight < 65536 → c.freshness < 65536 →
    parseSaw (four c.centre ++ two c.tolerance ++ two c.tableHeight ++ two c.freshness) = c) ∧
  (∀ lo hi, lo < 4294967296 → hi < 4294967296 → parseFence (four lo ++ four hi) = ⟨lo, hi⟩) ∧
  ∀ (s : State) (src seq i : Byte) (record : List Byte), s.Listens src →
    let locked (k : Nat) : Prop :=
      ∃ c, s.carriage k = some c ∧
        ¬((c.ctx.membership = .isolated ∨ c.ctx.membership = .excluded) ∧
            (c.ctx.runState = .halted ∨ c.ctx.runState = .unseen) ∧ c.load = none)
    (record.length = 13 →
      let run := exec (.headWrite src seq i record) s
      let new := parseHead record
      let allowed : Prop :=
        5 ≤ new.r ∧ new.r ≤ 100 ∧ 1 ≤ new.minCups ∧ new.minCups ≤ 32 ∧ 1 ≤ new.minHold ∧ new.minHold ≤ new.minCups ∧
          50 ≤ new.gripTime ∧ new.gripTime ≤ 5000 ∧ 50 ≤ new.releaseTime ∧ new.releaseTime ≤ 5000 ∧ new.press ≤ 200 ∧
          new.contactTol ≤ 300 ∧ new.liftCheck ≤ 2000 ∧ 1 ≤ new.n ∧ new.n ≤ 8
      (3 < i.toNat → run = .next (s.answered src seq .badIndex)) ∧
      (i.toNat ≤ 3 → ¬allowed → run = .next (s.answered src seq .badField)) ∧
      (i.toNat ≤ 3 → allowed → locked i.toNat → run = .next (s.answered src seq .locked)) ∧
      (i.toNat ≤ 3 → allowed → ¬locked i.toNat →
        run =
          .next (State.replied { s.arrived with headRecords := s.headRecords.set i.toNat (some new) } src seq .ok []))) ∧
    (record.length = 33 →
      let run := exec (.cupLayoutWrite src seq i record) s
      let bad : Prop := ∃ c ∈ parseCups record, c.dx < -2800 ∨ 2800 < c.dx ∨ c.dy < -1100 ∨ 1100 < c.dy
      (15 < i.toNat → run = .next (s.answered src seq .badIndex)) ∧
      (i.toNat ≤ 15 → bad → run = .next (s.answered src seq .badField)) ∧
      (i.toNat ≤ 15 → ¬bad → locked (i.toNat / 4) → run = .next (s.answered src seq .locked)) ∧
      (i.toNat ≤ 15 → ¬bad → ¬locked (i.toNat / 4) →
        run =
          .next
            (State.replied { s.arrived with cupLayout := s.cupLayout.set i.toNat (some (parseCups record)) } src seq .ok
              []))) ∧
    (record.length = 10 →
      let run := exec (.sawWrite src seq i record) s
      let new := parseSaw record
      let bad : Prop :=
        s.railLength < new.centre ∨ 5000 < new.tolerance ∨ 25000 < new.tableHeight ∨ new.freshness < 10 ∨
          1000 < new.freshness
      (s.saws[i.toNat]? = none → run = .next (s.answered src seq .badIndex)) ∧
      ∀ saw, s.saws[i.toNat]? = some saw →
        (bad → run = .next (s.answered src seq .badField)) ∧
        (¬bad → saw.queue ≠ [] → run = .next (s.answered src seq .inUse)) ∧
        (¬bad → saw.queue = [] →
          run =
            .next
              (State.replied { s.arrived with saws := s.saws.set i.toNat { saw with config := some new } } src seq .ok
                []))) ∧
    (record.length = 8 →
      let run := exec (.fenceWrite src seq i record) s
      let new := parseFence record
      (s.fences[i.toNat]? = none → run = .next (s.answered src seq .badIndex)) ∧
      ∀ f, s.fences[i.toNat]? = some f →
        (new.hi < new.lo ∨ s.railLength < new.hi → run = .next (s.answered src seq .badField)) ∧
        (new.lo ≤ new.hi → new.hi ≤ s.railLength → f.state ≠ .off → run = .next (s.answered src seq .inUse)) ∧
        (new.lo ≤ new.hi → new.hi ≤ s.railLength → f.state = .off →
          run =
            .next (State.replied { s.arrived with fences := s.fences.set i.toNat ⟨new, .off⟩ } src seq .ok [])))

/-- A QUEUE write of 11 bytes appends one entry, QUEUED with carrier absent, at the tail of a saw's Feed Queue. It is refused
BAD_INDEX for a saw above 5, BAD_FIELD for a field out of range, FULL where the queue holds 32 entries, and ORDER where the
sequence is not greater than the tail's; a refused append changes nothing. -/
def Obligations.EntryAppended : Prop :=
  ∀ (s : State) (src seq j : Byte) (record : List Byte), s.Listens src → s.saws.length = 6 → record.length = 11 →
    let run := exec (.queueWrite src seq j record) s
    let material := field record 2 2
    let length := field record 4 2
    let width := field record 6 2
    let thickness := field record 8 2
    let bay := field record 10 1
    let bad : Prop :=
      material = 0 ∨ length < 100 ∨ 5600 < length ∨ width < 100 ∨ 2200 < width ∨ thickness < 30 ∨ 1000 < thickness ∨
        (bay ≠ 255 ∧ 23 < bay)
    let e : Entry :=
      ⟨field record 0 2, material, length, width, thickness, if bay = 255 then none else some bay, .queued, none⟩
    (5 < j.toNat → run = .next (s.answered src seq .badIndex)) ∧
    ∀ saw, s.saws[j.toNat]? = some saw →
      (bad → run = .next (s.answered src seq .badField)) ∧
      (¬bad → 32 ≤ saw.queue.length → run = .next (s.answered src seq .full)) ∧
      (¬bad → saw.queue.length < 32 → (∃ tail, saw.queue.getLast? = some tail ∧ e.sequence ≤ tail.sequence) →
        run = .next (s.answered src seq .order)) ∧
      (¬bad → saw.queue.length < 32 → (∀ tail, saw.queue.getLast? = some tail → tail.sequence < e.sequence) →
        run =
          .next
            (State.replied { s.arrived with saws := s.saws.set j.toNat { saw with queue := saw.queue ++ [e] } } src seq .ok
              []))

/-- A PART_STATUS read of index 0 answers the 40 bytes of section 11.4, of the part's state as it stands before the reply (the
request under way counted in neither queue, log 38), and clears the notice overflow flag it reports; of any other index
BAD_INDEX. A COUNTERS read answers one counter of a group, or all of them for item 0, and with clear-on-read sets those it
answers to 0 and no other: the eight of a port (index 0 only), the seven of an installed carriage, the one of a saw. A group
above 3, an item the group does not hold, and a clear-on-read choice above 1 are refused BAD_FIELD, an index out of the
group's range BAD_INDEX. -/
def Obligations.StatusAndCountersRead : Prop :=
  (∀ (s : State) (src seq index : Byte), s.Listens src →
    (index ≠ 0 → exec (.partStatusRead src seq index) s = .next (s.answered src seq .badIndex)) ∧
    exec (.partStatusRead src seq 0) s =
        .next
          (State.replied { s.arrived with management := { s.management with overflow := false } } src seq .ok
            s.arrived.partBytes) ∧
      s.arrived.partBytes.length = 40) ∧
  (∀ s : State,
    let byte (n : Nat) : List Byte := [BitVec.ofNat 8 n]
    let bit (b : Bool) : Nat := if b then 1 else 0
    let entry (i : Nat) : List Byte :=
      match s.port.stops[i]? with
      | none => [0xFF, 0, 0]
      | some e => byte e.node ++ byte e.reason.code ++ byte e.origin.code
    s.partBytes =
      byte s.port.ownAddress ++ byte ((s.addressOf .controller).getD 255) ++ byte (bit s.inputs.emergency) ++
        byte (s.lineClock.toNat % 256) ++ byte (s.lineClock.toNat / 256 % 256) ++
        byte (s.lineClock.toNat / 65536 % 256) ++ byte (s.lineClock.toNat / 16777216) ++ [s.port.ownSeq] ++
        byte s.management.requests.length ++ byte s.management.replies.length ++ byte s.management.notices.length ++
        byte (bit s.management.overflow) ++ byte s.port.dForward.length ++ byte s.port.uForward.length ++
        byte s.port.stops.length ++ entry 0 ++ entry 1 ++ entry 2 ++ entry 3 ++ entry 4 ++ entry 5 ++ entry 6 ++
        entry 7 ++ byte (bit (s.port.receiverU == .inFrame) + 2 * bit (s.port.receiverD == .inFrame))) ∧
  ∀ (s : State) (src seq index group item clear : Byte), s.Listens src →
    let run := exec (.countersRead src seq index group item clear) s
    let counted (all : List Nat) (put : List Nat → State) : Prop :=
      (all.length < item.toNat ∨ 1 < clear.toNat → run = .next (s.answered src seq .badField)) ∧
      (item = 0 → clear = 0 → run = .next (s.arrived.replied src seq .ok (all.flatMap (leBytes 4)))) ∧
      (item = 0 → clear = 1 →
        run = .next ((put (List.replicate all.length 0)).replied src seq .ok (all.flatMap (leBytes 4)))) ∧
      ∀ i, item.toNat = i + 1 → i < all.length →
        (clear = 0 → run = .next (s.arrived.replied src seq .ok (leBytes 4 (all.getD i 0)))) ∧
        (clear = 1 → run = .next ((put (all.set i 0)).replied src seq .ok (leBytes 4 (all.getD i 0))))
    let port := s.arrived.port
    let u := port.countersU
    let d := port.countersD
    let eight (l : List Nat) : PortCounters :=
      ⟨l.getD 0 0, l.getD 1 0, l.getD 2 0, l.getD 3 0, l.getD 4 0, l.getD 5 0, l.getD 6 0, l.getD 7 0⟩
    (3 < group.toNat → run = .next (s.answered src seq .badField)) ∧
    (group = 0 ∨ group = 1 → index ≠ 0 → run = .next (s.answered src seq .badIndex)) ∧
    (group = 0 → index = 0 →
      counted [u.good, u.short, u.long, u.checkError, u.stray, u.overrun, u.misdirected, u.sent]
        fun l => { s.arrived with port := { port with countersU := eight l } }) ∧
    (group = 1 → index = 0 →
      counted [d.good, d.short, d.long, d.checkError, d.stray, d.overrun, d.misdirected, d.sent]
        fun l => { s.arrived with port := { port with countersD := eight l } }) ∧
    (group = 2 → s.carriage index.toNat = none → run = .next (s.answered src seq .badIndex)) ∧
    (group = 2 → ∀ c, s.carriage index.toNat = some c →
      let n := c.ctx.counters
      counted [n.admitted, n.clamped, n.held, n.refused, n.picks, n.rejects, n.places] fun l =>
        s.arrived.changed index.toNat fun c =>
          { c with
            ctx :=
              { c.ctx with
                counters :=
                  ⟨l.getD 0 0, l.getD 1 0, l.getD 2 0, l.getD 3 0, l.getD 4 0, l.getD 5 0, l.getD 6 0⟩ } }) ∧
    (group = 3 → s.saws[index.toNat]? = none → run = .next (s.answered src seq .badIndex)) ∧
    (group = 3 → ∀ saw, s.saws[index.toNat]? = some saw →
      counted [saw.placed] fun l =>
        { s.arrived with saws := s.saws.modify index.toNat fun saw => { saw with placed := l.getD 0 0 } })

/-! What every step keeps. -/

/-- The gap is kept by every step: adjacent carriages of which one is ACTIVE have their known reservations at least G apart,
and every carriage out of UNSEEN has a reservation, but for an EXCLUDED one, which is HALTED. -/
def Obligations.GapKeptByEveryStep : Prop :=
  ∀ s t : State, s.gapKept = true → step s = .next t → t.gapKept = true

/-- Every step keeps the carriages lawful, from a state that keeps its gap: at most four, no ACTIVE one with a fault flag, a
held move only in ACTIVE and NORMAL, and an unseen origin exactly in UNSEEN. -/
def Obligations.CarriagesLawfulAfterEveryStep : Prop :=
  ∀ s t : State, s.gapKept = true → s.lawful = true → step s = .next t → t.lawful = true

/-- No step overfills a queue or resizes a table: 8 frames in each forward queue, 4 requests, 4 replies, 16 notices, 32 entries
in each Feed Queue; 63 entries in the Node Map, 4 CARRIAGE and 4 HEAD records, 16 groups of CUP_LAYOUT, 8 fences, 24 bays and 6
saws. -/
def Obligations.QueuesKeepTheirRoom : Prop :=
  ∀ s t : State, s.roomKept = true → step s = .next t → t.roomKept = true

/-- Every step keeps the sequences of every Feed Queue strictly increasing from head to tail. -/
def Obligations.FeedQueuesStayInOrder : Prop :=
  ∀ s t : State, s.feedOrdered → step s = .next t → t.feedOrdered

/-- Every step keeps each role of the Node Map at one address at most and one of the nineteen, and each STOP entry for a
mapped drive, with one entry for a node at most; the STOP injection queue therefore never holds more than 8. -/
def Obligations.RolesAndStopsStaySingle : Prop :=
  ∀ s t : State, s.mapSingle → s.stopsSingle → step s = .next t →
    t.mapSingle ∧ t.stopsSingle ∧ t.port.stops.length ≤ 8
end

