-- ==== Sys2Proof/Laws/State.lean ====
section
/-! SUPPORT. What each update of one part of the state leaves: one lemma per update and field, true by definition, and
the same for a change of one carriage. -/

namespace Sys2Proof.Machine

/-! `withCarriages`. -/

@[simp] theorem State.withCarriages_lineClock (s : State) (cs : List Carriage) : (s.withCarriages cs).lineClock = s.lineClock := rfl
@[simp] theorem State.withCarriages_inputs (s : State) (cs : List Carriage) : (s.withCarriages cs).inputs = s.inputs := rfl
@[simp] theorem State.withCarriages_lamps (s : State) (cs : List Carriage) : (s.withCarriages cs).lamps = s.lamps := rfl
@[simp] theorem State.withCarriages_rail (s : State) (cs : List Carriage) : (s.withCarriages cs).rail = s.rail := rfl
@[simp] theorem State.withCarriages_carriageRecords (s : State) (cs : List Carriage) : (s.withCarriages cs).carriageRecords = s.carriageRecords := rfl
@[simp] theorem State.withCarriages_headRecords (s : State) (cs : List Carriage) : (s.withCarriages cs).headRecords = s.headRecords := rfl
@[simp] theorem State.withCarriages_cupLayout (s : State) (cs : List Carriage) : (s.withCarriages cs).cupLayout = s.cupLayout := rfl
@[simp] theorem State.withCarriages_carriages (s : State) (cs : List Carriage) : (s.withCarriages cs).carriages = cs := rfl
@[simp] theorem State.withCarriages_fences (s : State) (cs : List Carriage) : (s.withCarriages cs).fences = s.fences := rfl
@[simp] theorem State.withCarriages_stampCounter (s : State) (cs : List Carriage) : (s.withCarriages cs).stampCounter = s.stampCounter := rfl
@[simp] theorem State.withCarriages_bays (s : State) (cs : List Carriage) : (s.withCarriages cs).bays = s.bays := rfl
@[simp] theorem State.withCarriages_saws (s : State) (cs : List Carriage) : (s.withCarriages cs).saws = s.saws := rfl
@[simp] theorem State.withCarriages_port (s : State) (cs : List Carriage) : (s.withCarriages cs).port = s.port := rfl
@[simp] theorem State.withCarriages_management (s : State) (cs : List Carriage) : (s.withCarriages cs).management = s.management := rfl
@[simp] theorem State.withCarriages_reports (s : State) (cs : List Carriage) : (s.withCarriages cs).reports = s.reports := rfl
@[simp] theorem State.withCarriages_pending (s : State) (cs : List Carriage) : (s.withCarriages cs).pending = s.pending := rfl

/-! `withPort`. -/

@[simp] theorem State.withPort_lineClock (s : State) (p : PortUnit) : (s.withPort p).lineClock = s.lineClock := rfl
@[simp] theorem State.withPort_inputs (s : State) (p : PortUnit) : (s.withPort p).inputs = s.inputs := rfl
@[simp] theorem State.withPort_lamps (s : State) (p : PortUnit) : (s.withPort p).lamps = s.lamps := rfl
@[simp] theorem State.withPort_rail (s : State) (p : PortUnit) : (s.withPort p).rail = s.rail := rfl
@[simp] theorem State.withPort_carriageRecords (s : State) (p : PortUnit) : (s.withPort p).carriageRecords = s.carriageRecords := rfl
@[simp] theorem State.withPort_headRecords (s : State) (p : PortUnit) : (s.withPort p).headRecords = s.headRecords := rfl
@[simp] theorem State.withPort_cupLayout (s : State) (p : PortUnit) : (s.withPort p).cupLayout = s.cupLayout := rfl
@[simp] theorem State.withPort_carriages (s : State) (p : PortUnit) : (s.withPort p).carriages = s.carriages := rfl
@[simp] theorem State.withPort_fences (s : State) (p : PortUnit) : (s.withPort p).fences = s.fences := rfl
@[simp] theorem State.withPort_stampCounter (s : State) (p : PortUnit) : (s.withPort p).stampCounter = s.stampCounter := rfl
@[simp] theorem State.withPort_bays (s : State) (p : PortUnit) : (s.withPort p).bays = s.bays := rfl
@[simp] theorem State.withPort_saws (s : State) (p : PortUnit) : (s.withPort p).saws = s.saws := rfl
@[simp] theorem State.withPort_port (s : State) (p : PortUnit) : (s.withPort p).port = p := rfl
@[simp] theorem State.withPort_management (s : State) (p : PortUnit) : (s.withPort p).management = s.management := rfl
@[simp] theorem State.withPort_reports (s : State) (p : PortUnit) : (s.withPort p).reports = s.reports := rfl
@[simp] theorem State.withPort_pending (s : State) (p : PortUnit) : (s.withPort p).pending = s.pending := rfl

/-! `withManagement`. -/

@[simp] theorem State.withManagement_lineClock (s : State) (m : Management) : (s.withManagement m).lineClock = s.lineClock := rfl
@[simp] theorem State.withManagement_inputs (s : State) (m : Management) : (s.withManagement m).inputs = s.inputs := rfl
@[simp] theorem State.withManagement_lamps (s : State) (m : Management) : (s.withManagement m).lamps = s.lamps := rfl
@[simp] theorem State.withManagement_rail (s : State) (m : Management) : (s.withManagement m).rail = s.rail := rfl
@[simp] theorem State.withManagement_carriageRecords (s : State) (m : Management) : (s.withManagement m).carriageRecords = s.carriageRecords := rfl
@[simp] theorem State.withManagement_headRecords (s : State) (m : Management) : (s.withManagement m).headRecords = s.headRecords := rfl
@[simp] theorem State.withManagement_cupLayout (s : State) (m : Management) : (s.withManagement m).cupLayout = s.cupLayout := rfl
@[simp] theorem State.withManagement_carriages (s : State) (m : Management) : (s.withManagement m).carriages = s.carriages := rfl
@[simp] theorem State.withManagement_fences (s : State) (m : Management) : (s.withManagement m).fences = s.fences := rfl
@[simp] theorem State.withManagement_stampCounter (s : State) (m : Management) : (s.withManagement m).stampCounter = s.stampCounter := rfl
@[simp] theorem State.withManagement_bays (s : State) (m : Management) : (s.withManagement m).bays = s.bays := rfl
@[simp] theorem State.withManagement_saws (s : State) (m : Management) : (s.withManagement m).saws = s.saws := rfl
@[simp] theorem State.withManagement_port (s : State) (m : Management) : (s.withManagement m).port = s.port := rfl
@[simp] theorem State.withManagement_management (s : State) (m : Management) : (s.withManagement m).management = m := rfl
@[simp] theorem State.withManagement_reports (s : State) (m : Management) : (s.withManagement m).reports = s.reports := rfl
@[simp] theorem State.withManagement_pending (s : State) (m : Management) : (s.withManagement m).pending = s.pending := rfl

/-! `withReports`. -/

@[simp] theorem State.withReports_lineClock (s : State) (rs : List Report) : (s.withReports rs).lineClock = s.lineClock := rfl
@[simp] theorem State.withReports_inputs (s : State) (rs : List Report) : (s.withReports rs).inputs = s.inputs := rfl
@[simp] theorem State.withReports_lamps (s : State) (rs : List Report) : (s.withReports rs).lamps = s.lamps := rfl
@[simp] theorem State.withReports_rail (s : State) (rs : List Report) : (s.withReports rs).rail = s.rail := rfl
@[simp] theorem State.withReports_carriageRecords (s : State) (rs : List Report) : (s.withReports rs).carriageRecords = s.carriageRecords := rfl
@[simp] theorem State.withReports_headRecords (s : State) (rs : List Report) : (s.withReports rs).headRecords = s.headRecords := rfl
@[simp] theorem State.withReports_cupLayout (s : State) (rs : List Report) : (s.withReports rs).cupLayout = s.cupLayout := rfl
@[simp] theorem State.withReports_carriages (s : State) (rs : List Report) : (s.withReports rs).carriages = s.carriages := rfl
@[simp] theorem State.withReports_fences (s : State) (rs : List Report) : (s.withReports rs).fences = s.fences := rfl
@[simp] theorem State.withReports_stampCounter (s : State) (rs : List Report) : (s.withReports rs).stampCounter = s.stampCounter := rfl
@[simp] theorem State.withReports_bays (s : State) (rs : List Report) : (s.withReports rs).bays = s.bays := rfl
@[simp] theorem State.withReports_saws (s : State) (rs : List Report) : (s.withReports rs).saws = s.saws := rfl
@[simp] theorem State.withReports_port (s : State) (rs : List Report) : (s.withReports rs).port = s.port := rfl
@[simp] theorem State.withReports_management (s : State) (rs : List Report) : (s.withReports rs).management = s.management := rfl
@[simp] theorem State.withReports_reports (s : State) (rs : List Report) : (s.withReports rs).reports = rs := rfl
@[simp] theorem State.withReports_pending (s : State) (rs : List Report) : (s.withReports rs).pending = s.pending := rfl

/-! `withFences`. -/

@[simp] theorem State.withFences_lineClock (s : State) (fs : List Fence) : (s.withFences fs).lineClock = s.lineClock := rfl
@[simp] theorem State.withFences_inputs (s : State) (fs : List Fence) : (s.withFences fs).inputs = s.inputs := rfl
@[simp] theorem State.withFences_lamps (s : State) (fs : List Fence) : (s.withFences fs).lamps = s.lamps := rfl
@[simp] theorem State.withFences_rail (s : State) (fs : List Fence) : (s.withFences fs).rail = s.rail := rfl
@[simp] theorem State.withFences_carriageRecords (s : State) (fs : List Fence) : (s.withFences fs).carriageRecords = s.carriageRecords := rfl
@[simp] theorem State.withFences_headRecords (s : State) (fs : List Fence) : (s.withFences fs).headRecords = s.headRecords := rfl
@[simp] theorem State.withFences_cupLayout (s : State) (fs : List Fence) : (s.withFences fs).cupLayout = s.cupLayout := rfl
@[simp] theorem State.withFences_carriages (s : State) (fs : List Fence) : (s.withFences fs).carriages = s.carriages := rfl
@[simp] theorem State.withFences_fences (s : State) (fs : List Fence) : (s.withFences fs).fences = fs := rfl
@[simp] theorem State.withFences_stampCounter (s : State) (fs : List Fence) : (s.withFences fs).stampCounter = s.stampCounter := rfl
@[simp] theorem State.withFences_bays (s : State) (fs : List Fence) : (s.withFences fs).bays = s.bays := rfl
@[simp] theorem State.withFences_saws (s : State) (fs : List Fence) : (s.withFences fs).saws = s.saws := rfl
@[simp] theorem State.withFences_port (s : State) (fs : List Fence) : (s.withFences fs).port = s.port := rfl
@[simp] theorem State.withFences_management (s : State) (fs : List Fence) : (s.withFences fs).management = s.management := rfl
@[simp] theorem State.withFences_reports (s : State) (fs : List Fence) : (s.withFences fs).reports = s.reports := rfl
@[simp] theorem State.withFences_pending (s : State) (fs : List Fence) : (s.withFences fs).pending = s.pending := rfl

/-! `withBays`. -/

@[simp] theorem State.withBays_lineClock (s : State) (bs : List Bay) : (s.withBays bs).lineClock = s.lineClock := rfl
@[simp] theorem State.withBays_inputs (s : State) (bs : List Bay) : (s.withBays bs).inputs = s.inputs := rfl
@[simp] theorem State.withBays_lamps (s : State) (bs : List Bay) : (s.withBays bs).lamps = s.lamps := rfl
@[simp] theorem State.withBays_rail (s : State) (bs : List Bay) : (s.withBays bs).rail = s.rail := rfl
@[simp] theorem State.withBays_carriageRecords (s : State) (bs : List Bay) : (s.withBays bs).carriageRecords = s.carriageRecords := rfl
@[simp] theorem State.withBays_headRecords (s : State) (bs : List Bay) : (s.withBays bs).headRecords = s.headRecords := rfl
@[simp] theorem State.withBays_cupLayout (s : State) (bs : List Bay) : (s.withBays bs).cupLayout = s.cupLayout := rfl
@[simp] theorem State.withBays_carriages (s : State) (bs : List Bay) : (s.withBays bs).carriages = s.carriages := rfl
@[simp] theorem State.withBays_fences (s : State) (bs : List Bay) : (s.withBays bs).fences = s.fences := rfl
@[simp] theorem State.withBays_stampCounter (s : State) (bs : List Bay) : (s.withBays bs).stampCounter = s.stampCounter := rfl
@[simp] theorem State.withBays_bays (s : State) (bs : List Bay) : (s.withBays bs).bays = bs := rfl
@[simp] theorem State.withBays_saws (s : State) (bs : List Bay) : (s.withBays bs).saws = s.saws := rfl
@[simp] theorem State.withBays_port (s : State) (bs : List Bay) : (s.withBays bs).port = s.port := rfl
@[simp] theorem State.withBays_management (s : State) (bs : List Bay) : (s.withBays bs).management = s.management := rfl
@[simp] theorem State.withBays_reports (s : State) (bs : List Bay) : (s.withBays bs).reports = s.reports := rfl
@[simp] theorem State.withBays_pending (s : State) (bs : List Bay) : (s.withBays bs).pending = s.pending := rfl

/-! `withSaws`. -/

@[simp] theorem State.withSaws_lineClock (s : State) (ss : List Saw) : (s.withSaws ss).lineClock = s.lineClock := rfl
@[simp] theorem State.withSaws_inputs (s : State) (ss : List Saw) : (s.withSaws ss).inputs = s.inputs := rfl
@[simp] theorem State.withSaws_lamps (s : State) (ss : List Saw) : (s.withSaws ss).lamps = s.lamps := rfl
@[simp] theorem State.withSaws_rail (s : State) (ss : List Saw) : (s.withSaws ss).rail = s.rail := rfl
@[simp] theorem State.withSaws_carriageRecords (s : State) (ss : List Saw) : (s.withSaws ss).carriageRecords = s.carriageRecords := rfl
@[simp] theorem State.withSaws_headRecords (s : State) (ss : List Saw) : (s.withSaws ss).headRecords = s.headRecords := rfl
@[simp] theorem State.withSaws_cupLayout (s : State) (ss : List Saw) : (s.withSaws ss).cupLayout = s.cupLayout := rfl
@[simp] theorem State.withSaws_carriages (s : State) (ss : List Saw) : (s.withSaws ss).carriages = s.carriages := rfl
@[simp] theorem State.withSaws_fences (s : State) (ss : List Saw) : (s.withSaws ss).fences = s.fences := rfl
@[simp] theorem State.withSaws_stampCounter (s : State) (ss : List Saw) : (s.withSaws ss).stampCounter = s.stampCounter := rfl
@[simp] theorem State.withSaws_bays (s : State) (ss : List Saw) : (s.withSaws ss).bays = s.bays := rfl
@[simp] theorem State.withSaws_saws (s : State) (ss : List Saw) : (s.withSaws ss).saws = ss := rfl
@[simp] theorem State.withSaws_port (s : State) (ss : List Saw) : (s.withSaws ss).port = s.port := rfl
@[simp] theorem State.withSaws_management (s : State) (ss : List Saw) : (s.withSaws ss).management = s.management := rfl
@[simp] theorem State.withSaws_reports (s : State) (ss : List Saw) : (s.withSaws ss).reports = s.reports := rfl
@[simp] theorem State.withSaws_pending (s : State) (ss : List Saw) : (s.withSaws ss).pending = s.pending := rfl

/-! `withInputs`. -/

@[simp] theorem State.withInputs_lineClock (s : State) (i : Inputs) : (s.withInputs i).lineClock = s.lineClock := rfl
@[simp] theorem State.withInputs_inputs (s : State) (i : Inputs) : (s.withInputs i).inputs = i := rfl
@[simp] theorem State.withInputs_lamps (s : State) (i : Inputs) : (s.withInputs i).lamps = s.lamps := rfl
@[simp] theorem State.withInputs_rail (s : State) (i : Inputs) : (s.withInputs i).rail = s.rail := rfl
@[simp] theorem State.withInputs_carriageRecords (s : State) (i : Inputs) : (s.withInputs i).carriageRecords = s.carriageRecords := rfl
@[simp] theorem State.withInputs_headRecords (s : State) (i : Inputs) : (s.withInputs i).headRecords = s.headRecords := rfl
@[simp] theorem State.withInputs_cupLayout (s : State) (i : Inputs) : (s.withInputs i).cupLayout = s.cupLayout := rfl
@[simp] theorem State.withInputs_carriages (s : State) (i : Inputs) : (s.withInputs i).carriages = s.carriages := rfl
@[simp] theorem State.withInputs_fences (s : State) (i : Inputs) : (s.withInputs i).fences = s.fences := rfl
@[simp] theorem State.withInputs_stampCounter (s : State) (i : Inputs) : (s.withInputs i).stampCounter = s.stampCounter := rfl
@[simp] theorem State.withInputs_bays (s : State) (i : Inputs) : (s.withInputs i).bays = s.bays := rfl
@[simp] theorem State.withInputs_saws (s : State) (i : Inputs) : (s.withInputs i).saws = s.saws := rfl
@[simp] theorem State.withInputs_port (s : State) (i : Inputs) : (s.withInputs i).port = s.port := rfl
@[simp] theorem State.withInputs_management (s : State) (i : Inputs) : (s.withInputs i).management = s.management := rfl
@[simp] theorem State.withInputs_reports (s : State) (i : Inputs) : (s.withInputs i).reports = s.reports := rfl
@[simp] theorem State.withInputs_pending (s : State) (i : Inputs) : (s.withInputs i).pending = s.pending := rfl

/-! `withLamps`. -/

@[simp] theorem State.withLamps_lineClock (s : State) (l : LampUnit) : (s.withLamps l).lineClock = s.lineClock := rfl
@[simp] theorem State.withLamps_inputs (s : State) (l : LampUnit) : (s.withLamps l).inputs = s.inputs := rfl
@[simp] theorem State.withLamps_lamps (s : State) (l : LampUnit) : (s.withLamps l).lamps = l := rfl
@[simp] theorem State.withLamps_rail (s : State) (l : LampUnit) : (s.withLamps l).rail = s.rail := rfl
@[simp] theorem State.withLamps_carriageRecords (s : State) (l : LampUnit) : (s.withLamps l).carriageRecords = s.carriageRecords := rfl
@[simp] theorem State.withLamps_headRecords (s : State) (l : LampUnit) : (s.withLamps l).headRecords = s.headRecords := rfl
@[simp] theorem State.withLamps_cupLayout (s : State) (l : LampUnit) : (s.withLamps l).cupLayout = s.cupLayout := rfl
@[simp] theorem State.withLamps_carriages (s : State) (l : LampUnit) : (s.withLamps l).carriages = s.carriages := rfl
@[simp] theorem State.withLamps_fences (s : State) (l : LampUnit) : (s.withLamps l).fences = s.fences := rfl
@[simp] theorem State.withLamps_stampCounter (s : State) (l : LampUnit) : (s.withLamps l).stampCounter = s.stampCounter := rfl
@[simp] theorem State.withLamps_bays (s : State) (l : LampUnit) : (s.withLamps l).bays = s.bays := rfl
@[simp] theorem State.withLamps_saws (s : State) (l : LampUnit) : (s.withLamps l).saws = s.saws := rfl
@[simp] theorem State.withLamps_port (s : State) (l : LampUnit) : (s.withLamps l).port = s.port := rfl
@[simp] theorem State.withLamps_management (s : State) (l : LampUnit) : (s.withLamps l).management = s.management := rfl
@[simp] theorem State.withLamps_reports (s : State) (l : LampUnit) : (s.withLamps l).reports = s.reports := rfl
@[simp] theorem State.withLamps_pending (s : State) (l : LampUnit) : (s.withLamps l).pending = s.pending := rfl

/-! `withStamps`. -/

@[simp] theorem State.withStamps_lineClock (s : State) (c : Clock) : (s.withStamps c).lineClock = s.lineClock := rfl
@[simp] theorem State.withStamps_inputs (s : State) (c : Clock) : (s.withStamps c).inputs = s.inputs := rfl
@[simp] theorem State.withStamps_lamps (s : State) (c : Clock) : (s.withStamps c).lamps = s.lamps := rfl
@[simp] theorem State.withStamps_rail (s : State) (c : Clock) : (s.withStamps c).rail = s.rail := rfl
@[simp] theorem State.withStamps_carriageRecords (s : State) (c : Clock) : (s.withStamps c).carriageRecords = s.carriageRecords := rfl
@[simp] theorem State.withStamps_headRecords (s : State) (c : Clock) : (s.withStamps c).headRecords = s.headRecords := rfl
@[simp] theorem State.withStamps_cupLayout (s : State) (c : Clock) : (s.withStamps c).cupLayout = s.cupLayout := rfl
@[simp] theorem State.withStamps_carriages (s : State) (c : Clock) : (s.withStamps c).carriages = s.carriages := rfl
@[simp] theorem State.withStamps_fences (s : State) (c : Clock) : (s.withStamps c).fences = s.fences := rfl
@[simp] theorem State.withStamps_stampCounter (s : State) (c : Clock) : (s.withStamps c).stampCounter = c := rfl
@[simp] theorem State.withStamps_bays (s : State) (c : Clock) : (s.withStamps c).bays = s.bays := rfl
@[simp] theorem State.withStamps_saws (s : State) (c : Clock) : (s.withStamps c).saws = s.saws := rfl
@[simp] theorem State.withStamps_port (s : State) (c : Clock) : (s.withStamps c).port = s.port := rfl
@[simp] theorem State.withStamps_management (s : State) (c : Clock) : (s.withStamps c).management = s.management := rfl
@[simp] theorem State.withStamps_reports (s : State) (c : Clock) : (s.withStamps c).reports = s.reports := rfl
@[simp] theorem State.withStamps_pending (s : State) (c : Clock) : (s.withStamps c).pending = s.pending := rfl

/-! `modCarriage`, `modContext`, `countFor` and `report`. -/

@[simp] theorem State.modCarriage_lineClock (s : State) (k : Nat) (g : Carriage → Carriage) :
    (s.modCarriage k g).lineClock = s.lineClock := rfl
@[simp] theorem State.modCarriage_inputs (s : State) (k : Nat) (g : Carriage → Carriage) :
    (s.modCarriage k g).inputs = s.inputs := rfl
@[simp] theorem State.modCarriage_lamps (s : State) (k : Nat) (g : Carriage → Carriage) :
    (s.modCarriage k g).lamps = s.lamps := rfl
@[simp] theorem State.modCarriage_rail (s : State) (k : Nat) (g : Carriage → Carriage) :
    (s.modCarriage k g).rail = s.rail := rfl
@[simp] theorem State.modCarriage_carriageRecords (s : State) (k : Nat) (g : Carriage → Carriage) :
    (s.modCarriage k g).carriageRecords = s.carriageRecords := rfl
@[simp] theorem State.modCarriage_headRecords (s : State) (k : Nat) (g : Carriage → Carriage) :
    (s.modCarriage k g).headRecords = s.headRecords := rfl
@[simp] theorem State.modCarriage_cupLayout (s : State) (k : Nat) (g : Carriage → Carriage) :
    (s.modCarriage k g).cupLayout = s.cupLayout := rfl
@[simp] theorem State.modCarriage_fences (s : State) (k : Nat) (g : Carriage → Carriage) :
    (s.modCarriage k g).fences = s.fences := rfl
@[simp] theorem State.modCarriage_stampCounter (s : State) (k : Nat) (g : Carriage → Carriage) :
    (s.modCarriage k g).stampCounter = s.stampCounter := rfl
@[simp] theorem State.modCarriage_bays (s : State) (k : Nat) (g : Carriage → Carriage) :
    (s.modCarriage k g).bays = s.bays := rfl
@[simp] theorem State.modCarriage_saws (s : State) (k : Nat) (g : Carriage → Carriage) :
    (s.modCarriage k g).saws = s.saws := rfl
@[simp] theorem State.modCarriage_port (s : State) (k : Nat) (g : Carriage → Carriage) :
    (s.modCarriage k g).port = s.port := rfl
@[simp] theorem State.modCarriage_management (s : State) (k : Nat) (g : Carriage → Carriage) :
    (s.modCarriage k g).management = s.management := rfl
@[simp] theorem State.modCarriage_reports (s : State) (k : Nat) (g : Carriage → Carriage) :
    (s.modCarriage k g).reports = s.reports := rfl
@[simp] theorem State.modCarriage_pending (s : State) (k : Nat) (g : Carriage → Carriage) :
    (s.modCarriage k g).pending = s.pending := rfl
@[simp] theorem State.modCarriage_carriages (s : State) (k : Nat) (g : Carriage → Carriage) :
    (s.modCarriage k g).carriages = s.carriages.modify k g := rfl
@[simp] theorem State.modContext_lineClock (s : State) (k : Nat) (g : Context → Context) :
    (s.modContext k g).lineClock = s.lineClock := rfl
@[simp] theorem State.modContext_inputs (s : State) (k : Nat) (g : Context → Context) :
    (s.modContext k g).inputs = s.inputs := rfl
@[simp] theorem State.modContext_lamps (s : State) (k : Nat) (g : Context → Context) :
    (s.modContext k g).lamps = s.lamps := rfl
@[simp] theorem State.modContext_rail (s : State) (k : Nat) (g : Context → Context) :
    (s.modContext k g).rail = s.rail := rfl
@[simp] theorem State.modContext_carriageRecords (s : State) (k : Nat) (g : Context → Context) :
    (s.modContext k g).carriageRecords = s.carriageRecords := rfl
@[simp] theorem State.modContext_headRecords (s : State) (k : Nat) (g : Context → Context) :
    (s.modContext k g).headRecords = s.headRecords := rfl
@[simp] theorem State.modContext_cupLayout (s : State) (k : Nat) (g : Context → Context) :
    (s.modContext k g).cupLayout = s.cupLayout := rfl
@[simp] theorem State.modContext_fences (s : State) (k : Nat) (g : Context → Context) :
    (s.modContext k g).fences = s.fences := rfl
@[simp] theorem State.modContext_stampCounter (s : State) (k : Nat) (g : Context → Context) :
    (s.modContext k g).stampCounter = s.stampCounter := rfl
@[simp] theorem State.modContext_bays (s : State) (k : Nat) (g : Context → Context) :
    (s.modContext k g).bays = s.bays := rfl
@[simp] theorem State.modContext_saws (s : State) (k : Nat) (g : Context → Context) :
    (s.modContext k g).saws = s.saws := rfl
@[simp] theorem State.modContext_port (s : State) (k : Nat) (g : Context → Context) :
    (s.modContext k g).port = s.port := rfl
@[simp] theorem State.modContext_management (s : State) (k : Nat) (g : Context → Context) :
    (s.modContext k g).management = s.management := rfl
@[simp] theorem State.modContext_reports (s : State) (k : Nat) (g : Context → Context) :
    (s.modContext k g).reports = s.reports := rfl
@[simp] theorem State.modContext_pending (s : State) (k : Nat) (g : Context → Context) :
    (s.modContext k g).pending = s.pending := rfl
@[simp] theorem State.countFor_lineClock (s : State) (k : Nat) (g : CarriageCounters → CarriageCounters) :
    (s.countFor k g).lineClock = s.lineClock := rfl
@[simp] theorem State.countFor_inputs (s : State) (k : Nat) (g : CarriageCounters → CarriageCounters) :
    (s.countFor k g).inputs = s.inputs := rfl
@[simp] theorem State.countFor_lamps (s : State) (k : Nat) (g : CarriageCounters → CarriageCounters) :
    (s.countFor k g).lamps = s.lamps := rfl
@[simp] theorem State.countFor_rail (s : State) (k : Nat) (g : CarriageCounters → CarriageCounters) :
    (s.countFor k g).rail = s.rail := rfl
@[simp] theorem State.countFor_carriageRecords (s : State) (k : Nat) (g : CarriageCounters → CarriageCounters) :
    (s.countFor k g).carriageRecords = s.carriageRecords := rfl
@[simp] theorem State.countFor_headRecords (s : State) (k : Nat) (g : CarriageCounters → CarriageCounters) :
    (s.countFor k g).headRecords = s.headRecords := rfl
@[simp] theorem State.countFor_cupLayout (s : State) (k : Nat) (g : CarriageCounters → CarriageCounters) :
    (s.countFor k g).cupLayout = s.cupLayout := rfl
@[simp] theorem State.countFor_fences (s : State) (k : Nat) (g : CarriageCounters → CarriageCounters) :
    (s.countFor k g).fences = s.fences := rfl
@[simp] theorem State.countFor_stampCounter (s : State) (k : Nat) (g : CarriageCounters → CarriageCounters) :
    (s.countFor k g).stampCounter = s.stampCounter := rfl
@[simp] theorem State.countFor_bays (s : State) (k : Nat) (g : CarriageCounters → CarriageCounters) :
    (s.countFor k g).bays = s.bays := rfl
@[simp] theorem State.countFor_saws (s : State) (k : Nat) (g : CarriageCounters → CarriageCounters) :
    (s.countFor k g).saws = s.saws := rfl
@[simp] theorem State.countFor_port (s : State) (k : Nat) (g : CarriageCounters → CarriageCounters) :
    (s.countFor k g).port = s.port := rfl
@[simp] theorem State.countFor_management (s : State) (k : Nat) (g : CarriageCounters → CarriageCounters) :
    (s.countFor k g).management = s.management := rfl
@[simp] theorem State.countFor_reports (s : State) (k : Nat) (g : CarriageCounters → CarriageCounters) :
    (s.countFor k g).reports = s.reports := rfl
@[simp] theorem State.countFor_pending (s : State) (k : Nat) (g : CarriageCounters → CarriageCounters) :
    (s.countFor k g).pending = s.pending := rfl
@[simp] theorem State.report_lineClock (s : State) (r : Report) : (s.report r).lineClock = s.lineClock := rfl
@[simp] theorem State.report_inputs (s : State) (r : Report) : (s.report r).inputs = s.inputs := rfl
@[simp] theorem State.report_lamps (s : State) (r : Report) : (s.report r).lamps = s.lamps := rfl
@[simp] theorem State.report_rail (s : State) (r : Report) : (s.report r).rail = s.rail := rfl
@[simp] theorem State.report_carriageRecords (s : State) (r : Report) : (s.report r).carriageRecords = s.carriageRecords := rfl
@[simp] theorem State.report_headRecords (s : State) (r : Report) : (s.report r).headRecords = s.headRecords := rfl
@[simp] theorem State.report_cupLayout (s : State) (r : Report) : (s.report r).cupLayout = s.cupLayout := rfl
@[simp] theorem State.report_carriages (s : State) (r : Report) : (s.report r).carriages = s.carriages := rfl
@[simp] theorem State.report_fences (s : State) (r : Report) : (s.report r).fences = s.fences := rfl
@[simp] theorem State.report_stampCounter (s : State) (r : Report) : (s.report r).stampCounter = s.stampCounter := rfl
@[simp] theorem State.report_bays (s : State) (r : Report) : (s.report r).bays = s.bays := rfl
@[simp] theorem State.report_saws (s : State) (r : Report) : (s.report r).saws = s.saws := rfl
@[simp] theorem State.report_port (s : State) (r : Report) : (s.report r).port = s.port := rfl
@[simp] theorem State.report_management (s : State) (r : Report) : (s.report r).management = s.management := rfl
@[simp] theorem State.report_reports (s : State) (r : Report) : (s.report r).reports = s.reports ++ [r] := rfl
@[simp] theorem State.report_pending (s : State) (r : Report) : (s.report r).pending = s.pending := rfl

/-! Reading a carriage after a change of one. -/

/-- Carriage `k` after a change of carriage `k`. -/
@[simp] theorem State.carriage_modCarriage_self (s : State) (k : Nat) (g : Carriage → Carriage) :
    (s.modCarriage k g).carriage k = (s.carriage k).map g := by
  simp [State.carriage]

/-- Another carriage after a change of carriage `k`. -/
theorem State.carriage_modCarriage_ne (s : State) {j k : Nat} (h : k ≠ j) (g : Carriage → Carriage) :
    (s.modCarriage k g).carriage j = s.carriage j := by
  simp [State.carriage, h]

/-- The number of carriages is not changed. -/
@[simp] theorem State.modCarriage_length (s : State) (k : Nat) (g : Carriage → Carriage) :
    (s.modCarriage k g).carriages.length = s.carriages.length := by
  simp

/-- A change of a context is a change of its carriage. -/
@[simp] theorem State.carriage_modContext_self (s : State) (k : Nat) (g : Context → Context) :
    (s.modContext k g).carriage k = (s.carriage k).map fun c => { c with ctx := g c.ctx } :=
  s.carriage_modCarriage_self k _

/-- Another carriage after a change of a context. -/
theorem State.carriage_modContext_ne (s : State) {j k : Nat} (h : k ≠ j) (g : Context → Context) :
    (s.modContext k g).carriage j = s.carriage j :=
  s.carriage_modCarriage_ne h _

end Sys2Proof.Machine
end

