-- ==== Sys2Proof/Laws/Ops.lean ====
section
/-! SUPPORT. What each shared operation does, said once: a held move's end, a STOP entry, the withdrawal of frames, a fault
flag, a halt by run state, a reservation's change, the test of a fence, and the placing of a frame. -/

namespace Sys2Proof.Machine

/-! The carriage that an operation names. -/

theorem runState_eq {s : State} {k : Nat} {c : Carriage} (h : s.carriage k = some c) :
    s.runState k = some c.ctx.runState := by
  simp [State.runState, h]

/-- A carriage changed in place is the changed carriage. -/
theorem modCarriage_same {s : State} {k : Nat} {c : Carriage} (h : s.carriage k = some c) (g : Carriage → Carriage) :
    (s.modCarriage k g).carriage k = some (g c) := by
  simp only [State.carriage] at h ⊢
  simp [State.modCarriage, h]

/-- A change of a carriage that is not installed changes nothing. -/
theorem modCarriage_none {s : State} {k : Nat} (h : s.carriage k = none) (g : Carriage → Carriage) :
    s.modCarriage k g = s := by
  have hk : s.carriages.length ≤ k := List.getElem?_eq_none_iff.mp h
  simp [State.modCarriage, State.withCarriages, List.modify_eq_self hk]

/-! Held moves (R81). -/

/-- An EMPTY slot has nothing to end. -/
theorem endHeld_empty {s : State} {k : Nat} (h : (s.carriage k).bind (·.slot) = none) (cause : Cause) (detail : Detail) :
    endHeld s k cause detail = s := by
  simp [endHeld, h]

/-- A held move leaves its slot with a HOLD_END notice. -/
theorem endHeld_held {s : State} {k : Nat} {m : HeldMove} (h : (s.carriage k).bind (·.slot) = some m) (cause : Cause)
    (detail : Detail) :
    endHeld s k cause detail =
      hand (s.modCarriage k fun c => { c with slot := none }) .holdEnd (some k) (.tag m.tag) cause detail := by
  simp [endHeld, h]

/-! Forward queue and STOP entries (R126, R147). -/

/-- A frame is placed at the tail exactly while the D-forward queue holds fewer than 8. -/
theorem placeDown_eq (s : State) (f : Frame) :
    placeDown s f =
      if s.port.dForward.length < 8 then some (s.withPort { s.port with dForward := s.port.dForward ++ [f] })
      else none := rfl

/-- A node that has an entry keeps it as it is. -/
theorem enterStop_merged {s : State} {node : Nat} (h : ∃ e ∈ s.port.stops, e.node = node) (reason : StopReason) :
    enterStop s node reason = s := by
  obtain ⟨e, he, hn⟩ := h
  exact if_pos (List.any_eq_true.mpr ⟨e, he, by simp [hn]⟩)

/-- A node without an entry gets one of origin PART, with the next own sequence value. -/
theorem enterStop_made {s : State} {node : Nat} (h : ∀ e ∈ s.port.stops, e.node ≠ node) (reason : StopReason) :
    enterStop s node reason =
      s.withPort
        { s.port with
          stops := s.port.stops ++ [⟨node, reason, .part, BitVec.ofNat 8 s.port.ownAddress, s.port.ownSeq⟩]
          ownSeq := s.port.ownSeq + 1 } := by
  have : s.port.stops.any (·.node == node) = false := by
    simpa [List.any_eq_false] using h
  simp [enterStop, this, takeSeq, State.withPort]

/-- A report of room stands for the moves that wait for room, and none is made where none waits; nothing else changes. -/
theorem reportRoom_eq (s : State) :
    reportRoom s =
      { s with
        port := { s.port with roomReports := if s.someWaits then s.port.roomReports + 1 else s.port.roomReports } } := by
  unfold reportRoom
  split <;> rfl

/-- Some held move waits for room exactly where a carriage holds one that is marked. -/
theorem someWaits_iff (s : State) :
    s.someWaits = true ↔ ∃ c ∈ s.carriages, ∃ h, c.slot = some h ∧ h.waitingForRoom = true := by
  simp [State.someWaits, List.any_eq_true, Option.any_eq_true]

/-- No waiting MOVE frame for the node, nothing withdrawn. -/
theorem withdrawMoves_none {s : State} {node : Nat} (h : ∀ f ∈ s.port.dForward, f.isMoveTo node = false) :
    withdrawMoves s node = s := by
  have : (s.port.dForward.filter fun f => !f.isMoveTo node) = s.port.dForward := by
    rw [List.filter_eq_self]
    intro f hf
    simp [h f hf]
  simp [withdrawMoves, this]

/-- A waiting MOVE frame for the node leaves the queue with every other such frame, and the room is reported. -/
theorem withdrawMoves_some {s : State} {node : Nat} (h : ∃ f ∈ s.port.dForward, f.isMoveTo node = true) :
    withdrawMoves s node =
      reportRoom (s.withPort { s.port with dForward := s.port.dForward.filter fun f => !f.isMoveTo node }) := by
  have : (s.port.dForward.filter fun f => !f.isMoveTo node).length < s.port.dForward.length := by
    obtain ⟨f, hf, hm⟩ := h
    exact List.length_filter_lt_length_iff_exists.mpr ⟨f, hf, by simp [hm]⟩
  simp only [withdrawMoves, if_pos this]

/-! Fault flags (R129). -/

/-- A flag that is set already is set again without a notice. -/
theorem raiseFlag_set {s : State} {k : Nat} {c : Carriage} {f : Flag} (hc : s.carriage k = some c)
    (h : c.ctx.flags.has f = true) : raiseFlag s k f = s := by
  simp [raiseFlag, hc, h]

/-- A flag that was clear is set, with its FAULT notice. -/
theorem raiseFlag_clear {s : State} {k : Nat} {c : Carriage} {f : Flag} (hc : s.carriage k = some c)
    (h : c.ctx.flags.has f = false) :
    raiseFlag s k f =
      hand (s.modContext k fun x => { x with flags := x.flags.add f }) .fault (some k) .absent f.cause .absent := by
  simp [raiseFlag, hc, h]

/-! Halts (R18), without a flag. -/

/-- An ACTIVE carriage: its held move ends, it enters STOPPING, both drives are stopped, and the notice reports it. -/
theorem haltCarriage_active {s : State} {k : Nat} (h : s.runState k = some .active) (reason : StopReason) :
    haltCarriage s k reason none =
      handStateChange (requestStops (enterStopping (endHeld s k reason.endCause .absent) k) k reason) k .stopping := by
  simp [haltCarriage, h]

/-- A carriage that is not installed, or LOST, is left alone. -/
theorem haltCarriage_idle {s : State} {k : Nat} (h : s.runState k = none ∨ s.runState k = some .lost)
    (reason : StopReason) : haltCarriage s k reason none = s := by
  rcases h with h | h <;> simp [haltCarriage, h]

/-- In every other run state both drives are stopped, and nothing else is done. -/
theorem haltCarriage_still {s : State} {k : Nat} {r : RunState} (h : s.runState k = some r) (ha : r ≠ .active)
    (hl : r ≠ .lost) (reason : StopReason) : haltCarriage s k reason none = requestStops s k reason := by
  cases r <;> simp_all [haltCarriage]

/-- A halt with a flag is the halt without it, after the flag. -/
theorem haltCarriage_flag (s : State) (k : Nat) (reason : StopReason) (f : Flag) :
    haltCarriage s k reason (some f) = haltCarriage (raiseFlag s k f) k reason none := rfl

/-! Fences (R84) and reservations (R43). -/

/-- A fence that is not PENDING, or not there, is not tested. -/
theorem testFence_other {s : State} {i : Nat} (h : ∀ f, s.fences[i]? = some f → f.state ≠ .pending) :
    testFence s i = s := by
  unfold testFence
  split
  · rfl
  · next f hf => exact if_neg fun hc => h f hf hc.1

/-- A PENDING fence that a known reservation intersects stays PENDING. -/
theorem testFence_held {s : State} {i : Nat} {f : Fence} (hf : s.fences[i]? = some f) (h : s.fenceHeld f = true) :
    testFence s i = s := by
  simp [testFence, hf, h]

/-- A PENDING fence clear of every known reservation becomes ON, with its notice. -/
theorem testFence_clear {s : State} {i : Nat} {f : Fence} (hf : s.fences[i]? = some f) (hp : f.state = .pending)
    (h : s.fenceHeld f = false) :
    testFence s i =
      hand (s.withFences (s.fences.set i { f with state := .on })) .fence (some i) .absent .on .absent := by
  simp [testFence, hf, hp, h]

/-- With no fence PENDING, the test of the fences changes nothing. -/
theorem testFences_none {s : State} (h : ∀ f ∈ s.fences, f.state ≠ .pending) : testFences s = s := by
  unfold testFences
  generalize List.range 8 = l
  induction l with
  | nil => rfl
  | cons i l ih =>
    rw [List.foldl_cons, testFence_other fun f hf => h f (List.mem_of_getElem? hf), ih]

/-- A reservation changed: stored whole, its reports made, then the fences tested. -/
theorem setReservation_eq {s : State} {k : Nat} {c : Carriage} (h : s.carriage k = some c) (r : Option Reservation) :
    setReservation s k r =
      testFences
        ((s.modCarriage k fun x => { x with reservation := r }).withReports
          (s.reports ++ reservationReports k c.reservation r)) := by
  simp [setReservation, h]

end Sys2Proof.Machine
end

