-- ==== Sys2Proof/Laws/Site.lean ====
section
/-! SUPPORT. What the blocks' operations leave alone. `State.site` gathers what only the Port Unit's reception, the table
writes, the resets and time change; each shared operation keeps it. `State.anchor` gathers what a management request
leaves, whatever it does. -/

namespace Sys2Proof.Machine

/-- What no management request changes but by its own arrival and reply. -/
structure Anchor where
  lineClock : Clock
  inputs : Inputs
  pending : List Instr
  requests : List Frame
  replies : List Reply
  ownAddress : Nat
  receiverU : Receiver
  receiverD : Receiver
  transmitterU : Transmitter

/-- The anchor of a state. -/
def State.anchor (s : State) : Anchor :=
  { lineClock := s.lineClock
    inputs := s.inputs
    pending := s.pending
    requests := s.management.requests
    replies := s.management.replies
    ownAddress := s.port.ownAddress
    receiverU := s.port.receiverU
    receiverD := s.port.receiverD
    transmitterU := s.port.transmitterU }

/-- What the blocks' shared operations leave alone. -/
structure Site where
  anchor : Anchor
  lamps : LampUnit
  rail : Option RailRecord
  carriageRecords : List (Option CarriageRecord)
  headRecords : List (Option HeadRecord)
  cupLayout : List (Option (List Cup))
  nodeMap : List (Option Role)
  uForward : List Frame
  countersU : PortCounters
  countersD : PortCounters
  transmitterD : Transmitter
  installed : Nat

/-- The site of a state. -/
def State.site (s : State) : Site :=
  { anchor := s.anchor
    lamps := s.lamps
    rail := s.rail
    carriageRecords := s.carriageRecords
    headRecords := s.headRecords
    cupLayout := s.cupLayout
    nodeMap := s.port.nodeMap
    uForward := s.port.uForward
    countersU := s.port.countersU
    countersD := s.port.countersD
    transmitterD := s.port.transmitterD
    installed := s.carriages.length }

theorem State.anchor_of_site {s t : State} (h : t.site = s.site) : t.anchor = s.anchor := congrArg Site.anchor h

/-- Operations folded over a list keep the site if each does. -/
theorem foldl_site {α : Type} (f : State → α → State) (hf : ∀ s a, (f s a).site = s.site) (l : List α) (s : State) :
    (l.foldl f s).site = s.site := by
  induction l generalizing s with
  | nil => rfl
  | cons a l ih => exact (ih _).trans (hf s a)

/-! Changes of parts. -/

@[simp] theorem modCarriage_site (s : State) (k : Nat) (g : Carriage → Carriage) : (s.modCarriage k g).site = s.site := by
  simp [State.site, State.anchor]

@[simp] theorem modContext_site (s : State) (k : Nat) (g : Context → Context) : (s.modContext k g).site = s.site :=
  modCarriage_site s k _

@[simp] theorem countFor_site (s : State) (k : Nat) (g : CarriageCounters → CarriageCounters) :
    (s.countFor k g).site = s.site := modContext_site s k _

@[simp] theorem report_site (s : State) (r : Report) : (s.report r).site = s.site := rfl

@[simp] theorem withReports_site (s : State) (rs : List Report) : (s.withReports rs).site = s.site := rfl

@[simp] theorem withFences_site (s : State) (fs : List Fence) : (s.withFences fs).site = s.site := rfl

@[simp] theorem withBays_site (s : State) (bs : List Bay) : (s.withBays bs).site = s.site := rfl

@[simp] theorem withSaws_site (s : State) (ss : List Saw) : (s.withSaws ss).site = s.site := rfl

@[simp] theorem withStamps_site (s : State) (c : Clock) : (s.withStamps c).site = s.site := rfl

@[simp] theorem modBay_site (s : State) (b : Nat) (f : Bay → Bay) : (s.modBay b f).site = s.site := rfl

@[simp] theorem modSaw_site (s : State) (j : Nat) (f : Saw → Saw) : (s.modSaw j f).site = s.site := rfl

@[simp] theorem modEntry_site (s : State) (j q : Nat) (f : Entry → Entry) : (s.modEntry j q f).site = s.site := rfl

@[simp] theorem removeEntry_site (s : State) (j q : Nat) : (s.removeEntry j q).site = s.site := rfl

/-! Operations of Ops.lean. -/

@[simp] theorem hand_site (s : State) (a : NoticeKind) (b : Option Nat) (c : Reference) (d : Cause) (e : Detail) :
    (hand s a b c d e).site = s.site := by
  unfold hand
  split
  · rfl
  · split <;> rfl

@[simp] theorem handStateChange_site (s : State) (k : Nat) (c : Cause) : (handStateChange s k c).site = s.site :=
  hand_site ..

@[simp] theorem raiseFlag_site (s : State) (k : Nat) (f : Flag) : (raiseFlag s k f).site = s.site := by
  unfold raiseFlag
  split
  · rfl
  · split <;> simp

@[simp] theorem endHeld_site (s : State) (k : Nat) (c : Cause) (d : Detail) : (endHeld s k c d).site = s.site := by
  unfold endHeld
  split <;> simp

theorem placeDown_site {s t : State} {f : Frame} (h : placeDown s f = some t) : t.site = s.site := by
  unfold placeDown at h
  split at h
  · cases h; rfl
  · cases h

@[simp] theorem reportRoom_site (s : State) : (reportRoom s).site = s.site := by
  unfold reportRoom
  split <;> rfl

@[simp] theorem withdrawMoves_site (s : State) (n : Nat) : (withdrawMoves s n).site = s.site := by
  unfold withdrawMoves
  dsimp only
  split
  · rw [reportRoom_site]
    rfl
  · rfl

@[simp] theorem clearActive_site (s : State) (k : Nat) (a : Axis) : (clearActive s k a).site = s.site := by
  cases a <;> simp [clearActive]

@[simp] theorem takeSeq_site (s : State) : (takeSeq s).site = s.site := rfl

@[simp] theorem enterStop_site (s : State) (n : Nat) (r : StopReason) : (enterStop s n r).site = s.site := by
  unfold enterStop
  split <;> rfl

@[simp] theorem requestStop_site (s : State) (k : Nat) (a : Axis) (r : StopReason) :
    (requestStop s k a r).site = s.site := by
  unfold requestStop
  dsimp only
  split <;> simp

@[simp] theorem requestStops_site (s : State) (k : Nat) (r : StopReason) : (requestStops s k r).site = s.site := by
  simp [requestStops]

@[simp] theorem enterStopping_site (s : State) (k : Nat) : (enterStopping s k).site = s.site := by
  simp [enterStopping]

@[simp] theorem haltCarriage_site (s : State) (k : Nat) (r : StopReason) (f : Option Flag) :
    (haltCarriage s k r f).site = s.site := by
  unfold haltCarriage
  cases f <;> dsimp only <;> split <;> simp

@[simp] theorem haltNeighbours_site (s : State) (js : List Nat) : (haltNeighbours s js).site = s.site :=
  foldl_site _ (fun _ _ => haltCarriage_site ..) js s

@[simp] theorem testFence_site (s : State) (i : Nat) : (testFence s i).site = s.site := by
  unfold testFence
  split
  · rfl
  · split <;> simp

@[simp] theorem testFences_site (s : State) : (testFences s).site = s.site :=
  foldl_site _ testFence_site _ s

@[simp] theorem setReservation_site (s : State) (k : Nat) (r : Option Reservation) :
    (setReservation s k r).site = s.site := by
  unfold setReservation
  split <;> simp

/-! The Admission Unit. -/

@[simp] theorem handVerdict_site (s : State) (k : Nat) (t : Byte) (c : Cause) (d : Detail) :
    (handVerdict s k t c d).site = s.site := by
  simp [handVerdict]

@[simp] theorem verdictRefused_site (s : State) (k : Nat) (t : Byte) (c : Cause) :
    (verdictRefused s k t c).site = s.site := by
  simp [verdictRefused, countRefused]

@[simp] theorem verdictClamped_site (s : State) (k : Nat) (t : Byte) (x : Nat) :
    (verdictClamped s k t x).site = s.site := by
  simp [verdictClamped, countClamped]

@[simp] theorem setActive_site (s : State) (k : Nat) (a : Axis) (m : ActiveMove) :
    (setActive s k a m).site = s.site := by
  cases a <;> simp [setActive]

@[simp] theorem setSlot_site (s : State) (k : Nat) (h : HeldMove) : (setSlot s k h).site = s.site := by
  simp [setSlot]

theorem forwardMove_site {s t : State} {k : Nat} {a : Axis} {f : Frame} {x : Nat} {tag : Byte}
    (h : forwardMove s k a f x tag = some t) : t.site = s.site := by
  unfold forwardMove at h
  split at h
  · cases h
  · rename_i s' hp
    cases a with
    | z => cases h; simpa using placeDown_site hp
    | x =>
      dsimp only at h
      split at h <;> cases h <;> simpa using placeDown_site hp

@[simp] theorem holdMove_site (s : State) (k : Nat) (a : Axis) (m : MoveFields) (b : BlockedAction) (w : Waiting) :
    (holdMove s k a m b w).site = s.site := by
  unfold holdMove
  split <;> simp [countHeld]

theorem decideBlocked_site (s : State) (k : Nat) (f : Frame) (m : MoveFields) (a : BlockedAction) (b : Block) :
    (decideBlocked s k f m a b).1.site = s.site := by
  unfold decideBlocked
  split
  · split
    · rfl
    · rename_i hf
      split <;> simpa using forwardMove_site hf
  · split <;> simp

theorem decideMove_site (s : State) (k : Nat) (a : Axis) (f : Frame) (m : MoveFields) (b : BlockedAction) :
    (decideMove s k a f m b).1.site = s.site := by
  unfold decideMove
  split
  · simp
  · split <;> simp
  · exact decideBlocked_site ..
  · split
    · rfl
    · rename_i hf
      split <;> simpa [countAdmitted] using forwardMove_site hf

@[simp] theorem setVirtual_site (s : State) (k : Nat) (a : Axis) (x : Nat) : (setVirtual s k a x).site = s.site := by
  cases a <;> simp [setVirtual]

@[simp] theorem handShadow_site (s : State) (k : Nat) (t : Byte) (c : Cause) (d : Detail) :
    (handShadow s k t c d).site = s.site := by
  simp [handShadow]

@[simp] theorem shadowMove_site (s : State) (k : Nat) (a : Axis) (m : MoveFields) (b : BlockedAction) :
    (shadowMove s k a m b).site = s.site := by
  unfold shadowMove
  split
  · simp
  · split <;> simp
  · dsimp only
    split <;> simp
  · split
    · dsimp only
      split <;> simp
    · split <;> simp

theorem admitMove_site (s : State) (k : Nat) (a : Axis) (f : Frame) : (admitMove s k a f).1.site = s.site := by
  unfold admitMove
  dsimp only
  split
  · simp
  · split
    · simp
    · simp
    · split
      · split
        · split <;> simp
        · simp
      · simp
    · split
      · split
        · split
          · exact (decideMove_site ..).trans (by simp)
          · simp
        · simp
      · simp

@[simp] theorem endRefused_site (s : State) (k : Nat) (c : Cause) : (endRefused s k c).site = s.site := by
  simp [endRefused, countRefused]

@[simp] theorem recheckDeadlock_site (s : State) (k : Nat) (b : Option Blocker) : (recheckDeadlock s k b).site = s.site := by
  unfold recheckDeadlock
  split
  · rfl
  · split
    · rfl
    · split
      · split
        · rfl
        · split
          · split <;> simp
          · rfl
      · rfl

theorem generateMove_site {s t : State} {k : Nat} {h : HeldMove} {x v : Nat} {c : Bool}
    (hg : generateMove s k h x v c = some t) : t.site = s.site := by
  unfold generateMove at hg
  split at hg
  · cases hg
  · dsimp only at hg
    obtain ⟨u, hu, rfl⟩ := Option.map_eq_some_iff.mp hg
    simpa using forwardMove_site hu

@[simp] theorem stayHeld_site (s : State) (k : Nat) (h : HeldMove) (w : Waiting) : (stayHeld s k h w).site = s.site := by
  simp [stayHeld]

@[simp] theorem reevaluate_site (s : State) (k : Nat) : (reevaluate s k).site = s.site := by
  unfold reevaluate
  split
  · rfl
  · split
    · simp
    · simp
    · split
      · simp
      · rename_i hg
        split <;> simpa [countClamped, countAdmitted] using generateMove_site hg
    · split
      · simp
      · split
        · split
          · simp
          · rename_i hg
            simpa using generateMove_site hg
        · simp

@[simp] theorem answerMark_site (r : Report) (s : State) (k : Nat) (h : HeldMove) : (answerMark r s k h).site = s.site := by
  unfold answerMark
  split <;> simp

@[simp] theorem actOn_site (s : State) (r : Report) : (actOn s r).site = s.site := by
  refine foldl_site _ (fun s k => ?_) _ s
  unfold actFor
  split
  · rfl
  · split <;> simp

@[simp] theorem settle_site (n : Nat) (s : State) : (settle n s).site = s.site := by
  induction n generalizing s with
  | zero => rfl
  | succ n ih =>
    unfold settle
    split
    · rfl
    · simp [ih]

@[simp] theorem finish_site (s : State) : (finish s).site = s.site := settle_site _ s

end Sys2Proof.Machine
end

