-- ==== Sys2Proof/Laws/Reports.lean ====
section
/-! SUPPORT. The Tracker's and the Head Unit's operations keep the site: a report, an expiry or a GRIP changes carriages,
bays, saws, fences, stops and notices only. -/

namespace Sys2Proof.Machine

/-! The Tracker. -/

@[simp] theorem growReservation_site (s : State) (k : Nat) (a b : Interval) (r : Reservation) :
    (growReservation s k a b r).site = s.site := by
  unfold growReservation
  dsimp only
  split <;> simp

@[simp] theorem followCandidate_site (s : State) (k : Nat) : (followCandidate s k).site = s.site := by
  unfold followCandidate
  split
  · split <;> simp
  · simp
  · rfl

@[simp] theorem followStale_site (s : State) (k : Nat) : (followStale s k).site = s.site := by
  unfold followStale
  split
  · split <;> simp
  · rfl

@[simp] theorem updateReservation_site (s : State) (k : Nat) : (updateReservation s k).site = s.site := by
  unfold updateReservation
  split
  · split
    · split <;> simp
    · rfl
  · rfl

@[simp] theorem firstData_site (s : State) (k : Nat) : (firstData s k).site = s.site := by
  unfold firstData
  split
  · split
    · rfl
    · dsimp only
      split <;> simp
  · rfl

@[simp] theorem unbiddenMotion_site (s : State) (k : Nat) : (unbiddenMotion s k).site = s.site := by
  unfold unbiddenMotion
  split
  · split
    · split
      · split <;> simp
      · simp
    · simp
  · rfl

@[simp] theorem unfreeze_site (s : State) (k : Nat) (e : Interval) : (unfreeze s k e).site = s.site := by
  unfold unfreeze
  dsimp only
  split
  · simp
  · split <;> simp

@[simp] theorem recover_site (s : State) (k : Nat) (f : ReportFrom) : (recover s k f).site = s.site := by
  unfold recover
  split
  · dsimp only
    split
    · split <;> simp
    · simp
  · rfl

@[simp] theorem returnToFresh_site (s : State) (k : Nat) (f : ReportFrom) : (returnToFresh s k f).site = s.site := by
  unfold returnToFresh
  split
  · split
    · dsimp only
      split <;> simp
    · rfl
  · rfl

@[simp] theorem markStill_site (s : State) (k : Nat) (a : Axis) (v : Int) : (markStill s k a v).site = s.site := by
  unfold markStill
  split
  · rfl
  · cases a <;> dsimp only <;> split
    · simp
    · split <;> simp
    · simp
    · split <;> simp

@[simp] theorem applyVelocity_site (s : State) (k : Nat) (b : RunState) (f : ReportFrom) :
    (applyVelocity s k b f).site = s.site := by
  unfold applyVelocity
  split
  · rfl
  · split
    · simp
    · split
      · rfl
      · split <;> simp
    · rfl

@[simp] theorem runStateRules_site (s : State) (k : Nat) (b : RunState) (f : ReportFrom) :
    (runStateRules s k b f).site = s.site := by
  unfold runStateRules
  split
  · split
    · split <;> simp
    · split <;> simp
    · simp
  · rfl

@[simp] theorem stateReports_site (s : State) (k : Nat) (a : Axis) : (stateReports s k a).site = s.site := by
  unfold stateReports
  split
  · split
    · split <;> simp
    · split
      · rfl
      · split <;> simp
  · rfl

@[simp] theorem readState_site (s : State) (k : Nat) (a : Axis) (r : StateReport) : (readState s k a r).site = s.site := by
  unfold readState
  split
  · rfl
  · cases a <;> dsimp only <;> split <;> simp

@[simp] theorem readHeadArrival_site (s : State) (k : Nat) : (readHeadArrival s k).site = s.site := by
  unfold readHeadArrival
  split <;> simp

@[simp] theorem widenReservation_site (s : State) (k d : Nat) (g : Stage) :
    (widenReservation s k d g).site = s.site := by
  unfold widenReservation
  split <;> simp

@[simp] theorem takeStale_site (s : State) (k : Nat) : (takeStale s k).site = s.site := by
  unfold takeStale
  split
  · split
    · dsimp only
      split
      · simp
      · split <;> simp
    · rfl
  · rfl

@[simp] theorem takeLost_site (s : State) (k : Nat) : (takeLost s k).site = s.site := by
  unfold takeLost
  split
  · split
    · dsimp only
      split <;> simp
    · rfl
  · rfl

/-! The Head Unit. -/

@[simp] theorem setLoad_site (s : State) (k : Nat) (l : LoadRecord) : (setLoad s k l).site = s.site := by
  simp [setLoad]

@[simp] theorem emptyLoad_site (s : State) (k : Nat) : (emptyLoad s k).site = s.site := by
  simp [emptyLoad]

@[simp] theorem handGrip_site (s : State) (k : Nat) (j : Option (Nat × Nat)) (c : Cause) (d : Detail) :
    (handGrip s k j c d).site = s.site := by
  simp [handGrip]

theorem refuseGrip_site (s : State) (k : Nat) (j : Option (Nat × Nat)) (c : Cause) :
    (refuseGrip s k j c).1.site = s.site := by
  simp [refuseGrip]

theorem forwardGrip_site (s : State) (k : Nat) (form : GripForm) (f : Frame) (g : GripFields) (image : Cups)
    (effect : State → State) (he : ∀ u, (effect u).site = u.site) :
    (forwardGrip s k form f g image effect).1.site = s.site := by
  unfold forwardGrip
  split
  · rfl
  · rename_i hp
    dsimp only
    split <;> simpa [he] using placeDown_site hp

theorem judgePick_site (s : State) (k : Nat) (c : Carriage) (h : HeadRecord) (x z : Nat) (form : GripForm) (f : Frame)
    (g : GripFields) (image : Cups) : (judgePick s k c h x z form f g image).1.site = s.site := by
  unfold judgePick
  split
  · exact refuseGrip_site ..
  · split
    · exact refuseGrip_site ..
    · dsimp only
      split
      · exact refuseGrip_site ..
      · split
        · exact refuseGrip_site ..
        · exact forwardGrip_site _ _ _ _ _ _ _ (fun u => by simp [beginLoad])

theorem judgeRelease_site (s : State) (k : Nat) (h : HeadRecord) (l : LoadRecord) (x z : Nat) (form : GripForm)
    (f : Frame) (g : GripFields) (image : Cups) : (judgeRelease s k h l x z form f g image).1.site = s.site := by
  unfold judgeRelease
  split
  · exact refuseGrip_site ..
  · split
    · exact forwardGrip_site _ _ _ _ _ _ _ (fun u => by simp [beginRelease])
    · split
      · split
        · exact refuseGrip_site ..
        · exact forwardGrip_site _ _ _ _ _ _ _ (fun u => by simp [beginRelease])
      · exact refuseGrip_site ..

theorem judgeGrip_site (s : State) (k : Nat) (c : Carriage) (form : GripForm) (f : Frame) (g : GripFields) :
    (judgeGrip s k c form f g).1.site = s.site := by
  unfold judgeGrip
  dsimp only
  split
  · split
    · exact forwardGrip_site _ _ _ _ _ _ _ (fun u => rfl)
    · split
      · exact judgePick_site ..
      · exact refuseGrip_site ..
  · split
    · exact refuseGrip_site ..
    · split
      · exact forwardGrip_site _ _ _ _ _ _ _ (fun u => by simp)
      · split
        · exact judgeRelease_site ..
        · exact refuseGrip_site ..

theorem gripFrame_site (s : State) (k : Nat) (form : GripForm) (f : Frame) : (gripFrame s k form f).1.site = s.site := by
  unfold gripFrame
  dsimp only
  split
  · exact refuseGrip_site ..
  · split
    · exact refuseGrip_site ..
    · split
      · exact refuseGrip_site ..
      · split
        · exact refuseGrip_site ..
        · split
          · exact refuseGrip_site ..
          · exact judgeGrip_site ..

@[simp] theorem decideThickness_site (s : State) (k : Nat) (l : LoadRecord) (t : Thickness) :
    (decideThickness s k l t).site = s.site := by
  cases t <;> simp [decideThickness, handPick]

@[simp] theorem countReading_site (s : State) (k : Nat) (h : HeadRecord) (l : LoadRecord) (r : Nat) :
    (countReading s k h l r).site = s.site := by
  unfold countReading
  split
  · rfl
  · split
    · rfl
    · dsimp only
      split <;> simp

@[simp] theorem dropVacuum_site (s : State) (k : Nat) (l : LoadRecord) : (dropVacuum s k l).site = s.site := by
  unfold dropVacuum
  dsimp only
  split <;> split <;> simp

@[simp] theorem confirmRelease_site (s : State) (k : Nat) (l : LoadRecord) : (confirmRelease s k l).site = s.site := by
  unfold confirmRelease
  dsimp only
  split
  · split <;> simp [handPlace]
  · simp [handPlace]

@[simp] theorem readHead_site (s : State) (k : Nat) (r : HeadReport) : (readHead s k r).site = s.site := by
  unfold readHead
  dsimp only
  split
  · split
    · split <;> simp [setModules]
    · split <;> simp [setModules]
    · split <;> simp [setModules]
    · split <;> simp [setModules]
    · split <;> simp [setModules]
  · simp [setModules]

@[simp] theorem takeGripDeadline_site (s : State) (k : Nat) : (takeGripDeadline s k).site = s.site := by
  unfold takeGripDeadline
  split
  · rfl
  · split
    · split <;> simp
    · rfl

@[simp] theorem takeReleaseDeadline_site (s : State) (k : Nat) : (takeReleaseDeadline s k).site = s.site := by
  unfold takeReleaseDeadline
  split
  · rfl
  · split
    · split <;> simp
    · rfl

@[simp] theorem readSaw_site (s : State) (j : Nat) (r c : Bool) : (readSaw s j r c).site = s.site := rfl

end Sys2Proof.Machine
end

