-- ==== Sys2Proof/Laws/Requests.lean ====
section
/-! SUPPORT. A management request keeps the anchor of the state, and what the part makes of one that it takes at once:
`receiveU_request`, the lemma by which every statement about a management row goes through. -/

namespace Sys2Proof.Machine

/-- Operations folded over a list keep the anchor if each does. -/
theorem foldl_anchor {α : Type} (f : State → α → State) (hf : ∀ s a, (f s a).anchor = s.anchor) (l : List α)
    (s : State) : (l.foldl f s).anchor = s.anchor := by
  induction l generalizing s with
  | nil => rfl
  | cons a l ih => exact (ih _).trans (hf s a)

/-! Operations that keep the site keep the anchor. -/

@[simp] theorem hand_anchor (s : State) (a : NoticeKind) (b : Option Nat) (c : Reference) (d : Cause) (e : Detail) :
    (hand s a b c d e).anchor = s.anchor := State.anchor_of_site (hand_site ..)

@[simp] theorem modCarriage_anchor (s : State) (k : Nat) (g : Carriage → Carriage) :
    (s.modCarriage k g).anchor = s.anchor := rfl

@[simp] theorem modContext_anchor (s : State) (k : Nat) (g : Context → Context) :
    (s.modContext k g).anchor = s.anchor := rfl

@[simp] theorem countFor_anchor (s : State) (k : Nat) (g : CarriageCounters → CarriageCounters) :
    (s.countFor k g).anchor = s.anchor := rfl

@[simp] theorem handStateChange_anchor (s : State) (k : Nat) (c : Cause) :
    (handStateChange s k c).anchor = s.anchor := hand_anchor ..

@[simp] theorem endHeld_anchor (s : State) (k : Nat) (c : Cause) (d : Detail) : (endHeld s k c d).anchor = s.anchor :=
  State.anchor_of_site (endHeld_site ..)

@[simp] theorem requestStops_anchor (s : State) (k : Nat) (r : StopReason) : (requestStops s k r).anchor = s.anchor :=
  State.anchor_of_site (requestStops_site ..)

@[simp] theorem enterStop_anchor (s : State) (n : Nat) (r : StopReason) : (enterStop s n r).anchor = s.anchor :=
  State.anchor_of_site (enterStop_site ..)

@[simp] theorem haltCarriage_anchor (s : State) (k : Nat) (r : StopReason) (f : Option Flag) :
    (haltCarriage s k r f).anchor = s.anchor := State.anchor_of_site (haltCarriage_site ..)

@[simp] theorem haltNeighbours_anchor (s : State) (js : List Nat) : (haltNeighbours s js).anchor = s.anchor :=
  State.anchor_of_site (haltNeighbours_site ..)

@[simp] theorem testFences_anchor (s : State) : (testFences s).anchor = s.anchor :=
  State.anchor_of_site (testFences_site ..)

@[simp] theorem setReservation_anchor (s : State) (k : Nat) (r : Option Reservation) :
    (setReservation s k r).anchor = s.anchor := State.anchor_of_site (setReservation_site ..)

@[simp] theorem settle_anchor (n : Nat) (s : State) : (settle n s).anchor = s.anchor :=
  State.anchor_of_site (settle_site ..)

@[simp] theorem finish_anchor (s : State) : (finish s).anchor = s.anchor := settle_anchor ..

/-! Line reset. -/

theorem enterResetStops_anchor (s : State) (k : Nat) : (enterResetStops s k).anchor = s.anchor := by
  have h : ∀ (u : State) (r : Role), (enterResetStop u r).anchor = u.anchor := by
    intro u r
    unfold enterResetStop
    split <;> simp
  unfold enterResetStops
  split <;> simp [h]

@[simp] theorem resetPort_anchor (s : State) : (resetPort s).anchor = s.anchor := by
  unfold resetPort
  generalize List.range 4 = l
  dsimp only
  rw [foldl_anchor enterResetStops enterResetStops_anchor l]
  rfl

@[simp] theorem lineReset_anchor (s : State) (c : Cause) : (lineReset s c).anchor = s.anchor := by
  have h2 : ∀ u : State, ((u.withManagement { u.management with notices := [] }).withReports []).anchor = u.anchor :=
    fun _ => rfl
  have h3 : ∀ u : State, (resetCarriages u).anchor = u.anchor := fun _ => rfl
  simp only [lineReset, testFences_anchor, hand_anchor, h2, h3, resetPort_anchor]

/-! Commands. -/

@[simp] theorem setMembership_anchor (s : State) (k : Nat) (m : Membership) :
    (setMembership s k m).anchor = s.anchor := by
  simp [setMembership]

@[simp] theorem setFence_anchor (s : State) (i : Nat) (f : Fence) (st : FenceState) :
    (setFence s i f st).anchor = s.anchor := by
  simp only [setFence, hand_anchor]
  rfl

@[simp] theorem refuseRequest_anchor (s : State) (c : ResultCode) : (refuseRequest s c).after.anchor = s.anchor := rfl

@[simp] theorem accept_anchor (s : State) : (accept s).after.anchor = s.anchor := rfl

@[simp] theorem answerData_anchor (s : State) (d : List Byte) : (answerData s d).after.anchor = s.anchor := rfl

theorem commandHalt_anchor (s : State) (k : Nat) : (commandHalt s k).after.anchor = s.anchor := by
  unfold commandHalt
  split <;> simp [accept]

theorem commandResume_anchor (s : State) (k : Nat) : (commandResume s k).after.anchor = s.anchor := by
  unfold commandResume
  split
  · rfl
  · split
    · rfl
    · split
      · split <;> simp [accept, refuseRequest]
      · rfl
    all_goals rfl

theorem membershipWorking_anchor (s : State) (k : Nat) (c : Carriage) (m : Membership) :
    (membershipWorking s k c m).after.anchor = s.anchor := by
  unfold membershipWorking
  split
  · rfl
  · split
    · rfl
    · split
      · split
        · rfl
        · split <;> simp [accept, refuseRequest]
      · simp [accept]

theorem membershipIsolated_anchor (s : State) (k : Nat) (c : Carriage) :
    (membershipIsolated s k c).anchor = s.anchor := by
  unfold membershipIsolated
  dsimp only
  split
  · simp
  · split <;> simp

theorem membershipExcluded_anchor (s : State) (k : Nat) (c : Carriage) :
    (membershipExcluded s k c).after.anchor = s.anchor := by
  unfold membershipExcluded
  split
  · split
    · rfl
    · split <;> simp [accept, refuseRequest]
  · rfl

theorem commandMembership_anchor (s : State) (k : Nat) (m : Membership) :
    (commandMembership s k m).after.anchor = s.anchor := by
  unfold commandMembership
  split
  · rfl
  · split
    · rfl
    · split
      · exact membershipWorking_anchor ..
      · exact membershipWorking_anchor ..
      · exact membershipIsolated_anchor ..
      · exact membershipExcluded_anchor ..

theorem commandClearFaults_anchor (s : State) (k : Nat) : (commandClearFaults s k).after.anchor = s.anchor := by
  unfold commandClearFaults
  split
  · rfl
  · split <;> simp [accept, refuseRequest]

theorem commandFenceOn_anchor (s : State) (i : Nat) : (commandFenceOn s i).after.anchor = s.anchor := by
  unfold commandFenceOn
  split
  · rfl
  · split <;> simp [accept]

theorem commandFenceOff_anchor (s : State) (i : Nat) : (commandFenceOff s i).after.anchor = s.anchor := by
  unfold commandFenceOff
  split
  · rfl
  · split
    · rfl
    · exact setFence_anchor ..
    · exact setFence_anchor ..

theorem commandBayRestock_anchor (s : State) (b : Nat) : (commandBayRestock s b).after.anchor = s.anchor := by
  unfold commandBayRestock
  split
  · rfl
  · split <;> rfl

theorem commandRetire_anchor (s : State) (j q : Nat) : (commandRetire s j q).after.anchor = s.anchor := by
  unfold commandRetire
  split
  · rfl
  · split
    · rfl
    · split <;> rfl

theorem commandRequeue_anchor (s : State) (j q : Nat) : (commandRequeue s j q).after.anchor = s.anchor := by
  unfold commandRequeue
  split
  · rfl
  · split
    · rfl
    · split <;> rfl

theorem commandLineReset_anchor (s : State) : (commandLineReset s).after.anchor = s.anchor := by
  simp [commandLineReset, accept]

/-- A choice of two answers keeps an anchor that both keep. -/
theorem ite_anchor {c : Prop} [Decidable c] {a b : Answer} {x : Anchor} (ha : a.after.anchor = x)
    (hb : b.after.anchor = x) : (if c then a else b).after.anchor = x := by
  split <;> assumption

theorem indexed_anchor (s : State) (bound size : Nat) (ops : List Byte) (owner : Nat → Answer)
    (h : ∀ k, (owner k).after.anchor = s.anchor) : (indexed s bound size ops owner).after.anchor = s.anchor := by
  unfold indexed
  split
  · rfl
  · split
    · rfl
    · exact h _

theorem decodeMembership_anchor (s : State) (ops : List Byte) : (decodeMembership s ops).after.anchor = s.anchor := by
  refine indexed_anchor _ _ _ _ _ fun k => ?_
  split
  · rfl
  · exact commandMembership_anchor ..

theorem issueCommand_anchor (s : State) (code : Nat) (ops : List Byte) :
    (issueCommand s code ops).after.anchor = s.anchor :=
  ite_anchor (decodeMembership_anchor s ops) <|
    ite_anchor (indexed_anchor _ _ _ _ _ (commandHalt_anchor s)) <|
    ite_anchor (indexed_anchor _ _ _ _ _ (commandResume_anchor s)) <|
    ite_anchor (indexed_anchor _ _ _ _ _ (commandClearFaults_anchor s)) <|
    ite_anchor (indexed_anchor _ _ _ _ _ (commandFenceOn_anchor s)) <|
    ite_anchor (indexed_anchor _ _ _ _ _ (commandFenceOff_anchor s)) <|
    ite_anchor (indexed_anchor _ _ _ _ _ (commandBayRestock_anchor s)) <|
    ite_anchor (indexed_anchor _ _ _ _ _ fun j => commandRetire_anchor s j _) <|
    ite_anchor (indexed_anchor _ _ _ _ _ fun j => commandRequeue_anchor s j _) <|
    ite_anchor (ite_anchor (refuseRequest_anchor ..) (commandLineReset_anchor s)) (refuseRequest_anchor ..)

/-! Table writes. -/

theorem setRole_anchor (s : State) (a : Nat) (e : Option Role) : (setRole s a e).anchor = s.anchor := by
  unfold setRole
  dsimp only
  split <;> rfl

theorem recompute_anchor (s : State) (k : Nat) : (recompute s k).anchor = s.anchor := by
  unfold recompute
  split
  · rfl
  · split <;> simp

theorem applyRail_anchor (s : State) (r : RailRecord) : (applyRail s r).anchor = s.anchor := by
  unfold applyRail
  simp only [testFences_anchor]
  split
  · rfl
  · exact (foldl_anchor _ recompute_anchor _ _).trans rfl

theorem afterRecord_anchor (s : State) (k : Nat) (c : Carriage) : (afterRecord s k c).anchor = s.anchor := by
  unfold afterRecord
  split
  · simp
  · split
    · rfl
    · exact recompute_anchor ..

theorem writeNodeMap_anchor (s : State) (i : Nat) (b : List Byte) : (writeNodeMap s i b).after.anchor = s.anchor := by
  unfold writeNodeMap
  repeat' split
  all_goals first
    | rfl
    | exact setRole_anchor ..

theorem writeRail_anchor (s : State) (i : Nat) (b : List Byte) : (writeRail s i b).after.anchor = s.anchor := by
  unfold writeRail
  refine ite_anchor rfl (ite_anchor rfl ?_)
  dsimp only
  exact ite_anchor rfl (ite_anchor rfl (ite_anchor rfl ((accept_anchor _).trans (applyRail_anchor s _))))

theorem writeCarriage_anchor (s : State) (i : Nat) (b : List Byte) : (writeCarriage s i b).after.anchor = s.anchor := by
  unfold writeCarriage
  refine ite_anchor rfl (ite_anchor rfl ?_)
  split
  · rfl
  · refine ite_anchor rfl ?_
    split
    · rfl
    · exact ite_anchor rfl (ite_anchor rfl (afterRecord_anchor ..))

theorem writeSaw_anchor (s : State) (i : Nat) (b : List Byte) : (writeSaw s i b).after.anchor = s.anchor := by
  unfold writeSaw
  split
  · rfl
  · exact ite_anchor rfl (ite_anchor rfl (ite_anchor rfl rfl))

theorem writeBay_anchor (s : State) (i : Nat) (b : List Byte) : (writeBay s i b).after.anchor = s.anchor := by
  unfold writeBay
  split
  · rfl
  · refine ite_anchor rfl ?_
    split
    · rfl
    · exact ite_anchor rfl (ite_anchor rfl rfl)

theorem writeQueue_anchor (s : State) (i : Nat) (b : List Byte) : (writeQueue s i b).after.anchor = s.anchor := by
  unfold writeQueue
  split
  · rfl
  · exact ite_anchor rfl (ite_anchor rfl (ite_anchor rfl (ite_anchor rfl rfl)))

theorem writeFence_anchor (s : State) (i : Nat) (b : List Byte) : (writeFence s i b).after.anchor = s.anchor := by
  unfold writeFence
  split
  · rfl
  · exact ite_anchor rfl (ite_anchor rfl (ite_anchor rfl rfl))

theorem writeLamp_anchor (s : State) (i : Nat) (b : List Byte) : (writeLamp s i b).after.anchor = s.anchor := by
  unfold writeLamp
  refine ite_anchor rfl (ite_anchor rfl ?_)
  split <;> rfl

theorem writeTable_anchor (s : State) (table i : Nat) (b : List Byte) :
    (writeTable s table i b).after.anchor = s.anchor :=
  ite_anchor (writeNodeMap_anchor ..) <| ite_anchor (writeRail_anchor ..) <| ite_anchor (writeCarriage_anchor ..) <|
    ite_anchor (ite_anchor rfl (ite_anchor rfl (ite_anchor rfl (ite_anchor rfl rfl)))) <|
    ite_anchor (ite_anchor rfl (ite_anchor rfl (ite_anchor rfl (ite_anchor rfl rfl)))) <|
    ite_anchor (writeSaw_anchor ..) <| ite_anchor (writeBay_anchor ..) <| ite_anchor (writeQueue_anchor ..) <|
    ite_anchor (writeFence_anchor ..) <| ite_anchor (writeLamp_anchor ..) rfl

/-! Reads. -/

theorem readCounters_anchor (s : State) (i : Nat) (ops : List Byte) :
    (readCounters s i ops).after.anchor = s.anchor := by
  have h : ∀ g all wb, counterGroup s g i = some (all, wb) → ∀ l, (wb l).anchor = s.anchor := by
    intro g all wb hg l
    unfold counterGroup at hg
    split at hg
    · split at hg
      · cases hg; rfl
      · cases hg
    · split at hg
      · split at hg
        · cases hg; rfl
        · cases hg
      · split at hg
        · obtain ⟨c, -, hc⟩ := Option.map_eq_some_iff.mp hg
          cases hc; rfl
        · obtain ⟨c, -, hc⟩ := Option.map_eq_some_iff.mp hg
          cases hc; rfl
  unfold readCounters
  split
  · rfl
  · split
    · rfl
    · rename_i hg
      split
      · rfl
      · split
        · dsimp only
          split
          · exact h _ _ _ hg _
          · rfl
        · rfl

theorem readRecord_anchor (s : State) (r : Option (List Byte)) (ops : List Byte) :
    (readRecord s r ops).after.anchor = s.anchor := by
  unfold readRecord
  split
  · rfl
  · exact ite_anchor rfl rfl

theorem readQueue_anchor (s : State) (i : Nat) (ops : List Byte) : (readQueue s i ops).after.anchor = s.anchor := by
  unfold readQueue
  split
  · rfl
  · refine ite_anchor rfl (ite_anchor rfl (ite_anchor rfl ?_))
    split <;> rfl

theorem readCarriageStatus_anchor (s : State) (i : Nat) (ops : List Byte) :
    (readCarriageStatus s i ops).after.anchor = s.anchor := by
  unfold readCarriageStatus
  split
  · rfl
  · exact ite_anchor rfl (ite_anchor rfl rfl)

theorem readPartStatus_anchor (s : State) (i : Nat) (ops : List Byte) :
    (readPartStatus s i ops).after.anchor = s.anchor := ite_anchor rfl (ite_anchor rfl rfl)

theorem readTable_anchor (s : State) (table i : Nat) (ops : List Byte) :
    (readTable s table i ops).after.anchor = s.anchor :=
  ite_anchor (readRecord_anchor ..) <| ite_anchor (readRecord_anchor ..) <| ite_anchor (readRecord_anchor ..) <|
    ite_anchor (readRecord_anchor ..) <| ite_anchor (readRecord_anchor ..) <| ite_anchor (readRecord_anchor ..) <|
    ite_anchor (readRecord_anchor ..) <| ite_anchor (readQueue_anchor ..) <| ite_anchor (readRecord_anchor ..) <|
    ite_anchor (readRecord_anchor ..) <| ite_anchor (readCarriageStatus_anchor ..) <|
    ite_anchor (readRecord_anchor ..) <| ite_anchor (readPartStatus_anchor ..) <|
    ite_anchor (readCounters_anchor ..) rfl

/-- A request carried out keeps the anchor. -/
theorem carryOut_anchor (s : State) (f : Frame) : (carryOut s f).after.anchor = s.anchor := by
  unfold carryOut
  split
  · split
    · exact issueCommand_anchor ..
    · rfl
  · split
    · split
      · exact writeTable_anchor ..
      · exact readTable_anchor ..
    · rfl
    · rfl

/-! A request that is taken at once. -/

/-- With no report to act on, the end of a step does nothing. -/
theorem finish_of_settled {s : State} (h : s.reports = []) : finish s = s := by
  simp [finish, Config.reportFuel, settle, h]

/-- Requests are taken until none waits. -/
theorem takeRequests_idle (n : Nat) {s : State} (h : s.management.requests = []) : takeRequests n s = s := by
  cases n <;> simp [takeRequests, h]

/-- A request arriving where none waits and there is room is taken whole, and no other. -/
theorem serveRequests_one {s : State} (f : Frame) (hreq : s.management.requests = [])
    (hroom : s.management.replies.length < 4) :
    serveRequests (s.withManagement { s.management with requests := [f] }) =
      placeReply (finish (carryOut s f).after) (replyTo f (carryOut s f)) := by
  have hback : (s.withManagement { s.management with requests := [f] }).withManagement
      { (s.withManagement { s.management with requests := [f] }).management with requests := [] } = s := by
    simp only [State.withManagement, ← hreq]
  have hafter : (finish (carryOut s f).after).management.requests = [] :=
    (congrArg Anchor.requests ((finish_anchor _).trans (carryOut_anchor s f))).trans hreq
  have hnot : ((s.withManagement { s.management with requests := [f] }).management.requests.isEmpty ||
      decide (Config.managementRoom ≤
        (s.withManagement { s.management with requests := [f] }).management.replies.length)) = false := by
    have : ¬4 ≤ s.management.replies.length := by omega
    simp [Config.managementRoom, this]
  have htake : takeRequest (s.withManagement { s.management with requests := [f] }) =
      placeReply (finish (carryOut s f).after) (replyTo f (carryOut s f)) := by
    show placeReply (finish (carryOut ((s.withManagement { s.management with requests := [f] }).withManagement
      { (s.withManagement { s.management with requests := [f] }).management with requests := [] }) f).after) _ = _
    rw [hback]
  show takeRequests 4 _ = _
  rw [takeRequests, hnot, if_neg Bool.false_ne_true, htake]
  exact takeRequests_idle _ hafter

/-- A management frame that the part listens to is carried out at once, and its reply stands at the tail (R145, R154,
R155). -/
theorem receiveU_request {s : State} {kind src seq : Byte} {payload : List Byte} (h : s.Listens src)
    (hk : Kind.isManagement kind = true) (hp : payload.length ≤ 48) :
    receiveU s (s.requestFrame kind src seq payload) =
      placeReply (finish (carryOut s.arrived (s.requestFrame kind src seq payload)).after)
        (replyTo (s.requestFrame kind src seq payload) (carryOut s.arrived (s.requestFrame kind src seq payload))) := by
  obtain ⟨-, hown, hsrc, hreq, hroom, -⟩ := h
  generalize hf : s.requestFrame kind src seq payload = f
  have hfk : Kind.isManagement f.kind = true := hf ▸ hk
  have hdst : f.dst.toNat = s.port.ownAddress := by
    rw [← hf]
    simp [State.requestFrame]
    omega
  have hfd : (setReceiver s .u .between).isOwn f.dst = true := by
    simp [State.isOwn, setReceiver, hdst, Config.broadcast, hown]
  have hfl : ¬48 < f.payload.length := by
    rw [← hf]
    simpa [State.requestFrame] using hp
  have haddr : (setReceiver s .u .between).addressOf .controller = s.addressOf .controller := rfl
  have hfs : f.src = src := by rw [← hf]; rfl
  have hroute : routeU (setReceiver s .u .between) f =
      ((setReceiver s .u .between).withManagement { s.management with requests := [f] }, .good) := by
    rw [routeU, if_pos hfd, if_pos hfk, acceptRequest, haddr, hfs]
    rcases hsrc with h | h <;> simp [h, hreq, setReceiver, Config.managementRoom]
  have hcount : routeAndCount (setReceiver s .u .between) .u f =
      s.arrived.withManagement { s.arrived.management with requests := [f] } := by
    simp only [routeAndCount, hroute]
    rfl
  rw [receiveU]
  simp only [hfl, if_false, goodU, hfd, hfk, Bool.and_self, if_true, hcount]
  exact serveRequests_one f hreq hroom

end Sys2Proof.Machine
end

