-- ==== Sys2Proof/Laws/Steps.lean ====
section
/-! SUPPORT. What reports and expiries of the whole part do: sampled pins, reports of room, a head report that is only an
arrival; how a command ends, with no report or no held move; and how a frame that a port receives is counted. -/

namespace Sys2Proof.Machine

/-! The sampled pins (R169). -/

/-- A taken level falls where it is high and both last samples are low. -/
theorem SampledPin.falls_iff (p : SampledPin) :
    p.falls = true ↔ p.taken = true ∧ p.sample = false ∧ p.sampleBefore = false := by
  obtain ⟨_, a, b, c⟩ := p
  cases a <;> cases b <;> cases c <;> simp [SampledPin.falls, SampledPin.changes]

/-- A taken level rises where it is low and both last samples are high. -/
theorem SampledPin.rises_iff (p : SampledPin) :
    p.rises = true ↔ p.taken = false ∧ p.sample = true ∧ p.sampleBefore = true := by
  obtain ⟨_, a, b, c⟩ := p
  cases a <;> cases b <;> cases c <;> simp [SampledPin.rises, SampledPin.changes]

/-! Reports of room (R147). -/

/-- With no report of room standing, none is taken. -/
theorem takeRoomReport_none {s : State} (h : s.port.roomReports = 0) : takeRoomReport s = s := by
  simp [takeRoomReport, h]

/-- One of the reports that stand is taken, for the held moves that wait for room. -/
theorem takeRoomReport_some {s : State} (h : 0 < s.port.roomReports) :
    takeRoomReport s = (s.withPort { s.port with roomReports := s.port.roomReports - 1 }).report .room := if_pos h

/-- Before a report of room re-evaluates a held move, it takes its mark. -/
theorem answerMark_room (s : State) (k : Nat) (h : HeldMove) :
    answerMark .room s k h = setSlot s k { h with waitingForRoom := false } := rfl

/-- Every other report leaves the mark. -/
theorem answerMark_other {r : Report} (hr : r ≠ .room) (s : State) (k : Nat) (h : HeldMove) : answerMark r s k h = s := by
  cases r <;> first | rfl | exact absurd rfl hr

/-! The head's report (R12). -/

/-- The three arrivals are young only where the other two are, whatever is recorded of the head. -/
theorem allYoung_arrived {x : Context} {now t : Clock} {w : Nat} (h : (x.arrived t .head).allYoung now w = true) :
    (∃ a, x.arrivalX = some a ∧ age now a < w) ∧ ∃ a, x.arrivalZ = some a ∧ age now a < w := by
  simp only [Context.arrived, Context.allYoung] at h
  split at h
  · rename_i a b d ha hb hd
    simp only [Bool.and_eq_true, decide_eq_true_eq] at h
    exact ⟨⟨a, ha, h.1.1⟩, ⟨b, hb, h.1.2⟩⟩
  · cases h

/-- A head report that brings about no run-state rule is recorded as an arrival, and that is all (R12). -/
theorem readHeadArrival_only {s : State} {k : Nat} {c : Carriage} (hc : s.carriage k = some c) (h : s.HeadArrivalOnly k c) :
    readHeadArrival s k = s.modContext k fun x => x.arrived s.lineClock .head := by
  have ht := modCarriage_same hc fun c => { c with ctx := c.ctx.arrived s.lineClock .head }
  have hu : (s.modContext k fun x => x.arrived s.lineClock .head).carriage k =
      some { c with ctx := c.ctx.arrived s.lineClock .head } := ht
  unfold readHeadArrival
  rw [runState_eq hc]
  dsimp only
  unfold runStateRules
  rw [hu]
  cases hr : (s.modContext k fun x => x.arrived s.lineClock .head).record k with
  | none => rfl
  | some r =>
    have hs : s.record k = some r := hr
    have young {w : Nat} (hw : w = r.w) (hy : (c.ctx.arrived s.lineClock .head).allYoung s.lineClock w = true) :
        (∃ r a, s.record k = some r ∧ c.ctx.arrivalX = some a ∧ age s.lineClock a < r.w) ∧
          ∃ r a, s.record k = some r ∧ c.ctx.arrivalZ = some a ∧ age s.lineClock a < r.w := by
      subst hw
      obtain ⟨⟨a, ha, hb⟩, ⟨d, hd, he⟩⟩ := allYoung_arrived hy
      exact ⟨⟨r, a, hs, ha, hb⟩, ⟨r, d, hs, hd, he⟩⟩
    simp only [State.HeadArrivalOnly] at h
    have key1 (hx : c.ctx.runState = .unseen ∨ c.ctx.runState = .lost) :
        ¬(c.ctx.arrived s.lineClock .head).freshSet s.lineClock r.w = true := by
      rw [if_pos hx] at h
      intro hf
      simp only [Context.freshSet, Bool.and_eq_true] at hf
      exact h ⟨hf.1.1.1, hf.1.1.2, young rfl hf.2⟩
    have key2 (hx : ¬(c.ctx.runState = .unseen ∨ c.ctx.runState = .lost)) :
        returnToFresh (s.modContext k fun x => x.arrived s.lineClock .head) k .head =
          s.modContext k fun x => x.arrived s.lineClock .head := by
      rw [if_neg hx] at h
      unfold returnToFresh
      rw [hu, hr]
      refine if_neg fun hf => ?_
      simp only [Bool.and_eq_true, bne_iff_ne, ne_eq, Bool.not_eq_true'] at hf
      obtain ⟨⟨hm, hfr⟩, hy⟩ := hf
      rcases h with h | h | h
      · exact absurd h (by simpa [Context.arrived] using hfr)
      · exact hm h
      · exact h (young rfl hy)
    cases hrs : c.ctx.runState <;> simp_all [applyVelocity]

/-! The end of a step (R43, R74). -/

/-- A command that leaves no report ends as it stands. -/
theorem live_settled {s : State} (h : s.Running) {g : State → State} {t : State} (hg : g s = t) (ht : t.reports = []) :
    live s g = .next t := by
  subst hg
  simp [live, h.running, finish_of_settled ht]

theorem actFor_noHeld {s : State} (h : s.NoHeld) (r : Report) (k : Nat) : actFor r s k = s := by
  have hk : s.held k = none := by
    unfold State.held State.carriage
    cases hc : s.carriages[k]? with
    | none => rfl
    | some c => exact h c (List.mem_of_getElem? hc)
  simp [actFor, hk]

theorem actOn_noHeld {s : State} (h : s.NoHeld) (r : Report) : actOn s r = s := by
  unfold actOn
  generalize List.range 4 = l
  induction l with
  | nil => rfl
  | cons a l ih => rw [List.foldl_cons, actFor_noHeld h, ih]

theorem settle_noHeld (n : Nat) {s : State} (h : s.NoHeld) (hr : s.reports.length ≤ n) :
    settle n s = s.withReports [] := by
  induction n generalizing s with
  | zero =>
    have : s.reports = [] := by simpa using hr
    simp [settle, State.withReports, ← this]
  | succ n ih =>
    unfold settle
    split
    · next hh => simp [State.withReports, ← hh]
    · next r rs hh =>
      have h' : (s.withReports rs).NoHeld := h
      rw [actOn_noHeld h', ih h' (by rw [hh] at hr; simpa [State.withReports] using hr)]
      rfl

/-- With no held move, the reports of a step change nothing. -/
theorem finish_noHeld {s : State} (h : s.NoHeld) (hr : s.reports.length ≤ 64) : finish s = s.withReports [] :=
  settle_noHeld 64 h hr

/-- A command that leaves no held move ends with its reports dropped. -/
theorem live_noHeld {s : State} (hs : s.Running) {g : State → State} {t : State} (h : (g s).NoHeld)
    (hr : (g s).reports.length ≤ 64) (ht : (g s).withReports [] = t) : live s g = .next t := by
  simp [live, hs.running, finish_noHeld h hr, ht]

/-! Reception (R139, R142). -/

theorem isOwn_iff (s : State) (d : Byte) : s.isOwn d = true ↔ s.Own d := by
  rw [State.isOwn, Bool.and_eq_true, decide_eq_true_iff, beq_iff_eq]
  rfl

/-- A frame received on port U that is no management frame for the part is routed and counted. -/
theorem receiveU_eq {s : State} {f : Frame} {t : State} {r : Routing} (hp : f.payload.length ≤ 48)
    (hr : routeU (setReceiver s .u .between) f = (t, r)) (hn : ¬(s.Own f.dst ∧ Kind.isManagement f.kind = true)) :
    receiveU s f = countAt t .u (·.addRouting r) := by
  have h48 : ¬48 < f.payload.length := by omega
  have hn' : ((setReceiver s .u .between).isOwn f.dst && Kind.isManagement f.kind) = false := by
    rw [Bool.eq_false_iff]
    intro hh
    rw [Bool.and_eq_true, isOwn_iff] at hh
    exact hn hh
  simp only [receiveU, h48, if_false, goodU, hn', routeAndCount, hr]
  rfl

/-- A frame received on port D is routed and counted. -/
theorem receiveD_eq {s : State} {f : Frame} {t : State} {r : Routing} (hp : f.payload.length ≤ 48)
    (hr : routeD (setReceiver s .d .between) f = (t, r)) : receiveD s f = countAt t .d (·.addRouting r) := by
  have h48 : ¬48 < f.payload.length := by omega
  simp only [receiveD, h48, if_false, routeAndCount, hr]

end Sys2Proof.Machine
end

