-- ==== Sys2Proof/Tests/Slice0.lean ====
section
/-! SUPPORT. Tests of the model against the manual's own worked cases, a smoke test of well-formedness, and for every
statement that has hypotheses a witness that meets them. Expected values are the manual's, at the rule or heading named. -/

namespace Sys2Proof.Tests

open Sys2Proof Sys2Proof.Machine

/-! Well-formedness: each check refuses an ill-formed term. -/

def long49 : List Byte := List.replicate 49 0
def long47 : List Byte := List.replicate 47 0

theorem test_wellFormed_payloads :
    ([.move 1 0 0 long49, .stop 1 0 0 long49, .state 1 0 0 long49, .senseHead 1 0 0 long49, .senseSaw 1 0 0 long49,
        .grip .all 1 0 0 long49, .mgRequest .read 1 0 0 long49, .param 0x12 1 0 0 long49, .upstreamForward 0x12 1 0 0 long49,
        .frameDropped .u (List.replicate 57 0), .param 0x10 1 0 0 [], .param 0x31 1 0 0 []] : List Instr).all
      (fun i => !i.wellFormed) = true := by decide

theorem test_wellFormed_indices :
    ([.staleExpiry 4, .lostExpiry 4, .holdTimeout 4, .gripDeadline 4, .releaseDeadline 4, .arrivalTimeAbsent .controller,
        .arrivalTimeAbsent (.xDrive 4), .arrivalTimeAbsent (.saw 6)] : List Instr).all (fun i => !i.wellFormed) = true := by
  decide

theorem test_wellFormed_records :
    ([.nodeMapWrite 0 0 0 long47, .railWrite 0 0 0 long47, .carriageWrite 0 0 0 long47, .headWrite 0 0 0 long47,
        .cupLayoutWrite 0 0 0 long47, .sawWrite 0 0 0 long47, .bayWrite 0 0 0 long47, .queueWrite 0 0 0 long47,
        .fenceWrite 0 0 0 long47, .lampWrite 0 0 0 long47] : List Instr).all (fun i => !i.wellFormed) = true := by decide

theorem test_wellFormed_taken :
    ([.move 1 0 0 [], .param 0x11 1 0 0 [], .staleExpiry 3, .arrivalTimeAbsent (.saw 5), .lampWrite 0 0 0 [1, 1, 1]]
      : List Instr).all (·.wellFormed) = true := by decide

theorem test_no_word_spells_a_command : decodeTableWord 32 0 = none ∧ State.reset.withFetchWord 32 0 = State.reset := by
  decide

/-! Check word (R141) and classification (section 8.1, worked cases). -/

theorem test_checkWord :
    checkWord [0x31, 0x32, 0x33, 0x34, 0x35, 0x36, 0x37, 0x38, 0x39] = 0x29B1 ∧ checkWord [] = 0xFFFF := by decide +kernel

/-- A frame of kind 0x12 with `n` payload bytes, as it stands on the line after the marker. -/
def onLine (n : Nat) : List Byte := (Frame.wire ⟨1, 0, 0x12, 7, List.replicate n 5⟩).drop 1

theorem test_classify_worked_cases :
    classify [] = .short ∧ classify [1, 0, 0x12, 7] = .short ∧
      classify (onLine 2) = .good ⟨1, 0, 0x12, 7, [5, 5]⟩ ∧ classify [1, 0, 0x12, 7, 2, 5, 5, 0, 0] = .checkError ∧
      classify [1, 0, 0x12, 7, 3, 5, 5, 0, 0] = .short ∧ classify [1, 0, 0x12, 7, 3, 5, 5, 5, 5, 5, 5, 5] = .long ∧
      classify [1, 0, 0x12, 7, 49, 0, 0] = .long ∧ classify (onLine 48 ++ [0, 0, 0, 0, 0]) = .long ∧
      classify (onLine 48) = .good ⟨1, 0, 0x12, 7, List.replicate 48 5⟩ := by decide +kernel

/-! Chapter 2, worked cases. -/

/-- A carriage record of the worked cases, with its stopping fields and extents given. -/
def recordOf (ext aStop tReact vmax w l : Nat) : CarriageRecord :=
  { leftExt := ext
    rightExt := ext
    travelLo := 20000
    travelHi := 580000
    vmax := vmax
    aStop := aStop
    tReact := tReact
    vStill := 20
    zClear := 12000
    zMax := 20000
    w := w
    l := l
    holdTime := 1000
    startHeld := false
    park := none }

theorem test_stopping_distance :
    stopDistance (recordOf 0 2500 20 1 5 10) 600000 1500 = 4800 ∧ stopDistance (recordOf 0 3000 15 1 5 10) 600000 1234 = 2724 ∧
      stopDistance (recordOf 0 20000 1 1 5 10) 600000 1 = 2 ∧ stopDistance (recordOf 0 100 100 1 5 10) 600000 4000 = 600000 ∧
      stopDistance (recordOf 0 20000 0 1 5 10) 600000 32767 = 268420 ∧
      stopDistance (recordOf 0 20000 0 1 5 10) 200000 32767 = 200000 := by decide

/-- Carriage 0 of the widening case: the record that the examples of chapters 2 and 3 share. -/
def worked : CarriageRecord := recordOf 6000 2500 20 3000 20 100

theorem test_envelope :
    envelope worked 600000 100000 0 = ⟨94000, 106000⟩ ∧ envelope worked 600000 100000 1500 = ⟨94000, 110800⟩ ∧
      envelope worked 600000 100000 (-1500) = ⟨89200, 106000⟩ ∧ envelope worked 600000 597000 1500 = ⟨591000, 600000⟩ ∧
      envelope worked 600000 3000 (-1500) = ⟨0, 9000⟩ ∧ envelope worked 600000 100000 10 = ⟨94000, 106003⟩ ∧
      Interval.hull ⟨94000, 110800⟩ ⟨144000, 156000⟩ = ⟨94000, 156000⟩ := by decide

theorem test_widening :
    dStale worked = 2400 ∧ stopDistance worked 600000 3000 = 18600 ∧
      Interval.widen 600000 2400 ⟨94000, 106000⟩ = ⟨91600, 108400⟩ ∧
      Interval.widen 600000 18600 ⟨91600, 108400⟩ = ⟨73000, 127000⟩ ∧ dStale (recordOf 0 100 0 1234 20 27) = 87 ∧
      dStale (recordOf 0 100 0 4000 5 2000) = 79800 ∧ Interval.widen 600000 79800 ⟨20000, 40000⟩ = ⟨0, 119800⟩ := by decide

theorem test_shorter_target :
    let r : CarriageRecord := { recordOf 5000 2500 20 3000 20 100 with rightExt := 7000 }
    envelope r 400000 300000 (-1000) = ⟨292800, 307000⟩ ∧
      shorterTarget r 300000 260000 275000 400000 ⟨292800, 307000⟩ = some 280000 ∧
      shorterTarget r 282000 260000 275000 400000 ⟨274800, 289000⟩ = none ∧
      shorterTarget r 280000 260000 275000 400000 ⟨275000, 287000⟩ = none ∧
      shorterTarget r 281000 260000 275000 400000 ⟨276000, 288000⟩ = some 280000 := by decide

theorem test_footprint :
    let fits (dx dy : Int) : Bool := Cup.covered ⟨dx, dy, true⟩ 40 2800 2070
    fits 1300 950 = true ∧ fits 1400 0 = false ∧ fits (-1360) (-995) = true ∧ fits 600 (-500) = true ∧
      (presentCups 1).getLsbD 20 = false ∧ (presentCups 2).getLsbD 20 = true := by decide

theorem test_thickness :
    thicknessCheck 1518 4 190 = .double ∧ thicknessCheck 1140 4 190 = .ok ∧ thicknessCheck 189 2 190 = .thin ∧
      thicknessCheck 190 2 190 = .ok ∧ thicknessCheck 1351 3 300 = .ok ∧ thicknessCheck 8190 2 190 = .double := by decide

/-! The cell of the worked examples of sections 3.2 and 3.3: a rail of 600 000 pu with G 5000, carriage 0 at [40 000, 60 000],
carriage 1 standing at 100 000, carriage 2 at [160 000, 175 000], fence 3 ON over [80 000, 85 000]. -/

def headRecord : HeadRecord :=
  { r := 40, minCups := 6, minHold := 4, gripTime := 500, releaseTime := 600, press := 50, contactTol := 20, liftCheck := 500,
    n := 2 }

/-- A carriage that stands at a position, NORMAL, ACTIVE and FRESH, with a reservation. -/
def standing (p lo hi : Nat) : Carriage :=
  { ctx :=
      { membership := .normal
        runState := .active
        unseenOrigin := none
        fresh := true
        lastX := some ⟨p, 0, ⟨true, false, false⟩⟩
        lastZ := some ⟨18000, 0, ⟨true, false, false⟩⟩
        arrivalX := some 990
        arrivalZ := some 990
        arrivalHead := some 990
        inSetX := true
        inSetZ := true
        inSetHead := true }
    reservation := some ⟨⟨lo, hi⟩, .plain⟩ }

/-- CONTROLLER at 0; carriage k's X drive, Z drive and head at 3k + 1, 3k + 2, 3k + 3; saw j at 13 + j. -/
def cellMap : List (Option Role) :=
  [some .controller, some (.xDrive 0), some (.zDrive 0), some (.head 0), some (.xDrive 1), some (.zDrive 1), some (.head 1),
    some (.xDrive 2), some (.zDrive 2), some (.head 2), some (.xDrive 3), some (.zDrive 3), some (.head 3), some (.saw 0),
    some (.saw 1), some (.saw 2)] ++ List.replicate 47 none

def bay5 : Bay := ⟨.active, 100000, 500, 7, 2800, 2070, 190, 12, 1500⟩

def entry5 : Entry := ⟨5, 7, 2800, 2070, 190, none, .queued, none⟩

def cell : State :=
  { State.reset with
    lineClock := 1000
    rail := some ⟨600000, 5000, 3, 2⟩
    carriageRecords := List.replicate 4 (some worked)
    headRecords := List.replicate 4 (some headRecord)
    cupLayout := List.replicate 16 (some (List.replicate 8 ⟨0, 0, true⟩))
    carriages := [standing 50000 40000 60000, standing 100000 94000 106000, standing 167000 160000 175000]
    fences := State.reset.fences.set 3 ⟨⟨80000, 85000⟩, .on⟩
    bays := State.reset.bays.set 5 bay5
    saws := State.reset.saws.set 2 ⟨some ⟨100000, 500, 9000, 100⟩, true, true, some 950, 0, [entry5]⟩
    port := { State.reset.port with nodeMap := cellMap } }

/-- The cell with carriage 1 changed, and with its context changed. -/
def one (f : Carriage → Carriage) : State := cell.changed 1 f
def oneCtx (f : Context → Context) : State := one fun c => { c with ctx := f c.ctx }

/-- The next state of a command, for a test that looks at one part of it. -/
def after (i : Instr) (s : State) : State :=
  match exec i s with
  | .next t => t
  | .fault _ => s
  | .refused _ => s

/-- The cell with the two last samples of both pins low, with one of them low, and with both taken levels low. -/
def pinsAt (p : SampledPin) (s : State) : State := { s with inputs := { s.inputs with lrstN := p, estopN := p } }
def pinsFall : State := pinsAt ⟨false, false, false, true⟩ cell
def pinsPulse : State := pinsAt ⟨true, false, true, true⟩ cell
def pinsRise : State := pinsAt ⟨true, true, true, false⟩ cell
def pinsLow : State := pinsAt ⟨false, false, false, false⟩ cell

/-- The cell in the emergency state. -/
def emergency : State := after .estopAssertion pinsFall

/-- The state that an outcome goes on to. -/
def nextOf : Host.Outcome State Fault Refusal → State
  | .next t => t
  | .fault _ => State.reset
  | .refused _ => State.reset

def moveX (target speed : Nat) (a : BlockedAction) : Instr := .move 4 0 9 (moveBytes 0x21 .x target speed a false)

theorem test_free_limits :
    cell.leftFree 1 ⟨94000, 106000⟩ = ⟨90000, some (.fence 3)⟩ ∧
      cell.rightFree 1 ⟨94000, 106000⟩ = ⟨155000, some (.carriage 2)⟩ := by decide +kernel

/-- The span that a MOVE leaves carriage 1, and the cause of the last notice. -/
def spanAfter (target speed : Nat) (a : BlockedAction) : Option Interval × Option (Cause × Detail) :=
  let t := after (moveX target speed a) cell
  (t.span 1, t.management.notices.getLast?.map fun n => (n.cause, n.detail))

/-! Layouts of chapter 11: the sizes of the status records. -/

theorem test_record_sizes :
    (standing 1 1 1).ctx.bytes.length = 43 ∧ (sectionOneBytes none none (standing 1 1 1)).length = 22 ∧
      (slotBytes none).length = 28 ∧ (loadBytes (standing 1 1 1)).length = 35 ∧ cell.partBytes.length = 40 ∧
      (Notice.bytes ⟨.verdict, some 1, .tag 5, .refused, .cause .blocked, 7⟩).length = 16 := by decide +kernel

/-! Witnesses: for each statement with hypotheses, concrete states and operands that meet them, clause by clause, at the
bounds of a range. Conditions on every member of a small set are given as the test that decides them. -/

theorem runs {s : State} (h : s.inputs.resetLow = false ∧ s.reports = []) : s.Running := ⟨h.1, h.2⟩

theorem listens {s : State} {src : Byte}
    (h : s.inputs.resetLow = false ∧ s.port.ownAddress < 63 ∧ s.addressOf .controller = some src.toNat ∧
      s.management.requests = [] ∧ s.management.replies.length < 4 ∧ s.reports = []) : s.Listens src :=
  ⟨h.1, h.2.1, .inr h.2.2.1, h.2.2.2.1, h.2.2.2.2.1, h.2.2.2.2.2⟩

theorem noHeld {s : State} (h : s.carriages.all (·.slot.isNone) = true) : s.NoHeld := fun c hc =>
  Option.isNone_iff_eq_none.mp (List.all_eq_true.mp h c hc)

theorem noneHeldBut {s : State} {k : Nat}
    (h : ∀ j, j < s.carriages.length → j ≠ k → (s.carriage j).all (·.slot.isNone) = true) : s.NoneHeldBut k := by
  intro j hj c hc
  have hlt : j < s.carriages.length := by
    by_contra hn
    have : s.carriage j = none := List.getElem?_eq_none (by omega)
    simp [this] at hc
  have := h j hlt hj
  rw [hc] at this
  exact Option.isNone_iff_eq_none.mp this

theorem notOwn {s : State} {d : Byte} (h : s.isOwn d = false) : ¬s.Own d := fun ho => by
  rw [(isOwn_iff s d).mpr ho] at h
  exact Bool.noConfusion h

theorem own {s : State} {d : Byte} (h : s.isOwn d = true) : s.Own d := (isOwn_iff s d).mp h

/-- No bay of a list, or none before one, has its window over a position. -/
theorem notInBay {s : State} {p n : Nat}
    (h : (s.bays.take n).all (fun y => y.state == .unused || y.centre + y.tolerance < p || p + y.tolerance < y.centre) = true) :
    ∀ b, b < n → ¬s.InBayWindow p b := by
  rintro b hb ⟨y, hy, hu, h1, h2⟩
  have hm : y ∈ s.bays.take n := List.mem_of_getElem? (i := b) (by rw [List.getElem?_take_of_lt hb]; exact hy)
  have := List.all_eq_true.mp h y hm
  simp only [Bool.or_eq_true, beq_iff_eq, decide_eq_true_eq, hu, false_or] at this
  omega

theorem noBay {s : State} {p : Nat}
    (h : (s.bays.take s.bays.length).all
      (fun y => y.state == .unused || y.centre + y.tolerance < p || p + y.tolerance < y.centre) = true) :
    ∀ b, ¬s.InBayWindow p b := by
  rintro b ⟨y, hy, hr⟩
  exact notInBay h b (List.getElem?_eq_some_iff.mp hy).1 ⟨y, hy, hr⟩

/-- No saw, or none before one, has its window over a position. -/
theorem notInSaw {s : State} {p n : Nat}
    (h : (s.saws.take n).all
      (fun w => w.config.all fun y => y.centre + y.tolerance < p || p + y.tolerance < y.centre) = true) :
    ∀ j, j < n → ¬s.InSawWindow p j := by
  rintro j hj ⟨w, y, hw, hy, h1, h2⟩
  have hm : w ∈ s.saws.take n := List.mem_of_getElem? (i := j) (by rw [List.getElem?_take_of_lt hj]; exact hw)
  have := List.all_eq_true.mp h w hm
  simp only [hy, Option.all_some, Bool.or_eq_true, decide_eq_true_eq] at this
  omega

theorem noSaw {s : State} {p : Nat}
    (h : (s.saws.take s.saws.length).all
      (fun w => w.config.all fun y => y.centre + y.tolerance < p || p + y.tolerance < y.centre) = true) :
    ∀ j, ¬s.InSawWindow p j := by
  rintro j ⟨w, y, hw, hr⟩
  exact notInSaw h j (List.getElem?_eq_some_iff.mp hw).1 ⟨w, y, hw, hr⟩

theorem cell_listens : cell.Listens 0 := listens (by decide +kernel)

/-- A frame that waits. -/
def waiting : Frame := ⟨4, 0, 0x10, 1, moveBytes 1 .x 100000 100 .refuse false⟩

/-- The cell with a D-forward queue, a U-forward queue, notices or replies of a given length. -/
def downHolds (n : Nat) : State := { cell with port := { cell.port with dForward := List.replicate n waiting } }
def upHolds (n : Nat) : State := { cell with port := { cell.port with uForward := List.replicate n waiting } }
def noticesHeld (n : Nat) : State :=
  { cell with management := { cell.management with notices := List.replicate n ⟨.estop, none, .absent, .asserted, .absent, 0⟩ } }
def repliesHeld (n m : Nat) : State :=
  { cell with
    management :=
      { cell.management with replies := List.replicate n ⟨0, 0, .ok, []⟩, requests := List.replicate m waiting } }

/-- The cell with no mapped address. -/
def unmapped : State := { cell with port := { cell.port with nodeMap := List.replicate 63 none } }

theorem witness_StepRunsFrontCommand :
    ({ cell with pending := [.notice, .stopSend] } : State).pending = .notice :: [.stopSend] := rfl

/-- The part just out of power-on reset, with nothing due. -/
def fresh : State := after (.powerOnReset 20 true true) State.reset

theorem witness_ResetNLowHolds :
    ({ cell with inputs := { cell.inputs with resetLow := true } } : State).inputs.resetLow = true ∧
      Instr.notice ≠ .resetNLow ∧ ∀ straps l e, Instr.notice ≠ .powerOnReset straps l e := by
  refine ⟨rfl, by decide, ?_⟩
  intro _ _ _ h
  cases h

theorem witness_ReceptionCounted :
    cell.Running ∧ cell.port.receiverU = .between ∧ cell.port.receiverD = .between ∧
      (after (.startMarker .u) cell).Running ∧ (after (.startMarker .u) cell).port.receiverU = .inFrame ∧
      (after (.startMarker .d) cell).port.receiverD = .inFrame ∧ classify [1, 0, 0x12, 7] = .short ∧
      classify (onLine 48 ++ [0]) = .long ∧ classify [1, 0, 0x12, 7, 0, 0, 0] = .checkError :=
  ⟨runs (by decide +kernel), by decide +kernel, by decide +kernel, runs (by decide +kernel), by decide +kernel,
    by decide +kernel, by decide +kernel, by decide +kernel, by decide +kernel⟩

theorem witness_FramesClassifiedAndReadBack :
    (onLine 48 ++ [0]).length ≤ 56 ∧ ((onLine 48 ++ [0]).getD 4 0).toNat = 48 ∧ (onLine 48).length = 55 ∧
      (List.replicate 48 (5 : Byte)).length ≤ 48 ∧ 4294967295 < 4294967296 ∧ 65535 < 65536 := by decide +kernel

theorem witness_OtherFramesPassDown :
    (downHolds 7).Running ∧ (downHolds 8).Running ∧ ¬(downHolds 7).Own 40 ∧ ¬(downHolds 8).Own 6 ∧
      (((0x10 : Byte) = 0x10) ∧ (40 : Byte).toNat ≠ 63 ∧ (downHolds 7).port.nodeMap.any (·.isSome) = true ∧
        (downHolds 7).roleOf 40 = none) ∧
      ((downHolds 8).roleOf 6 = some (.head 1) ∧ ∀ k axis, some (Role.head 1) ≠ some (driveRole k axis)) ∧
      (downHolds 7).port.dForward.length < 8 ∧ 8 ≤ (downHolds 8).port.dForward.length := by
  refine ⟨runs (by decide +kernel), runs (by decide +kernel), notOwn (by decide +kernel), notOwn (by decide +kernel),
    by decide +kernel, ⟨by decide +kernel, ?_⟩, by decide +kernel, by decide +kernel⟩
  intro k axis h
  cases axis <;> cases h

theorem witness_MisdirectedFromU :
    cell.Running ∧ cell.Own 20 ∧ (63 : Byte).toNat = 63 ∧ unmapped.Running ∧
      unmapped.port.nodeMap.all (·.isNone) = true ∧ cell.roleOf 6 = some (.head 1) ∧ cell.roleOf 4 = some (.xDrive 1) ∧
      (∀ k axis, Role.head 1 ≠ driveRole k axis) ∧ ∀ k, Role.xDrive 1 ≠ .head k := by
  refine ⟨runs (by decide +kernel), own (by decide +kernel), by decide, runs (by decide +kernel), by decide +kernel,
    by decide +kernel, by decide +kernel, ?_, ?_⟩
  · intro k axis h
    cases axis <;> cases h
  · intro k h
    cases h

theorem witness_ManagementFrameTaken :
    (repliesHeld 4 3).Running ∧ (repliesHeld 4 3).Own 20 ∧ (repliesHeld 4 3).addressOf .controller = some 0 ∧
      (0 : Nat) ≠ (9 : Byte).toNat ∧ some 0 = some (0 : Byte).toNat ∧ 4 ≤ (repliesHeld 4 3).management.replies.length ∧
      (repliesHeld 4 3).management.requests.length < 4 ∧ (repliesHeld 4 4).Running ∧
      4 ≤ (repliesHeld 4 4).management.requests.length ∧ cell.management.requests = [] ∧ cell.Running ∧ cell.Own 20 ∧
      cell.Listens 0 ∧ (cell.fences[7]?).isSome = true ∧ cell.fences[8]? = none :=
  ⟨runs (by decide +kernel), own (by decide +kernel), by decide +kernel, by decide, by decide, by decide +kernel,
    by decide +kernel, runs (by decide +kernel), by decide +kernel, by decide +kernel, runs (by decide +kernel), own (by decide +kernel),
    cell_listens, by decide +kernel, by decide +kernel⟩

/-- The tables that a read answers from, at their first and last index and one beyond: the Node Map at the own address and at 62
and 63, records written and unwritten, a Feed Queue at its last position and beyond it, a carriage installed and not. -/
theorem witness_ManagementFrameTaken_reads :
    cell.Listens 0 ∧ (20 : Byte).toNat = cell.port.ownAddress ∧ cell.port.nodeMap[(62 : Byte).toNat]? = some none ∧
      cell.port.nodeMap[(63 : Byte).toNat]? = none ∧ cell.port.nodeMap[(13 : Byte).toNat]? = some (some (.saw 0)) ∧
      cell.carriageRecords[(3 : Byte).toNat]? = some (some worked) ∧ cell.carriageRecords[(4 : Byte).toNat]? = none ∧
      fresh.headRecords[(3 : Byte).toNat]? = some none ∧ cell.headRecords[(4 : Byte).toNat]? = none ∧
      (cell.cupLayout[(15 : Byte).toNat]?).isSome = true ∧ cell.cupLayout[(16 : Byte).toNat]? = none ∧
      (cell.saws[(2 : Byte).toNat]?).map (·.queue) = some [entry5] ∧ cell.saws[(6 : Byte).toNat]? = none ∧
      (1 : Byte).toNat = 0 + 1 ∧ [entry5].length < (2 : Byte).toNat ∧ (32 : Byte).toNat ≤ 32 ∧ 32 < (33 : Byte).toNat ∧
      (cell.bays[(23 : Byte).toNat]?).isSome = true ∧ cell.bays[(24 : Byte).toNat]? = none ∧
      cell.carriage (2 : Byte).toNat = some (standing 167000 160000 175000) ∧ cell.carriage (3 : Byte).toNat = none ∧
      2 < (3 : Byte).toNat ∧ 0x0A < (0x0B : Byte).toNat ∧ (0x1F : Byte).toNat < 0x20 ∧ 0x23 < (0x24 : Byte).toNat :=
  ⟨cell_listens, by decide +kernel⟩

/-- The layouts of section 11.4: a BAY read puts the state first; a QUEUE read of position 1 is 14 bytes. -/
theorem test_reads :
    let data (payload : List Byte) : Option (List Byte) :=
      ((after (.mgRequest .read 20 0 1 payload) cell).management.replies.head?).map (·.data)
    data [0x07, 5] = some [1, 0xA0, 0x86, 1, 0, 0xF4, 1, 7, 0, 0xF0, 0x0A, 0x16, 8, 0xBE, 0, 12, 0xDC, 5] ∧
      data [0x08, 2, 1] = some [1, 5, 0, 7, 0, 0xF0, 0x0A, 0x16, 8, 0xBE, 0, 0xFF, 0, 0xFF] := by
  decide +kernel

theorem witness_NoticeHandedByMapAndQueue :
    unmapped.addressOf .controller = none ∧ (noticesHeld 15).addressOf .controller = some 0 ∧
      (noticesHeld 15).management.notices.length < 16 ∧ (noticesHeld 16).addressOf .controller = some 0 ∧
      16 ≤ (noticesHeld 16).management.notices.length := by decide +kernel

/-- A held move that carriage `j` blocks. -/
def heldBy (j : Nat) : HeldMove :=
  { axis := .x, target := 100000, speed := 500, tag := 7, action := .wait, cause := .blocked, side := some .left,
    blocker := some (.carriage j), arrival := 900, deadline := 1000, stamp := 0, lastClamped := none,
    waitingForRoom := false }

theorem witness_StopRequestedByPart :
    unmapped.addressOf (driveRole 1 .x) = none ∧ (downHolds 8).addressOf (driveRole 1 .x) = some 4 ∧
      (downHolds 8).addressOf (driveRole 1 .z) = some 5 ∧
      (downHolds 8).port.dForward.any (fun f => f.kind == 0x10 && f.dst.toNat == 4) = true ∧
      ((downHolds 8).changed 2 fun c => { c with slot := some { heldBy 1 with waitingForRoom := true } }).someWaits = true :=
  by decide +kernel

theorem witness_ControllerStopTaken :
    cell.Running ∧ ¬cell.Own 4 ∧ cell.roleOf (4 : Byte).toNat = some (driveRole 1 .x) ∧
      cell.roleOf (5 : Byte).toNat = some (driveRole 1 .z) ∧
      ((downHolds 8).changed 2 fun c => { c with slot := some { heldBy 1 with waitingForRoom := true } }).Running ∧
      ¬((downHolds 8).changed 2 fun c => { c with slot := some { heldBy 1 with waitingForRoom := true } }).Own 4 :=
  ⟨runs (by decide +kernel), notOwn (by decide +kernel), by decide +kernel, by decide +kernel, runs (by decide +kernel),
    notOwn (by decide +kernel)⟩

/-- The bounds of the thickness clauses: 2 × average equal to 3 × T, and one more; equal to T, and one less. -/
theorem witness_EnvelopeArithmetic :
    0 < worked.aStop ∧ 0 < 1 ∧ (3 * 190 ≤ 2 * (570 / 2) ∧ 2 * (570 / 2) ≤ 3 * 190) ∧ 3 * 190 < 2 * (572 / 2) ∧
      (190 ≤ 2 * (190 / 2) ∧ 2 * (190 / 2) ≤ 3 * 190) ∧ 2 * (189 / 2) < 190 := by decide

/-! A MOVE refused. -/

def movePayload (speed : Nat) (a : BlockedAction) : List Byte := moveBytes 0x21 .x 130000 speed a false

theorem witness_MoveRefused_notNormal :
    cell.Running ∧ ¬cell.Own 10 ∧ (10 : Byte).toNat ≠ 63 ∧ cell.roleOf 10 = some (driveRole 3 .x) ∧ cell.carriage 3 = none ∧
      ((oneCtx fun c => { c with membership := .isolated }).carriage 1).map (·.ctx.membership) = some .isolated ∧
      ((oneCtx fun c => { c with membership := .excluded }).carriage 1).map (·.ctx.membership) = some .excluded :=
  ⟨runs (by decide +kernel), notOwn (by decide +kernel), by decide, by decide +kernel, by decide +kernel,
    by decide +kernel, by decide +kernel⟩

theorem witness_MoveRefused_normal :
    cell.Running ∧ ¬cell.Own 4 ∧ cell.roleOf 4 = some (.xDrive 1) ∧
      (cell.carriage 1).map (fun c => (c.ctx.membership, c.slot)) = some (.normal, none) ∧
      parseMove (movePayload 2000 .refuse) = some ⟨0x21, some .x, 130000, 2000, some .refuse⟩ ∧
      cell.record 1 = some worked ∧ ((cell.carriage 1).bind (·.ctx.lastX)).isSome = true ∧
      parseMove [1] = none :=
  ⟨runs (by decide +kernel), notOwn (by decide +kernel), by decide +kernel, by decide +kernel, by decide +kernel,
    by decide +kernel, by decide +kernel, by decide +kernel⟩

/-- One state for each cause: emergency, run state, freshness, a head one below zClear, a load that is busy, a rejected
load, a speed limit of 0. -/
theorem witness_MoveRefused_causes :
    (emergency).inputs.emergency = true ∧ cell.inputs.emergency = false ∧
      (oneCtx fun c => { c with runState := .halted }).runState 1 = some .halted ∧
      ((oneCtx fun c => { c with fresh := false }).carriage 1).map (·.ctx.fresh) = some false ∧
      ((oneCtx fun c => { c with lastZ := some ⟨11999, 0, ⟨true, false, false⟩⟩ }).carriage 1).any
        (fun c => c.ctx.lastZ.any fun z => z.position < worked.zClear) = true ∧
      (cell.carriage 1).any (fun c => c.ctx.lastZ.any fun z => worked.zClear ≤ z.position) = true ∧
      (cell.carriage 1).any (fun c => c.ctx.activeZ.isNone && c.load.isNone) = true ∧
      (parseMove (movePayload 0 .wait)).map (·.speed) = some 0 := by decide +kernel

/-! A MOVE forwarded, blocked, lowered or rehearsed. -/

def loadOf (phase : LoadPhase) : LoadRecord :=
  { phase := phase, jobSaw := 2, jobSeq := 5, originBay := 5, pickTop := 3780, thickness := 190, length := 2800,
    width := 2070, mask := 0xFF, putBack := false, deadline := some 1500, sum := 0, count := 0, beforeRelease := none }

/-- The decisive values of an X MOVE for carriage 1: its clamped target, its span, and its free limits. -/
def fitOf (target : Nat) : Nat × Interval × Limit × Limit :=
  let t := clampTarget worked target
  (t, (envelope worked 600000 100000 0).hull (occupancy worked 600000 t), cell.leftFree 1 (occupancy worked 600000 100000),
    cell.rightFree 1 (occupancy worked 600000 100000))

/-- The conditions on carriage 1 that the X MOVE statements share. -/
theorem witness_moving_carriage :
    cell.Running ∧ cell.NoHeld ∧ ¬cell.Own 4 ∧ (4 : Byte).toNat ≠ 63 ∧ cell.roleOf (4 : Byte).toNat = some (.xDrive 1) ∧
      cell.record 1 = some worked ∧ cell.inputs.emergency = false ∧
      cell.carriage 1 = some (standing 100000 94000 106000) ∧ (standing 100000 94000 106000).slot = none ∧
      (standing 100000 94000 106000).ctx.membership = .normal ∧ (standing 100000 94000 106000).ctx.runState = .active ∧
      (standing 100000 94000 106000).ctx.fresh = true ∧ worked.zClear ≤ 18000 ∧
      (standing 100000 94000 106000).ctx.activeZ = none ∧ (standing 100000 94000 106000).load = none :=
  ⟨runs (by decide +kernel), noHeld (by decide +kernel), notOwn (by decide +kernel), by decide, by decide +kernel,
    by decide +kernel, by decide +kernel, by decide +kernel, rfl, rfl, rfl, rfl, by decide, rfl, rfl⟩

/-- The furthest target that fits, 149 000, whose span ends at the free limit; queue lengths 7 and 8. -/
theorem witness_XMoveForwarded :
    fitOf 149000 = (149000, ⟨94000, 155000⟩, ⟨90000, some (.fence 3)⟩, ⟨155000, some (.carriage 2)⟩) ∧
      cell.fencedTarget (occupancy worked 600000 100000) (occupancy worked 600000 149000) = false ∧
      (moveX 149000 3000 .refuse) = .move 4 0 9 (moveBytes 0x21 .x 149000 3000 .refuse false) ∧
      parseMove (moveBytes 0x21 .x 149000 3000 .refuse false) = some ⟨0x21, some .x, 149000, 3000, some .refuse⟩ ∧
      (downHolds 7).port.dForward.length < 8 ∧ 8 ≤ (downHolds 8).port.dForward.length := by decide +kernel

/-- One pu further is blocked on the right by carriage 2; a target left of 96 000 on the left by fence 3; a fence over
carriage 1 refuses a target inside it; and carriage 2 holding a move blocked by carriage 1 makes a deadlock. -/
theorem witness_XMoveBlocked :
    fitOf 149001 = (149001, ⟨94000, 155001⟩, ⟨90000, some (.fence 3)⟩, ⟨155000, some (.carriage 2)⟩) ∧
      fitOf 95999 = (95999, ⟨89999, 106000⟩, ⟨90000, some (.fence 3)⟩, ⟨155000, some (.carriage 2)⟩) ∧
      (({ cell with fences := State.reset.fences.set 3 ⟨⟨90000, 96000⟩, .on⟩ } : State).fencedTarget ⟨94000, 106000⟩
        (occupancy worked 600000 88000)) = true ∧
      shorterTarget worked 100000 150000 90000 106000 ⟨94000, 106000⟩ = none ∧
      shorterTarget worked 100000 150000 90000 155000 ⟨94000, 106000⟩ = some 149000 := by decide +kernel

theorem witness_XMoveBlocked_deadlock :
    (((cell.changed 2 fun c => { c with slot := some (heldBy 1) }).carriage 2).bind (·.slot)).bind (·.blocker) =
      some (.carriage 1) := by decide +kernel

/-- The cell without bay 5, so that carriage 1 stands over saw 2; a load of carriage 1 raised above zClear. -/
def bare (t : State) : State := { t with bays := State.reset.bays }
def aloft (load : Option LoadRecord) : State := one fun c => { c with load := load }
/-- Bay 5 in a state. -/
def bayIn (st : BayState) (t : State) : State := { t with bays := State.reset.bays.set 5 { bay5 with state := st } }

theorem witness_windows :
    (∀ load st, (bayIn st (aloft load)).OverBay 100500 5 ∨ st = .unused) ∧ (∀ load, (bare (aloft load)).OverSaw 100500 2) ∧
      (∀ b, ¬cell.InBayWindow 100501 b) ∧ ∀ j, ¬cell.InSawWindow 100501 j := by
  refine ⟨fun load st => ?_, fun load => ⟨noBay ?_, ?_, notInSaw ?_⟩, noBay (by decide +kernel), noSaw (by decide +kernel)⟩
  · by_cases hu : st = .unused
    · exact .inr hu
    · exact .inl ⟨⟨{ bay5 with state := st }, by rfl, hu, by simp [bay5], by simp [bay5]⟩, notInBay (by rfl)⟩
  · rfl
  · exact ⟨_, _, rfl, rfl, by decide, by decide⟩
  · rfl

/-- A raise to zClear itself, and a lowering one below it: over bay 5 with no load; over bay 5, ACTIVE or EMPTY, with a panel
that came from it; over saw 2 with a LOADED load. -/
theorem witness_ZMoveForwarded :
    cell.Running ∧ ¬cell.Own 5 ∧ cell.roleOf (5 : Byte).toNat = some (.zDrive 1) ∧
      parseMove (moveBytes 1 .z 12000 500 .refuse false) = some ⟨1, some .z, 12000, 500, some .refuse⟩ ∧
      worked.zClear ≤ 12000 ∧ 11999 < 18000 ∧ 11999 < worked.zClear ∧
      cell.bays[5]? = some bay5 ∧ bay5.state = .active ∧ cell.head 1 = some headRecord ∧
      (standing 100000 94000 106000).ctx.activeX = none ∧ (0 : Int).natAbs ≤ worked.vStill ∧
      (bayIn .empty (aloft (some (loadOf .rejected)))).Running ∧
      (bayIn .empty (aloft (some (loadOf .rejected)))).roleOf (5 : Byte).toNat = some (.zDrive 1) ∧
      ((bayIn .empty (aloft (some (loadOf .rejected)))).carriage 1).bind (·.load) = some (loadOf .rejected) ∧
      (loadOf .rejected).originBay = 5 ∧ (bare (aloft (some (loadOf .loaded)))).Running ∧
      ((bare (aloft (some (loadOf .loaded)))).carriage 1).bind (·.load) = some (loadOf .loaded) ∧
      ((bare cell).saws[2]?).bind (·.config) = some ⟨100000, 500, 9000, 100⟩ :=
  ⟨runs (by decide +kernel), notOwn (by decide +kernel), by decide +kernel, by decide +kernel, by decide, by decide,
    by decide, by decide +kernel, rfl, by decide +kernel, rfl, by decide, runs (by decide +kernel), by decide +kernel,
    by decide +kernel, rfl, runs (by decide +kernel), by decide +kernel, by decide +kernel⟩

def rehearsal : State :=
  one fun c => { c with virtualX := some 100000, ctx := { c.ctx with membership := .shadow, runState := .halted } }

theorem witness_ShadowMoveReported :
    rehearsal.Running ∧ ¬rehearsal.Own 4 ∧ ¬rehearsal.Own 5 ∧ rehearsal.roleOf (4 : Byte).toNat = some (driveRole 1 .x) ∧
      rehearsal.roleOf (5 : Byte).toNat = some (driveRole 1 .z) ∧ rehearsal.record 1 = some worked ∧
      (rehearsal.carriage 1).map (fun c => (c.virtualX, c.ctx.membership, c.ctx.runState, c.ctx.fresh)) =
        some (some 100000, .shadow, .halted, true) ∧
      rehearsal.fencedTarget ⟨94000, 106000⟩ (occupancy worked 600000 149000) = false ∧
      (rehearsal.leftFree 1 ⟨94000, 106000⟩).value ≤ 94000 ∧ 155000 ≤ (rehearsal.rightFree 1 ⟨94000, 106000⟩).value :=
  ⟨runs (by decide +kernel), notOwn (by decide +kernel), notOwn (by decide +kernel), by decide +kernel, by decide +kernel,
    by decide +kernel, by decide +kernel, by decide +kernel, by decide +kernel, by decide +kernel⟩

/-- The state in which the shadow judgement of carriage 1 is that of NORMAL (R68). -/
def thereOf (t : State) : State :=
  t.changed 1 fun c =>
    { c with
      slot := none
      ctx :=
        { c.ctx with
          membership := .normal
          runState := .active
          activeX := none
          lastX := c.virtualX.map fun p => ⟨p, 0, ⟨true, false, true⟩⟩ } }

/-- A judgement of each kind: refused, waiting, blocked with and without a shorter target, fitting on X; a raise; and a lowering
that is taken though an X move is active (R68). Carriage 1 without a virtual position, and UNSEEN. -/
theorem witness_ShadowMoveReported_lines :
    let judged (t : State) (axis : Axis) (target speed : Nat) : Judgement := judge (thereOf t) 1 false axis target speed
    let rehearsing (f : Context → Context) : State := rehearsal.changed 1 fun c => { c with ctx := f c.ctx }
    judged rehearsal .x 130000 0 = .refuse .badField ∧
      judged (rehearsing fun c => { c with lastZ := some ⟨11999, 0, ⟨true, false, false⟩⟩ }) .x 130000 500 =
        .waitable .headLow ∧
      judged rehearsal .x 149001 500 = .blocked ⟨.right, some (.carriage 2), some 149000, true, 500⟩ ∧
      judged (rehearsal.changed 2 fun c => { c with reservation := some ⟨⟨111000, 175000⟩, .plain⟩ }) .x 149001 500 =
        .blocked ⟨.right, some (.carriage 2), none, true, 500⟩ ∧
      judged rehearsal .x 149000 500 = .forward 149000 500 false ∧ judged rehearsal .z 30000 500 = .forward 20000 500 true ∧
      judged (rehearsing fun c => { c with activeX := some ⟨1, 1⟩ }) .z 0 500 = .forward 3730 500 true ∧
      ((rehearsal.changed 1 fun c => { c with virtualX := none }).carriage 1).map (·.virtualX) = some none ∧
      ((rehearsing fun c => { c with runState := .stopping }).carriage 1).map (·.ctx.runState) = some .stopping ∧
      ((rehearsing fun c => { c with fresh := false }).carriage 1).map (·.ctx.fresh) = some false ∧
      emergency.inputs.emergency = true ∧ parseMove [1] = none := by
  decide +kernel

/-- An X MOVE of the cell admitted, clamped to the shorter target, and held (R57 to R61); CLAMP_WAIT with a shorter target in
rehearsal is reported CLAMPED with x′, then WOULD_HOLD BLOCKED, and the virtual position is x′ (R69). -/
theorem test_move_x :
    let t := after (moveX 150000 500 .clampWait) rehearsal
    spanAfter 130000 2000 .refuse = (some ⟨94000, 136000⟩, none) ∧
      spanAfter 590000 2000 .clamp = (some ⟨94000, 155000⟩, some (.clamped, .position 149000)) ∧
      spanAfter 150000 2000 .clampWait = (some ⟨94000, 155000⟩, some (.held, .cause .blocked)) ∧
      spanAfter 590000 2000 .refuse = (some ⟨94000, 106000⟩, some (.refused, .cause .blocked)) ∧
      t.management.notices.map (fun n => (n.kind, n.cause, n.detail)) =
        [(.shadowVerdict, .clamped, .position 149000), (.shadowVerdict, .wouldHold, .cause .blocked)] ∧
      (t.carriage 1).bind (·.virtualX) = some 149000 := by decide +kernel

/-! GRIP. -/

/-- Carriage 1 lowered on bay 5's stack (top 3780, contactTol 20), with a load or none. -/
def overBay (z : Nat) (load : Option LoadRecord) (image : Cups) : State :=
  one fun c =>
    { c with load := load, image := image, ctx := { c.ctx with lastZ := some ⟨z, 0, ⟨true, false, false⟩⟩ } }

def gripAll (low : Byte) : List Byte := [low, 0, 0, 0, 2, 5, 0]

theorem witness_GripJudged :
    cell.Running ∧ ¬cell.Own 6 ∧ (6 : Byte).toNat ≠ 63 ∧ cell.roleOf (6 : Byte).toNat = some (.head 1) ∧
      cell.roleOf (12 : Byte).toNat = some (.head 3) ∧ cell.carriage 3 = none ∧
      (emergency).inputs.emergency = true ∧
      ((overBay 3800 (some (loadOf .checking)) 0xFF).carriage 1).any (fun c => c.load.any (·.phase == .checking)) = true ∧
      parseGrip .all [1] = none ∧ parseGrip .all (gripAll 0) = some ⟨0, some (2, 5)⟩ ∧
      resultingImage .all 0 0xFF 1 &&& ~~~(0xFF : Cups) = 0 :=
  ⟨runs (by decide +kernel), notOwn (by decide +kernel), by decide, by decide +kernel, by decide +kernel,
    by decide +kernel, by decide +kernel, by decide +kernel, by decide +kernel, by decide +kernel, by decide +kernel⟩

/-- A pick at the greatest height allowed, 3800, with exactly minCups cups, of the entry at the head of the queue. -/
theorem witness_PickForwarded :
    (overBay 3800 none 0).Running ∧ ¬(overBay 3800 none 0).Own 6 ∧
      ((overBay 3800 none 0).carriage 1).map (fun c => (c.ctx.membership, c.load)) = some (.normal, none) ∧
      parseGrip .all (gripAll 0x3F) = some ⟨0x3F, some (2, 5)⟩ ∧ (overBay 3800 none 0).head 1 = some headRecord ∧
      ((overBay 3800 none 0).saws[2]?).bind (·.queue[0]?) = some entry5 ∧ entry5.state = .queued ∧
      0 + 1 ≤ (overBay 3800 none 0).lookahead ∧ (overBay 3800 none 0).bayAt 100000 = some 5 ∧
      (overBay 3800 none 0).bays[5]? = some bay5 ∧ bay5.state = .active ∧ entry5.sourceBay = none ∧
      (bay5.material, bay5.length, bay5.width, bay5.thickness) =
        (entry5.material, entry5.length, entry5.width, entry5.thickness) ∧
      3800 ≤ bay5.base + bay5.count * bay5.thickness + headRecord.contactTol ∧
      resultingImage .all 0x3F 0 1 &&& ~~~(0 : Cups) ≠ 0 ∧
      resultingImage .all 0x3F 0 1 &&& ~~~(allowedMask (overBay 3800 none 0) 1 40 1 2800 2070) &&& ~~~(gripCarried .all) = 0 ∧
      headRecord.minCups ≤ cupCount (resultingImage .all 0x3F 0 1 &&& allowedMask (overBay 3800 none 0) 1 40 1 2800 2070) ∧
      (overBay 3800 none 0).port.dForward.length < 8 := by
  refine ⟨runs (by decide +kernel), notOwn (by decide +kernel), ?_⟩
  decide +kernel

/-- A put-back at the pick height, and a place at the greatest height over saw 2's table. -/
theorem witness_ReleaseForwarded :
    (overBay 3800 (some (loadOf .rejected)) 0xFF).Running ∧ (overBay 9210 (some (loadOf .loaded)) 0xFF).Running ∧
      ¬cell.Own 6 ∧ (gripAll 0 = [0, 0, 0, 0, 2, 5, 0] ∧ parseGrip .all (gripAll 0) = some ⟨0, some (2, 5)⟩) ∧
      (100000 ≤ bay5.centre + bay5.tolerance ∧ bay5.centre ≤ 100000 + bay5.tolerance) ∧
      3800 ≤ (loadOf .rejected).pickTop + headRecord.contactTol ∧
      ¬9210 ≤ (loadOf .loaded).pickTop + headRecord.contactTol ∧
      9210 ≤ 9000 + (loadOf .loaded).thickness + headRecord.contactTol ∧ age 1000 950 ≤ 100 ∧
      (cell.saws[2]?).map (fun w => (w.ready, w.infeedClear, w.arrival, w.queue)) =
        some (true, true, some 950, [entry5]) ∧
      cupCount (resultingImage .all 0 0xFF 1) < headRecord.minHold := by
  refine ⟨runs (by decide +kernel), runs (by decide +kernel), notOwn (by decide +kernel), ?_⟩
  decide +kernel

/-! Reports from port D. -/

theorem witness_SenseSawRead :
    cell.Running ∧ (upHolds 8).Running ∧ ¬cell.Own 0 ∧ cell.roleOf (15 : Byte).toNat = some (.saw 2) ∧
      (∀ j, some (Role.xDrive 1) ≠ some (.saw j)) ∧ cell.roleOf (4 : Byte).toNat = some (.xDrive 1) ∧
      (upHolds 7).port.uForward.length < 8 ∧ ¬(upHolds 8).port.uForward.length < 8 := by
  refine ⟨runs (by decide +kernel), runs (by decide +kernel), notOwn (by decide +kernel), by decide +kernel, ?_,
    by decide +kernel, by decide +kernel, by decide +kernel⟩
  intro j h
  cases h

theorem witness_OtherFramesPassUp :
    cell.Running ∧ cell.Own 20 ∧ ¬cell.Own 0 ∧ (0x12 : Byte) ≠ 0x60 ∧ (0x12 : Byte) ≠ 0x61 ∧ (0x12 : Byte) ≠ 0x62 ∧
      (0x12 : Byte) ≠ 0x20 ∧ (0x12 : Byte) ≠ 0x40 ∧ (0x12 : Byte) ≠ 0x41 :=
  ⟨runs (by decide +kernel), own (by decide +kernel), notOwn (by decide +kernel), by decide, by decide, by decide,
    by decide, by decide, by decide⟩

/-- A STATE payload: position, speed and status byte, tag 0. -/
def stateBytes (p v : Nat) (status : Byte) : List Byte := leBytes 4 p ++ leBytes 2 v ++ [status, 0]

/-- A report whose candidate is the stored span, and one that grows it. -/
theorem witness_StateOfActiveCarriage :
    cell.Running ∧ cell.NoHeld ∧ ¬cell.Own 0 ∧ cell.roleOf (5 : Byte).toNat = some (.zDrive 1) ∧
      cell.roleOf (4 : Byte).toNat = some (.xDrive 1) ∧
      parseState (stateBytes 100000 0 1) = some ⟨⟨100000, 0, ⟨true, false, false⟩⟩, 0⟩ ∧
      cell.carriage 1 = some (standing 100000 94000 106000) ∧
      (envelope worked 600000 100000 0).within ⟨94000, 106000⟩ = true ∧
      (envelope worked 600000 100001 0).within ⟨94000, 106000⟩ = false :=
  ⟨runs (by decide +kernel), noHeld (by decide +kernel), notOwn (by decide +kernel), by decide +kernel,
    by decide +kernel, by decide +kernel, by decide +kernel, by decide +kernel, by decide +kernel⟩

/-- Carriage 1 UNSEEN after a line reset, its drives reported 19 ms ago (W is 20), standing at vStill or moving above it. -/
def unseenAt (v : Int) : State :=
  one fun c =>
    { c with
      reservation := none
      ctx :=
        { c.ctx with
          runState := .unseen
          unseenOrigin := some .lineReset
          fresh := false
          lastX := some ⟨100000, v, ⟨true, false, false⟩⟩
          arrivalX := some 981
          arrivalZ := some 981
          arrivalHead := none
          inSetHead := false } }

def headBytes (vacuum modules : Byte) (reading : Nat) : List Byte := [vacuum, 0, 0, 0, modules] ++ leBytes 2 reading

theorem witness_FirstDataTaken :
    (unseenAt 20).Running ∧ (unseenAt 20).NoHeld ∧ ¬(unseenAt 20).Own 0 ∧ (unseenAt 21).Running ∧ (unseenAt 21).NoHeld ∧
      (unseenAt 20).roleOf (6 : Byte).toNat = some (.head 1) ∧ parseSenseHead (headBytes 0 1 0) = some ⟨0, 1, 0⟩ ∧
      ((unseenAt 20).carriage 1).map (fun c => (c.ctx.runState, c.load, c.ctx.inSetX, c.ctx.inSetZ)) =
        some (.unseen, none, true, true) ∧
      (unseenAt 20).record 1 = some worked ∧ age 1000 981 < worked.w ∧
      (unseenAt 20).closeNeighbours 1 (envelope worked 600000 100000 20) = [] ∧
      (unseenAt 21).closeNeighbours 1 (envelope worked 600000 100000 21) = [] ∧ (20 : Int).natAbs ≤ worked.vStill ∧
      worked.vStill < (21 : Int).natAbs :=
  ⟨runs (by decide +kernel), noHeld (by decide +kernel), notOwn (by decide +kernel), runs (by decide +kernel),
    noHeld (by decide +kernel), by decide +kernel, by decide +kernel, by decide +kernel, by decide +kernel, by decide,
    by decide +kernel, by decide +kernel, by decide, by decide⟩

def stoppingOne : State := oneCtx fun c => { c with runState := .stopping, stillX := true }

theorem witness_StillMarksSet :
    stoppingOne.Running ∧ stoppingOne.NoHeld ∧ ¬stoppingOne.Own 0 ∧ stoppingOne.runState 1 = some .stopping ∧
      (parseState (stateBytes 18000 20 1)).map (fun r => (r.axis.velocity, r.axis.status.fault)) = some (20, false) ∧
      (parseState (stateBytes 18000 21 1)).map (·.axis.velocity) = some 21 ∧
      stoppingOne.roleOf (5 : Byte).toNat = some (.zDrive 1) ∧ stoppingOne.roleOf (4 : Byte).toNat = some (.xDrive 1) :=
  ⟨runs (by decide +kernel), noHeld (by decide +kernel), notOwn (by decide +kernel), by decide +kernel, by decide +kernel,
    by decide +kernel, by decide +kernel, by decide +kernel⟩

theorem witness_SenseHeadRead :
    cell.Running ∧ ¬cell.Own 0 ∧ cell.roleOf (6 : Byte).toNat = some (.head 1) ∧ (standing 100000 94000 106000).load = none ∧
      (overBay 3800 (some (loadOf .gripping)) 0xFF).Running ∧ (overBay 3800 (some (loadOf .releasing)) 0xFF).Running ∧
      parseSenseHead (headBytes 0xFF 1 0) = some ⟨0xFF, 1, 0⟩ ∧ (0xFF : Cups) &&& (loadOf .gripping).mask = 0xFF ∧
      parseSenseHead (headBytes 0x7F 1 0) = some ⟨0x7F, 1, 0⟩ ∧
      (0x7F : Cups) &&& (loadOf .gripping).mask ≠ (loadOf .gripping).mask ∧ (0x7F : Cups) &&& (loadOf .releasing).mask ≠ 0 :=
  ⟨runs (by decide +kernel), notOwn (by decide +kernel), by decide +kernel, rfl, runs (by decide +kernel),
    runs (by decide +kernel), by decide +kernel, by decide +kernel, by decide +kernel, by decide +kernel, by decide +kernel⟩

/-- Exactly minHold cups under vacuum; the lift height and one below it; the last reading of two giving averages at each
bound of R41. -/
theorem witness_ThicknessDecided :
    (overBay 4280 (some (loadOf .checking)) 0xFF).Running ∧ (overBay 4280 (some (loadOf .checking)) 0xFF).NoHeld ∧
      cupCount ((0x0F : Cups) &&& (loadOf .checking).mask) = headRecord.minHold ∧
      4279 < (loadOf .checking).pickTop + headRecord.liftCheck ∧ (loadOf .checking).pickTop + headRecord.liftCheck ≤ 4280 ∧
      0 + 1 < headRecord.n ∧ headRecord.n ≤ 1 + 1 ∧ 3 * 190 < 2 * (572 / headRecord.n) ∧
      ¬3 * 190 < 2 * (571 / headRecord.n) ∧ 2 * (189 / headRecord.n) < 190 ∧ 190 ≤ 2 * (190 / headRecord.n) := by
  refine ⟨runs (by decide +kernel), noHeld (by decide +kernel), ?_⟩
  decide +kernel

theorem witness_LoadLost :
    (overBay 9210 (some (loadOf .loaded)) 0xFF).Running ∧ (overBay 9210 (some (loadOf .loaded)) 0xFF).NoHeld ∧
      cupCount ((0x07 : Cups) &&& (loadOf .loaded).mask) < headRecord.minHold ∧
      (overBay 9210 (some (loadOf .releasing)) 0xFF).Running ∧ (0 : Cups) &&& (loadOf .releasing).mask = 0 ∧
      (loadOf .releasing).putBack = false ∧ { loadOf .releasing with putBack := true }.putBack = true :=
  ⟨runs (by decide +kernel), noHeld (by decide +kernel), by decide +kernel, runs (by decide +kernel), by decide, rfl, rfl⟩

/-! Expiries. -/

/-- Carriage 1 whose oldest report is `ms` old, FRESH or not; W is 20 and L is 100. -/
def silent (ms : Nat) (fresh : Bool) : State := oneCtx fun c => { c with arrivalHead := some (1000 - BitVec.ofNat 32 ms), fresh := fresh }

/-- The stale deadline reached and one short of it; the widened span clear of the neighbours (G 5000), and too close to
carriage 0 where that stands at [40 000, 88 000]. -/
theorem witness_StaleExpiryTaken :
    (silent 20 true).Running ∧ (silent 20 true).NoHeld ∧ (silent 20 true).staleDeadline 1 = some 1000 ∧
      reached 1000 1000 = true ∧ (silent 19 true).staleDeadline 1 = some 1001 ∧ reached 1000 1001 = false ∧
      ((silent 20 true).carriage 1).bind (·.reservation) = some ⟨⟨94000, 106000⟩, .plain⟩ ∧
      (silent 20 true).closeNeighbours 1 ⟨91600, 108400⟩ = [] ∧ (silent 20 true).nearFenceOf 1 ⟨91600, 108400⟩ = false ∧
      ((silent 20 true).changed 0 fun c => { c with reservation := some ⟨⟨40000, 88000⟩, .plain⟩ }).closeNeighbours 1
        ⟨91600, 108400⟩ = [0] ∧
      ((silent 20 true).changed 0 fun c => { c with reservation := some ⟨⟨40000, 88000⟩, .plain⟩ }).NoHeld := by
  refine ⟨runs (by decide +kernel), noHeld (by decide +kernel), by decide +kernel, by decide, by decide +kernel, by decide,
    by decide +kernel, by decide +kernel, by decide +kernel, by decide +kernel, noHeld (by decide +kernel)⟩

/-- The lost deadline reached, one short of it, and a neighbour too close to the frozen span. -/
theorem witness_LostExpiryTaken :
    (silent 101 false).Running ∧ (silent 101 false).NoneHeldBut 1 ∧ (silent 101 false).lostDeadline 1 = some 1000 ∧
      reached 1000 1000 = true ∧ (silent 100 false).lostDeadline 1 = some 1001 ∧
      ((silent 101 false).carriage 1).map (·.ctx.fresh) = some false ∧
      ((silent 101 false).changed 0 fun c => { c with reservation := some ⟨⟨40000, 80000⟩, .plain⟩ }).closeNeighbours 1
        ⟨94000 - 18600, 106000 + 18600⟩ = [0] ∧
      (silent 101 false).closeNeighbours 1 ⟨94000 - 18600, 106000 + 18600⟩ = [] :=
  ⟨runs (by decide +kernel), noneHeldBut (by decide +kernel), by decide +kernel, by decide, by decide +kernel,
    by decide +kernel, by decide +kernel, by decide +kernel⟩

/-- Carriage 1 holding a move to 130 000 that waits for room and now fits. -/
def waitsForRoom (deadline : Clock) : State :=
  one fun c =>
    { c with slot := some { heldBy 2 with target := 130000, deadline := deadline, waitingForRoom := true } }

/-- `n` reports of room stand. -/
def roomFor (n : Nat) (s : State) : State := { s with port := { s.port with roomReports := n } }

theorem witness_HeldMoveTimersAndRoom :
    (waitsForRoom 1000).Running ∧ (waitsForRoom 1000).NoneHeldBut 1 ∧ reached 1000 1000 = true ∧ reached 1000 1001 = false ∧
      (cell.carriage 1).bind (·.slot) = none ∧ (roomFor 2 (downHolds 8)).port.roomReports = 1 + 1 ∧
      (roomFor 2 (downHolds 8)).Running ∧ (roomFor 1 (waitsForRoom 1001)).Running ∧
      (roomFor 1 (waitsForRoom 1001)).NoneHeldBut 1 ∧ (roomFor 1 (waitsForRoom 1001)).port.roomReports = 0 + 1 ∧
      8 ≤ (downHolds 8).port.dForward.length ∧ (waitsForRoom 1001).port.roomReports = 0 ∧
      (((waitsForRoom 1001).carriage 1).bind (·.slot)).map (·.waitingForRoom) = some true ∧
      (waitsForRoom 1001).port.dForward.length < 8 ∧ (waitsForRoom 1001).addressOf (driveRole 1 .x) = some 4 ∧
      judge (waitsForRoom 1001) 1 false .x 130000 500 = .forward 130000 500 false :=
  ⟨runs (by decide +kernel), noneHeldBut (by decide +kernel), by decide, by decide, by decide +kernel, by decide +kernel,
    runs (by decide +kernel), runs (by decide +kernel), noneHeldBut (by decide +kernel), by decide +kernel,
    by decide +kernel, by decide +kernel, by decide +kernel, by decide +kernel, by decide +kernel, by decide +kernel⟩

/-- Deadlines at the present time, and one millisecond ahead. -/
theorem witness_HeadDeadlinesTaken :
    let load (phase : LoadPhase) (d : Clock) : State := overBay 3800 (some { loadOf phase with deadline := some d }) 0xFF
    (load .gripping 1000).Running ∧ (load .gripping 1000).NoHeld ∧ (load .releasing 1000).Running ∧
      (load .releasing 1000).NoHeld ∧ (load .gripping 1001).NoHeld ∧ reached 1000 1000 = true ∧ reached 1000 1001 = false ∧
      cell.NoHeld ∧ (cell.carriage 1).map (·.load) = some none :=
  ⟨runs (by decide +kernel), noHeld (by decide +kernel), runs (by decide +kernel), noHeld (by decide +kernel),
    noHeld (by decide +kernel), by decide, by decide, noHeld (by decide +kernel), by decide +kernel⟩

theorem witness_ArrivalTimeForgotten :
    cell.Running ∧ cell.arrivalOf (.saw 2) = some 950 ∧ age 1000 950 < 2147483648 ∧
      (oneCtx fun c => { c with arrivalX := some (1000 - 2147483648) }).arrivalOf (.xDrive 1) = some (1000 - 2147483648) ∧
      2147483648 ≤ age 1000 (1000 - 2147483648) ∧ age 1000 (1001 - 2147483648) < 2147483648 :=
  ⟨runs (by decide +kernel), by decide +kernel, by decide, by decide +kernel, by decide, by decide⟩

/-! Transmitters. -/

/-- The cell with a STOP entry waiting. -/
def stopWaits : State := { downHolds 2 with port := { (downHolds 2).port with stops := [⟨4, .halt, .part, 20, 3⟩] } }

theorem witness_DownstreamTransmitter :
    stopWaits.Running ∧ stopWaits.port.transmitterD = .free ∧ stopWaits.port.stops = ⟨4, .halt, .part, 20, 3⟩ :: [] ∧
      (downHolds 2).Running ∧ (downHolds 2).port.transmitterD = .free ∧ (downHolds 2).port.stops = [] ∧
      (downHolds 2).port.dForward = waiting :: [waiting] ∧ cell.port.dForward = [] ∧
      (after .stopSend stopWaits).port.transmitterD = .sending ⟨4, 20, 0x11, 3, [1]⟩ true ∧
      (after .stopSend stopWaits).Running ∧ (after .dForwardSend (downHolds 2)).port.transmitterD = .sending waiting false :=
  ⟨runs (by decide +kernel), by decide +kernel, by decide +kernel, runs (by decide +kernel), by decide +kernel,
    by decide +kernel, by decide +kernel, by decide +kernel, by decide +kernel, runs (by decide +kernel),
    by decide +kernel⟩

/-- R147: the report that a departure makes stands until it is taken. Taken at once, the held move of carriage 1 takes the place;
taken after a frame has arrived, the frame has the place, and the held move stays marked. -/
theorem test_room_in_either_order :
    let full : State := { waitsForRoom 2000 with port := (downHolds 8).port }
    let left := after .dForwardSend full
    let first := after .waitingForRoom left
    let arrived := after (.param 0x12 40 0 1 []) left
    let second := after .waitingForRoom arrived
    let marked (s : State) : Option Bool := ((s.carriage 1).bind (·.slot)).map (·.waitingForRoom)
    (left.port.roomReports, left.port.dForward.length, marked left) = (1, 7, some true) ∧
      (first.port.roomReports, first.port.dForward.length, marked first) = (0, 8, none) ∧
      (arrived.port.dForward.length, second.port.roomReports, marked second) = (8, 0, some true) := by decide +kernel

theorem witness_UpstreamTransmitter :
    (upHolds 2).Running ∧ (upHolds 2).management.requests = [] ∧ (upHolds 2).port.transmitterU = .free ∧
      (upHolds 2).port.uForward = waiting :: [waiting] ∧ (repliesHeld 2 0).port.uForward = [] ∧
      (repliesHeld 2 0).management.replies = ⟨0, 0, .ok, []⟩ :: [⟨0, 0, .ok, []⟩] ∧ (noticesHeld 1).management.replies = [] ∧
      (noticesHeld 1).management.notices = ⟨.estop, none, .absent, .asserted, .absent, 0⟩ :: [] ∧
      (noticesHeld 1).addressOf .controller = some 0 ∧
      (after .uForwardSend (upHolds 2)).port.transmitterU = .sending waiting false :=
  ⟨runs (by decide +kernel), by decide +kernel, by decide +kernel, by decide +kernel, by decide +kernel,
    by decide +kernel, by decide +kernel, by decide +kernel, by decide +kernel, by decide +kernel⟩

/-! Resets and pins. -/

/-- R169: two low samples in a row are taken, a level seen at one sample alone is not. From the high level the tick takes in the
levels that the outside gives; the third of them settles. -/
theorem test_two_samples :
    let run (levels : List PinLevels) : State :=
      let start : State := { fresh with inputs := { fresh.inputs with coming := levels } }
      levels.foldl (fun s _ => nextOf (step s)) start
    let low : PinLevels := ⟨false, true⟩
    let high : PinLevels := ⟨true, true⟩
    (run [low]).inputs.lrstN.changes = false ∧ (run [low, high]).inputs.lrstN.changes = false ∧
      (run [low, low]).inputs.lrstN.falls = true ∧ (run [high, low, high, low]).inputs.lrstN.changes = false := by
  decide +kernel

/-- Taken levels that fall and rise; a level seen at one sample, and one already taken, which do nothing. -/
theorem witness_LineResetTaken :
    pinsFall.Running ∧ (pinsFall.inputs.lrstN.taken, pinsFall.inputs.lrstN.sample, pinsFall.inputs.lrstN.sampleBefore) =
        (true, false, false) ∧
      pinsRise.Running ∧ (pinsRise.inputs.lrstN.taken, pinsRise.inputs.lrstN.sample, pinsRise.inputs.lrstN.sampleBefore) =
        (false, true, true) ∧
      pinsPulse.Running ∧ pinsPulse.inputs.lrstN.sampleBefore = true ∧ pinsLow.Running ∧
      pinsLow.inputs.lrstN.taken = false ∧ cell.Listens 0 :=
  ⟨runs (by decide +kernel), by decide +kernel, runs (by decide +kernel), by decide +kernel, runs (by decide +kernel),
    by decide +kernel, runs (by decide +kernel), by decide +kernel, cell_listens⟩

theorem witness_LineResetEffect : cell.carriages.length ≤ 4 ∧ cell.carriage 1 = some (standing 100000 94000 106000) := by
  decide +kernel

theorem witness_EstopAsserted :
    pinsFall.Running ∧ pinsFall.lawful = true ∧
      (pinsFall.inputs.estopN.taken, pinsFall.inputs.estopN.sample, pinsFall.inputs.estopN.sampleBefore) =
        (true, false, false) ∧
      pinsPulse.Running ∧ pinsPulse.lawful = true ∧ pinsPulse.inputs.estopN.sampleBefore = true ∧ pinsLow.Running ∧
      pinsLow.lawful = true ∧ pinsLow.inputs.estopN.taken = false ∧ emergency.inputs.emergency = true :=
  ⟨runs (by decide +kernel), by decide +kernel, by decide +kernel, runs (by decide +kernel), by decide +kernel,
    by decide +kernel, runs (by decide +kernel), by decide +kernel, by decide +kernel, by decide +kernel⟩

theorem witness_EstopReleased :
    pinsRise.Running ∧
      (pinsRise.inputs.estopN.taken, pinsRise.inputs.estopN.sample, pinsRise.inputs.estopN.sampleBefore) =
        (false, true, true) ∧
      cell.Running ∧ cell.inputs.estopN.taken = true :=
  ⟨runs (by decide +kernel), by decide +kernel, runs (by decide +kernel), by decide +kernel⟩

/-- BLINK1 at 1 Hz and half duty goes dark at 500 000 µs, and not before; a LAMP write at the greatest listed codes, and one
above them. -/
theorem witness_LampsBlinkAndAreWritten :
    let at_ (t : Nat) : State := { cell with lamps := { cell.lamps with phase := t } }
    (at_ 500000).Running ∧ (at_ 500000).lamps.points .blink1 < (at_ 500000).lamps.pointsDue .blink1 ∧
      (at_ 499999).lamps.pointsDue .blink1 ≤ (at_ 499999).lamps.points .blink1 ∧ cell.Listens 0 ∧
      Blink1Frequency.code .four = (3 : Byte).toNat ∧ Blink2Frequency.code .sixteen = (3 : Byte).toNat ∧
      Duty.code .threeQuarters = (2 : Byte).toNat ∧ 3 < (4 : Byte).toNat ∧ 2 < (3 : Byte).toNat :=
  ⟨runs (by decide +kernel), by decide +kernel, by decide +kernel, cell_listens, rfl, rfl, rfl, by decide, by decide⟩

/-! Management requests. -/

theorem witness_RefusedRequestChangesNothing : (carryOut cell ⟨20, 0, 0x62, 1, [0x02, 3]⟩).code ≠ .ok := by decide +kernel

/-- Carriage 1 HALTED and ISOLATED with a reservation, and with a neighbour. -/
def isolatedOne : State := oneCtx fun c => { c with runState := .halted, membership := .isolated }

theorem witness_MembershipSet :
    cell.Listens 0 ∧ cell.carriages.length ≤ (3 : Byte).toNat ∧ (2 : Byte).toNat < cell.carriages.length ∧
      3 < (4 : Byte).toNat ∧ Membership.code .normal = (0 : Byte).toNat ∧ isolatedOne.Listens 0 ∧
      isolatedOne.currentEnvelope 1 = some ⟨94000, 106000⟩ ∧ isolatedOne.closeNeighbours 1 ⟨94000, 106000⟩ = [] ∧
      isolatedOne.clearOfFences ⟨94000, 106000⟩ = true ∧
      (isolatedOne.changed 0 fun c => { c with reservation := some ⟨⟨40000, 89001⟩, .plain⟩ }).closeNeighbours 1
        ⟨94000, 106000⟩ = [0] ∧
      (isolatedOne.changed 1 fun c => { c with ctx := { c.ctx with fresh := false } }).Listens 0 ∧
      (oneCtx fun c => { c with runState := .halted, membership := .excluded }).Listens 0 ∧
      (cell.carriage 1).map (fun c => (c.slot, c.ctx.activeX, c.ctx.activeZ)) = some (none, none, none) :=
  ⟨cell_listens, by decide +kernel, by decide +kernel, by decide, rfl, listens (by decide +kernel), by decide +kernel,
    by decide +kernel, by decide +kernel, by decide +kernel, listens (by decide +kernel), listens (by decide +kernel),
    by decide +kernel⟩

theorem witness_HaltCarriedOut :
    cell.Listens 0 ∧ cell.carriages.length ≤ (3 : Byte).toNat ∧ (waitsForRoom 1000).Listens 0 ∧
      (waitsForRoom 1000).runState 1 = some .active ∧ stoppingOne.Listens 0 ∧ stoppingOne.runState 1 = some .stopping ∧
      isolatedOne.Listens 0 ∧ isolatedOne.runState 1 = some .halted :=
  ⟨cell_listens, by decide +kernel, listens (by decide +kernel), by decide +kernel, listens (by decide +kernel),
    by decide +kernel, listens (by decide +kernel), by decide +kernel⟩

/-- Carriage 1 HALTED and ready to resume; with carriage 0 exactly G away, and one pu closer. -/
def haltedBeside (hi : Nat) : State :=
  (oneCtx fun c => { c with runState := .halted }).changed 0 fun c => { c with reservation := some ⟨⟨40000, hi⟩, .plain⟩ }

theorem witness_ResumeCarriedOut :
    cell.Listens 0 ∧ (haltedBeside 89000).Listens 0 ∧ (haltedBeside 89000).closeNeighbours 1 ⟨94000, 106000⟩ = [] ∧
      (haltedBeside 89001).Listens 0 ∧ (haltedBeside 89001).closeNeighbours 1 ⟨94000, 106000⟩ = [0] ∧
      (haltedBeside 89000).currentOccupancy 1 = some ⟨94000, 106000⟩ ∧
      ((haltedBeside 89000).fences.all fun f =>
        !f.standing || ((haltedBeside 89000).fenceSpan f).intersects ⟨94000, 106000⟩ ||
          Interval.apart 5000 ⟨94000, 106000⟩ ((haltedBeside 89000).fenceSpan f)) = true ∧
      ((haltedBeside 89000).carriage 1).map (fun c => (c.ctx.fresh, c.ctx.flags, c.ctx.membership)) =
        some (true, {}, .normal) ∧
      (isolatedOne.Listens 0 ∧ isolatedOne.runState 1 = some .halted) ∧ stoppingOne.Listens 0 :=
  ⟨cell_listens, listens (by decide +kernel), by decide +kernel, listens (by decide +kernel), by decide +kernel,
    by decide +kernel, by decide +kernel, by decide +kernel, ⟨listens (by decide +kernel), by decide +kernel⟩,
    listens (by decide +kernel)⟩

theorem witness_FaultsCleared :
    let flagged : State := oneCtx fun c => { c with runState := .halted, flags := { c.flags with excursion := true } }
    cell.Listens 0 ∧ cell.carriages.length ≤ (3 : Byte).toNat ∧ flagged.Listens 0 ∧
      (flagged.carriage 1).map (fun c => (c.load, c.ctx.runState, c.ctx.fresh)) = some (none, .halted, true) ∧
      ((flagged.carriage 1).bind (·.ctx.lastX)).map (·.status.fault) = some false ∧
      ((flagged.carriage 1).bind (·.ctx.lastZ)).map (·.status.fault) = some false ∧ (silent 101 false).Listens 0 :=
  ⟨cell_listens, by decide +kernel, listens (by decide +kernel), by decide +kernel, by decide +kernel, by decide +kernel,
    listens (by decide +kernel)⟩

/-- Fence 7 OFF and touching carriage 2's reservation at one point; fence 0 OFF and clear; fence 3 ON. -/
def fenced : State := { cell with fences := cell.fences.set 7 ⟨⟨175000, 180000⟩, .off⟩ }

theorem witness_FencesSwitched :
    fenced.Listens 0 ∧ 7 < (8 : Byte).toNat ∧ (7 : Byte).toNat < 8 ∧ fenced.fences[7]? = some ⟨⟨175000, 180000⟩, .off⟩ ∧
      fenced.fenceHeld ⟨⟨175000, 180000⟩, .off⟩ = true ∧ fenced.fences[0]? = some ⟨⟨0, 0⟩, .off⟩ ∧
      fenced.fenceHeld ⟨⟨0, 0⟩, .off⟩ = false ∧ fenced.fences[3]? = some ⟨⟨80000, 85000⟩, .on⟩ ∧ fenced.NoHeld :=
  ⟨listens (by decide +kernel), by decide, by decide, by decide +kernel, by decide +kernel, by decide +kernel,
    by decide +kernel, by decide +kernel, noHeld (by decide +kernel)⟩

/-- A BAY record of a clear or record form, and of an unlisted one. -/
def bayBytes (form : Byte) (count : Nat) : List Byte :=
  [form] ++ leBytes 4 100000 ++ leBytes 2 500 ++ leBytes 2 7 ++ leBytes 2 2800 ++ leBytes 2 2070 ++ leBytes 2 190 ++
    leBytes 1 count ++ leBytes 2 1500

/-- Bay 5 free (carriage 1 stands raised in its window) and in use (lowered one below zClear); bay 23 and index 24. -/
theorem witness_BaysChanged :
    cell.Listens 0 ∧ 23 < (24 : Byte).toNat ∧ cell.bays.length = 24 ∧ (5 : Byte).toNat < 24 ∧ cell.bays[5]? = some bay5 ∧
      cell.bayInUse 5 = false ∧ (overBay 11999 none 0).Listens 0 ∧ (overBay 11999 none 0).bayInUse 5 = true ∧
      (bayBytes 0 12).length = 18 ∧ (parseBay (bayBytes 0 54)).top + 100 ≤ worked.zClear ∧
      ¬(parseBay (bayBytes 0 55)).top + 100 ≤ worked.zClear ∧ (bayBytes 1 0).head? = some 1 ∧
      (bayBytes 2 0).head? = some 2 ∧ cell.bays[23]? = some ⟨.unused, 0, 0, 0, 0, 0, 0, 0, 0⟩ :=
  ⟨cell_listens, by decide, by decide +kernel, by decide, by decide +kernel, by decide +kernel, listens (by decide +kernel),
    by decide +kernel, by decide +kernel, by decide +kernel, by decide +kernel, rfl, rfl, by decide +kernel⟩

/-- Saw 2's queue with its entry in a given state. -/
def queueWith (st : EntryState) : State := { cell with saws := cell.saws.modify 2 fun w => { w with queue := [{ entry5 with state := st }] } }

theorem witness_EntriesRetiredAndRequeued :
    (queueWith .queued).Listens 0 ∧ (queueWith .picked).Listens 0 ∧ (queueWith .faulted).Listens 0 ∧ 5 < (6 : Byte).toNat ∧
      (2 : Byte).toNat < 6 ∧ ((queueWith .queued).saws[2]?).map (·.queue) = some ([] ++ entry5 :: []) ∧
      entry5.sequence = (5 : BitVec 16).toNat ∧ entry5.sequence ≠ (6 : BitVec 16).toNat ∧
      ((queueWith .picked).saws[2]?).map (fun w => w.queue.map (·.state)) = some [.picked] ∧
      ((queueWith .faulted).saws[2]?).map (fun w => w.queue.map (·.state)) = some [.faulted] :=
  ⟨listens (by decide +kernel), listens (by decide +kernel), listens (by decide +kernel), by decide, by decide,
    by decide +kernel, by decide, by decide, by decide +kernel, by decide +kernel⟩

/-- The cell with every carriage ISOLATED and HALTED: the line is idle. -/
def idle : State :=
  { cell with
    carriages := cell.carriages.map fun c => { c with ctx := { c.ctx with membership := .isolated, runState := .halted } } }

theorem witness_NodeMapWritten :
    idle.Listens 0 ∧ idle.lineIdle = true ∧ cell.lineIdle = false ∧ 62 < (63 : Byte).toNat ∧
      (20 : Byte).toNat = idle.port.ownAddress ∧ (62 : Byte).toNat ≤ 62 ∧ (62 : Byte).toNat ≠ idle.port.ownAddress ∧
      5 < (6 : Byte).toNat ∧ 3 < (4 : Byte).toNat ∧ 5 < (6 : Byte).toNat ∧
      Role.codes (some (.saw 5)) = ((5 : Byte).toNat, (5 : Byte).toNat) ∧ (Role.saw 5).inRange = true ∧
      idle.addressOf (.saw 5) = none ∧ idle.addressOf .controller = some 0 ∧ stopWaits.Listens 0 ∧
      stopWaits.port.stops.any (·.node == 4) = true :=
  ⟨listens (by decide +kernel), by decide +kernel, by decide +kernel, by decide, by decide +kernel, by decide,
    by decide +kernel, by decide, by decide, by decide, rfl, rfl, by decide +kernel, by decide +kernel,
    listens (by decide +kernel), by decide +kernel⟩

/-- A RAIL record. -/
def railBytes (railLength n : Nat) : List Byte := leBytes 4 railLength ++ leBytes 2 5000 ++ leBytes 1 n ++ leBytes 1 2

/-- A rail of the same length with one carriage fewer or more; the shortest that holds travelHi 580 000, and one pu less;
a removed carriage with a load. -/
theorem witness_RailWritten :
    idle.Listens 0 ∧ (railBytes 600000 4).length = 8 ∧ parseRail (railBytes 600000 4) = ⟨600000, 5000, 4, 2⟩ ∧
      idle.rail = some ⟨600000, 5000, 3, 2⟩ ∧ (parseRail (railBytes 580000 4)).railLength = worked.travelHi ∧
      (parseRail (railBytes 579999 4)).railLength < worked.travelHi ∧ cell.Listens 0 ∧ cell.lineIdle = false ∧
      (idle.changed 2 fun c => { c with load := some (loadOf .loaded) }).Listens 0 ∧
      (((idle.changed 2 fun c => { c with load := some (loadOf .loaded) }).carriage 2).bind (·.load)).isSome = true ∧
      ({ idle with carriages := idle.carriages.map fun c => { c with reservation := none } } : State).Listens 0 ∧
      (parseRail (railBytes 600001 4)).railLength = 600001 :=
  ⟨listens (by decide +kernel), by decide +kernel, by decide +kernel, by decide +kernel, by decide +kernel,
    by decide +kernel, cell_listens, by decide +kernel, listens (by decide +kernel), by decide +kernel,
    listens (by decide +kernel), by decide +kernel⟩

/-- The 37 bytes of the worked carriage record, and of one whose vStill is out of range. -/
def carriageBytes : List Byte := (CarriageRecord.bytes (some worked)).drop 1
def wrongBytes : List Byte := (CarriageRecord.bytes (some { worked with vStill := 51 })).drop 1

theorem witness_CarriageWritten :
    cell.Listens 0 ∧ carriageBytes.length = 37 ∧ 3 < (4 : Byte).toNat ∧ parseCarriage carriageBytes = some worked ∧
      worked.inRange 600000 = true ∧ (parseCarriage wrongBytes).map (·.inRange 600000) = some false ∧
      cell.carriage (3 : Byte).toNat = none ∧ cell.runState 1 = some .active ∧ isolatedOne.Listens 0 ∧ isolatedOne.NoHeld ∧
      isolatedOne.runState 1 = some .halted ∧ isolatedOne.closeNeighbours 1 ⟨94000, 106000⟩ = [] ∧
      (oneCtx fun c => { c with runState := .unseen, membership := .isolated }).Listens 0 ∧
      (oneCtx fun c => { c with runState := .halted, membership := .excluded }).Listens 0 ∧
      worked.park = (cell.record 1).bind (·.park) ∧
      ({ isolatedOne with carriageRecords := isolatedOne.carriageRecords.set 1 (some { worked with park := some ⟨0, 9⟩ }) }
        : State).Listens 0 ∧ 1 < isolatedOne.carriageRecords.length :=
  ⟨cell_listens, by decide +kernel, by decide, by decide +kernel, by decide +kernel, by decide +kernel, by decide +kernel,
    by decide +kernel, listens (by decide +kernel), noHeld (by decide +kernel), by decide +kernel, by decide +kernel,
    listens (by decide +kernel), listens (by decide +kernel), by decide +kernel, listens (by decide +kernel),
    by decide +kernel⟩

/-- Records of HEAD, CUP_LAYOUT, SAW and FENCE at bounds of their ranges, and beyond. -/
theorem witness_RecordsReplaced :
    let cups (dx : Nat) : List Byte := leBytes 2 dx ++ List.replicate 30 0 ++ [0xFF]
    let saw (freshness : Nat) : List Byte := leBytes 4 600000 ++ leBytes 2 5000 ++ leBytes 2 25000 ++ leBytes 2 freshness
    let fence (lo hi : Nat) : List Byte := leBytes 4 lo ++ leBytes 4 hi
    cell.Listens 0 ∧ isolatedOne.Listens 0 ∧ ((HeadRecord.bytes (some headRecord)).drop 1).length = 13 ∧
      (parseHead ((HeadRecord.bytes (some headRecord)).drop 1)).inRange = true ∧
      (parseHead (List.replicate 13 0)).inRange = false ∧ cell.headFree 1 = false ∧ isolatedOne.headFree 1 = true ∧
      cell.headFree 3 = true ∧ (cups 2800).length = 33 ∧ (parseCups (cups 2800)).all (·.inRange) = true ∧
      (parseCups (cups 2801)).all (·.inRange) = false ∧ (saw 1000).length = 10 ∧
      (parseSaw (saw 1000)).inRange 600000 = true ∧ (parseSaw (saw 1001)).inRange 600000 = false ∧
      (cell.saws[2]?).map (·.queue) = some [entry5] ∧ (cell.saws[5]?).map (·.queue) = some [] ∧ cell.saws[6]? = none ∧
      (fence 5 600000).length = 8 ∧ parseFence (fence 5 5) = ⟨5, 5⟩ ∧ parseFence (fence 5 4) = ⟨5, 4⟩ ∧
      parseFence (fence 5 600001) = ⟨5, 600001⟩ ∧ (cell.fences[3]?).map (·.state) = some .on ∧
      (cell.fences[7]?).map (·.state) = some .off ∧ cell.fences[8]? = none :=
  ⟨cell_listens, listens (by decide +kernel), by decide +kernel⟩

/-- An entry's bytes: sequence, then material 7, 2800 × 2070 × 190, any bay. -/
def entryBytes (q : Nat) (bay : Byte) : List Byte :=
  leBytes 2 q ++ leBytes 2 7 ++ leBytes 2 2800 ++ leBytes 2 2070 ++ leBytes 2 190 ++ [bay]

/-- Saw 2's queue with 31 and with 32 entries, sequences 1 to 31 and 1 to 32. -/
def queueOf (n : Nat) : State :=
  { cell with saws := cell.saws.modify 2 fun w => { w with queue := (List.range n).map fun i => { entry5 with sequence := i + 1 } } }

theorem witness_EntryAppended :
    (queueOf 31).Listens 0 ∧ (queueOf 31).saws.length = 6 ∧ (entryBytes 32 23).length = 11 ∧ 5 < (6 : Byte).toNat ∧
      (parseEntry (entryBytes 32 23)).inRange = true ∧ (parseEntry (entryBytes 32 24)).inRange = false ∧
      (parseEntry (entryBytes 32 255)).inRange = true ∧
      ((queueOf 31).saws[2]?).map (fun w => (w.queue.length, w.queue.getLast?.map (·.sequence))) = some (31, some 31) ∧
      field (entryBytes 31 23) 0 2 ≤ 31 ∧ 31 < field (entryBytes 32 23) 0 2 ∧ (queueOf 32).Listens 0 ∧
      ((queueOf 32).saws[2]?).map (·.queue.length) = some 32 :=
  ⟨listens (by decide +kernel), by decide +kernel, by decide +kernel, by decide, by decide +kernel, by decide +kernel,
    by decide +kernel, by decide +kernel, by decide +kernel, by decide +kernel, listens (by decide +kernel),
    by decide +kernel⟩

theorem witness_StatusAndCountersRead :
    cell.Listens 0 ∧ (1 : Byte) ≠ 0 ∧ 3 < (4 : Byte).toNat ∧ 8 < (9 : Byte).toNat ∧ 1 < (2 : Byte).toNat ∧
      (8 : Byte).toNat = 7 + 1 ∧ 7 < 8 := ⟨cell_listens, by decide⟩

/-! More witnesses: the clauses of widened statements. -/

/-- The part just out of power-on reset, with the samples of its pins given. -/
def settling (lrstN estopN : SampledPin) : State :=
  { fresh with inputs := { fresh.inputs with lrstN := lrstN, estopN := estopN } }

theorem witness_StepRunsFrontCommand_time :
    fresh.pending = [] ∧ fresh.inputs.resetLow = false ∧ (∀ k, fresh.carriage k = none) ∧
      (∀ role, fresh.arrivalOf role = none) ∧ (∀ b, fresh.lamps.pointsDue b ≤ fresh.lamps.points b) ∧
      (fresh.inputs.lrstN.sample = fresh.inputs.lrstN.taken ∧ fresh.inputs.estopN.sample = fresh.inputs.estopN.taken) ∧
      (settling ⟨false, false, false, true⟩ ⟨true, true, true, true⟩).pending = [] ∧
      (settling ⟨true, false, true, true⟩ ⟨false, false, false, true⟩).pending = [] ∧
      fresh.port.roomReports = 0 ∧ fresh.inputs.coming = [] ∧ (roomFor 1 fresh).port.roomReports = 0 + 1 ∧
      (silent 101 false).pending = [] ∧ reached 1000 1000 = true ∧ (silent 101 false).lostDeadline 1 = some 1000 ∧
      ({ fresh with inputs := { fresh.inputs with resetLow := true } } : State).pending = [] := by
  have noCarriage (k : Nat) : fresh.carriage k = none := by
    have : fresh.carriages = [] := by decide +kernel
    simp [State.carriage, this]
  have noSaw (j : Nat) : (fresh.saws[j]?).bind (·.arrival) = none := by
    have : fresh.saws = List.replicate 6 {} := by decide +kernel
    rw [this, List.getElem?_replicate]
    split <;> rfl
  refine ⟨by decide +kernel, by decide +kernel, noCarriage, ?_, ?_, by decide +kernel, by decide +kernel,
    by decide +kernel, by decide +kernel, by decide +kernel, by decide +kernel, by decide +kernel, by decide,
    by decide +kernel, by decide +kernel⟩
  · intro role
    cases role <;> simp [State.arrivalOf, noCarriage, noSaw]
  · intro b
    cases b <;> decide +kernel

/-- The last limit that carriage 1 keeps clear of, 155 000, lies on the rail, and the shorter target reaches it. -/
theorem witness_EnvelopeArithmetic_limits :
    155000 ≤ 600000 ∧
      shorterTarget worked 100000 150000 90000 155000 (envelope worked 600000 100000 (if true then (0 : Nat) else -(0 : Nat))) =
        some 149000 ∧
      cell.bayAt 100500 = some 5 ∧ cell.bayAt 100501 = none := by decide +kernel

/-- A busy load, a rejected one, and a slot that holds a move: each with all that its clause asks. -/
theorem witness_MoveRefused_waits :
    ((overBay 18000 (some (loadOf .gripping)) 0).carriage 1).any
        (fun c => c.load.any (·.phase == .gripping) && c.slot.isNone && c.ctx.activeZ.isNone) = true ∧
      ((overBay 18000 (some (loadOf .rejected)) 0).carriage 1).any (fun c => c.load.any (·.phase == .rejected)) = true ∧
      ((oneCtx fun c => { c with activeZ := some ⟨11999, 0⟩ }).carriage 1).any
        (fun c => c.ctx.activeZ.any fun z => z.target < worked.zClear) = true ∧
      ((waitsForRoom 1000).carriage 1).map (fun c => (c.ctx.membership, c.slot.isSome)) = some (.normal, true) ∧
      (waitsForRoom 1000).Running ∧ (overBay 18000 (some (loadOf .gripping)) 0).Running ∧
      parseMove (movePayload 2000 .clampWait) = some ⟨0x21, some .x, 130000, 2000, some .clampWait⟩ :=
  ⟨by decide +kernel, by decide +kernel, by decide +kernel, by decide +kernel, runs (by decide +kernel),
    runs (by decide +kernel), by decide +kernel⟩

/-- A lowering of carriage 1: one below zClear; at vStill and one above; under a CHECKING load, which a raise does not mind; over
bay 5 in RESTOCK, EMPTY with and ACTIVE with a panel from bay 4; over saw 2 with a REJECTED load. -/
theorem witness_MoveRefused_lowering :
    cell.Running ∧ ¬cell.Own 5 ∧ cell.roleOf (5 : Byte).toNat = some (driveRole 1 .z) ∧
      parseMove (moveBytes 1 .z 11999 500 .clampWait false) = some ⟨1, some .z, 11999, 500, some .clampWait⟩ ∧
      parseMove (moveBytes 1 .z 12000 0 .clamp false) = some ⟨1, some .z, 12000, 0, some .clamp⟩ ∧
      (cell.carriage 1).any (fun c => c.ctx.lastZ.any fun z => 11999 < z.position && 11999 < worked.zClear) = true ∧
      worked.vStill < (-21 : Int).natAbs ∧ ¬worked.vStill < (20 : Int).natAbs ∧
      (aloft (some (loadOf .checking))).Running ∧
      ((aloft (some (loadOf .gripping))).carriage 1).bind (·.load) = some (loadOf .gripping) ∧
      ((bayIn .restock cell).bays[5]?).map (·.state) = some .restock ∧
      ((bayIn .empty cell).bays[5]?).map (·.state) = some .empty ∧
      ((aloft (some { loadOf .loaded with originBay := 4 })).carriage 1).bind (·.load) =
        some { loadOf .loaded with originBay := 4 } ∧
      (bare (aloft (some (loadOf .rejected)))).Running :=
  ⟨runs (by decide +kernel), notOwn (by decide +kernel), by decide +kernel, by decide +kernel, by decide +kernel,
    by decide +kernel, by decide, by decide, runs (by decide +kernel), by decide +kernel, by decide +kernel,
    by decide +kernel, by decide +kernel, runs (by decide +kernel)⟩

/-- The floors of R39 (1500 + 12 × 190 − 50 over bay 5, 1500 − 50 over the same bay EMPTY, 9000 + 190 − 50 over saw 2), and
each cause that R64 and R65 refuse a lowering of carriage 1 with. -/
theorem test_move_z :
    let run (s : State) : State := after (.move 5 0 9 (moveBytes 1 .z 0 500 .refuse false)) s
    let floor (s : State) : Option Nat := ((run s).carriage 1).bind fun c => c.ctx.activeZ.map (·.target)
    let cause (s : State) : Option Detail := ((run s).management.notices.head?).map (·.detail)
    let away : State := oneCtx fun c => { c with lastX := some ⟨100501, 0, ⟨true, false, false⟩⟩ }
    floor cell = some 3730 ∧ floor (bare (aloft (some (loadOf .loaded)))) = some 9140 ∧
      floor { aloft (some (loadOf .loaded)) with bays := State.reset.bays.set 5 { bay5 with state := .empty, count := 0 } } =
        some 1450 ∧
      cause (oneCtx fun c => { c with activeX := some ⟨1, 1⟩ }) = some (.cause .xMoving) ∧
      cause away = some (.cause .noWindow) ∧
      cause (bayIn .restock cell) = some (.cause .bayRestock) ∧ cause (bayIn .empty cell) = some (.cause .bayEmpty) ∧
      cause (aloft (some { loadOf .loaded with originBay := 4 })) = some (.cause .wrongBay) ∧
      cause (bare (aloft (some (loadOf .rejected)))) = some (.cause .noLoad) := by decide +kernel

/-- A shorter target with room in the queue: no move is held, or the reservation lies within the new one and carriage 2
holds a move blocked by carriage 1. -/
theorem witness_XMoveBlocked_shorter :
    let new := (envelope worked 600000 100000 0).hull (occupancy worked 600000 149000)
    let crossed : State := cell.changed 2 fun c => { c with slot := some (heldBy 1) }
    new = ⟨94000, 155000⟩ ∧ cell.NoHeld ∧ crossed.Running ∧
      (crossed.carriage 1).bind (·.reservation) = some ⟨⟨94000, 106000⟩, .plain⟩ ∧ new.lo ≤ 94000 ∧ 106000 ≤ new.hi ∧
      (crossed.rightFree 1 ⟨94000, 106000⟩).blocker = some (.carriage 2) ∧
      (crossed.carriage 2).bind (·.slot) = some (heldBy 1) ∧ (heldBy 1).blocker = some (.carriage 1) ∧
      crossed.port.dForward.length < 8 ∧ 8 ≤ (downHolds 8).port.dForward.length :=
  ⟨by decide, noHeld (by decide +kernel), runs (by decide +kernel), by decide +kernel, by decide, by decide,
    by decide +kernel, by decide +kernel, rfl, by decide +kernel, by decide +kernel⟩

/-- Cup 31; a LOADED load that keeps exactly minHold cups of its mask. -/
theorem witness_GripJudged_cups :
    31 < 32 ∧ (overBay 9210 (some (loadOf .loaded)) 0xFF).Running ∧
      ((overBay 9210 (some (loadOf .loaded)) 0xFF).carriage 1).map (fun c => (c.ctx.membership, c.load)) =
        some (.normal, some (loadOf .loaded)) ∧
      (overBay 9210 (some (loadOf .loaded)) 0xFF).head 1 = some headRecord ∧
      parseGrip .all (gripAll 0x0F) = some ⟨0x0F, some (2, 5)⟩ ∧
      cupCount (resultingImage .all 0x0F 0xFF 1 &&& allowedMask (overBay 9210 (some (loadOf .loaded)) 0xFF) 1 40 1 2800 2070) =
        headRecord.minHold :=
  ⟨by decide, runs (by decide +kernel), by decide +kernel, by decide +kernel, by decide +kernel, by decide +kernel⟩

/-! The refusals of a pick: carriage 1 over bay 5 at 3800, one thing changed at a time. -/

def picking : State := overBay 3800 none 0
def pickingEntry (f : Entry → Entry) : State :=
  { picking with saws := picking.saws.modify 2 fun w => { w with queue := w.queue.map f } }
def pickingBay (f : Bay → Bay) : State := { picking with bays := picking.bays.modify 5 f }

/-- The verdict's cause for a GRIP to carriage 1's head, and the state it is given in. -/
def gripCause (form : GripForm) (payload : List Byte) (s : State) : Option Detail :=
  (after (.grip form 6 0 9 payload) s).management.notices.getLast?.map (·.detail)

theorem witness_PickForwarded_job :
    picking.Running ∧ ({ picking with headRecords := List.replicate 4 none } : State).head 1 = none ∧
      ((picking.changed 1 fun c => { c with ctx := { c.ctx with lastX := none } }).carriage 1).map (·.ctx.lastX) = some none ∧
      parseGrip .all [0x3F, 0, 0, 0] = some ⟨0x3F, none⟩ ∧
      parseGrip .all [0x3F, 0, 0, 0, 2, 6, 0] = some ⟨0x3F, some (2, 6)⟩ ∧
      (picking.saws[2]?).map (·.queue) = some [entry5] ∧ entry5.sequence ≠ 6 ∧ picking.saws[6]? = none ∧
      ((pickingEntry fun e => { e with state := .picked }).saws[2]?).bind (·.queue[0]?) = some { entry5 with state := .picked } ∧
      picking.lookahead < 2 + 1 ∧ 1 + 1 ≤ picking.lookahead :=
  ⟨runs (by decide +kernel), by decide +kernel, by decide +kernel, by decide +kernel, by decide +kernel, by decide +kernel,
    by decide, by decide +kernel, by decide +kernel, by decide +kernel, by decide +kernel⟩

theorem witness_PickForwarded_bay :
    picking.bayAt 100501 = none ∧ picking.bayAt 100500 = some 5 ∧
      ((pickingBay fun b => { b with state := .empty }).bays[5]?).map (·.state) = some .empty ∧
      (pickingBay fun b => { b with state := .empty }).bayAt 100000 = some 5 ∧
      ((pickingBay fun b => { b with state := .restock }).bays[5]?).map (·.state) = some .restock ∧
      ¬({ entry5 with sourceBay := some 4 }.sourceBay = none ∨ { entry5 with sourceBay := some 4 }.sourceBay = some 5) ∧
      bay5.material ≠ { entry5 with material := 8 }.material ∧
      bay5.base + bay5.count * bay5.thickness + headRecord.contactTol < 3801 ∧
      3800 ≤ bay5.base + bay5.count * bay5.thickness + headRecord.contactTol := by decide +kernel

/-- A cup of the half that the frame does not carry, and that the panel does not cover; one cup fewer than minCups. -/
theorem witness_PickForwarded_cups :
    let far : State :=
      { overBay 3800 none 0x10000 with cupLayout := cell.cupLayout.set 6 (some (List.replicate 8 ⟨0, 0, false⟩)) }
    far.Running ∧
      resultingImage .low 0x3F 0x10000 2 &&& ~~~(allowedMask far 1 40 2 2800 2070) &&& ~~~(gripCarried .low) ≠ 0 ∧
      resultingImage .low 0x3F 0x10000 2 &&& ~~~(0x10000 : Cups) ≠ 0 ∧
      parseGrip .low [0x3F, 0, 2, 5, 0] = some ⟨0x3F, some (2, 5)⟩ ∧
      cupCount (resultingImage .all 0x1F 0 1 &&& allowedMask picking 1 40 1 2800 2070) < headRecord.minCups :=
  ⟨runs (by decide +kernel), by decide +kernel, by decide +kernel, by decide +kernel, by decide +kernel⟩

/-- The causes as the manual names them; the last, of a job reference with saw byte 0xFF, is the model's choice (log 42). -/
theorem test_pick_refusals :
    gripCause .all [0x3F, 0, 0, 0] picking = some (.cause .noJob) ∧
      gripCause .all [0x3F, 0, 0, 0, 2, 6, 0] picking = some (.cause .noEntry) ∧
      gripCause .all (gripAll 0x3F) (pickingBay fun b => { b with state := .empty }) = some (.cause .bayEmpty) ∧
      gripCause .all (gripAll 0x3F) (pickingEntry fun e => { e with sourceBay := some 4 }) = some (.cause .wrongBay) ∧
      gripCause .all (gripAll 0x3F) (overBay 3801 none 0) = some (.cause .notLowered) ∧
      gripCause .all (gripAll 0x1F) picking = some (.cause .smallPanel) ∧
      gripCause .all [0x3F, 0, 0, 0, 0xFF, 5, 0] picking = some (.cause .noEntry) := by decide +kernel

/-! The refusals of a release. -/

def holding (z : Nat) (f : Saw → Saw) : State :=
  { overBay z (some (loadOf .loaded)) 0xFF with saws := cell.saws.modify 2 f }

theorem witness_ReleaseForwarded_refusals :
    (holding 9211 id).Running ∧ ¬9211 ≤ 9000 + (loadOf .loaded).thickness + headRecord.contactTol ∧
      parseGrip .all [0, 0, 0, 0, 2, 6, 0] = some ⟨0, some (2, 6)⟩ ∧ (some (2, 6) : Option (Nat × Nat)) ≠ some (2, 5) ∧
      ((holding 9210 fun w => { w with config := none }).saws[2]?).map (·.config) = some none ∧
      ((holding 9210 fun w => { w with config := some ⟨100501, 500, 9000, 100⟩ }).saws[2]?).map (·.config) =
        some (some ⟨100501, 500, 9000, 100⟩) ∧ ¬100501 ≤ 100000 + 500 ∧
      ((holding 9210 fun w => { w with ready := false }).saws[2]?).map (·.ready) = some false ∧
      ¬age 1000 899 ≤ 100 ∧ age 1000 900 ≤ 100 ∧
      ((holding 9210 fun w => { w with queue := { entry5 with sequence := 4 } :: w.queue }).saws[2]?).map
        (fun w => (w.queue.map (·.sequence))) = some [4, 5] ∧
      (((holding 9210 id).changed 1 fun c => { c with ctx := { c.ctx with lastZ := none } }).carriage 1).map (·.ctx.lastZ) =
        some none := by
  refine ⟨runs (by decide +kernel), ?_⟩
  decide +kernel

theorem test_release_refusals :
    gripCause .all [0, 0, 0, 0, 2, 6, 0] (holding 9210 id) = some (.cause .wrongJob) ∧
      gripCause .all (gripAll 0) (overBay 9210 (some (loadOf .rejected)) 0xFF) = some (.cause .notAtSaw) ∧
      gripCause .all (gripAll 0) (holding 9211 id) = some (.cause .notLowered) ∧
      gripCause .all (gripAll 0) (holding 9210 fun w => { w with ready := false }) = some (.cause .sawBusy) ∧
      gripCause .all (gripAll 0) (holding 9210 fun w => { w with queue := { entry5 with sequence := 4 } :: w.queue }) =
        some (.cause .notHead) := by decide +kernel

/-! Reports that do more. -/

/-- Carriage 1 with a held move of a given cause, and with a larger stored span. -/
def waitsOn (cause : Cause) : State := one fun c => { c with slot := some { heldBy 2 with cause := cause } }
def stored (lo hi : Nat) (s : State) : State := s.changed 1 fun c => { c with reservation := some ⟨⟨lo, hi⟩, .plain⟩ }

/-- A head at zClear wakes a HEAD_LOW move, a stand at vStill an X_MOVING one; a shrink to 106 000 wakes the move that
carriage 1 blocks carriage 2's with. -/
theorem witness_StateOfActiveCarriage_wakes :
    (waitsOn .headLow).Running ∧ (waitsOn .headLow).NoneHeldBut 1 ∧
      ((waitsOn .headLow).carriage 1).bind (·.slot) = some { heldBy 2 with cause := .headLow } ∧ worked.zClear ≤ 12000 ∧
      (waitsOn .xMoving).Running ∧ (waitsOn .xMoving).NoneHeldBut 1 ∧
      ((waitsOn .xMoving).carriage 1).bind (·.slot) = some { heldBy 2 with cause := .xMoving } ∧
      (20 : Int).natAbs ≤ worked.vStill ∧
      (envelope worked 600000 100000 0).within ⟨94000, 120000⟩ = true ∧
      (stored 94000 120000 (cell.changed 2 fun c => { c with slot := some (heldBy 1) })).NoneHeldBut 2 ∧
      (stored 94000 120000 (cell.changed 2 fun c => { c with slot := some (heldBy 1) })).Running ∧
      ((stored 94000 120000 (cell.changed 2 fun c => { c with slot := some (heldBy 1) })).carriage 2).bind (·.slot) =
        some (heldBy 1) ∧
      (envelope worked 600000 100000 0).hi < 120000 :=
  ⟨runs (by decide +kernel), noneHeldBut (by decide +kernel), by decide +kernel, by decide, runs (by decide +kernel),
    noneHeldBut (by decide +kernel), by decide +kernel, by decide, by decide, noneHeldBut (by decide +kernel),
    runs (by decide +kernel), by decide +kernel, by decide⟩

/-- Grown parts: exactly G from carriage 2 and one pu closer, exactly G from fence 3 and one pu closer. -/
theorem witness_StateOfActiveCarriage_grows :
    envelope worked 600000 149000 0 = ⟨143000, 155000⟩ ∧ cell.apartFrom 1 2 ⟨106001, 155000⟩ = true ∧
      envelope worked 600000 149001 0 = ⟨143001, 155001⟩ ∧ cell.apartFrom 1 2 ⟨106001, 155001⟩ = false ∧
      2 ∈ cell.neighbours 1 ∧ envelope worked 600000 96000 0 = ⟨90000, 102000⟩ ∧
      Interval.apart 5000 ⟨90000, 93999⟩ ⟨80000, 85000⟩ = true ∧ Interval.apart 5000 ⟨89999, 93999⟩ ⟨80000, 85000⟩ = false ∧
      Interval.intersects ⟨80000, 85000⟩ (occupancy worked 600000 95999) = false ∧
      cell.addressOf .controller ≠ none ∧ cell.management.notices.length < 8 ∧ cell.NoHeld :=
  ⟨by decide, by decide +kernel, by decide, by decide +kernel, by decide +kernel, by decide, by decide, by decide,
    by decide +kernel, by decide +kernel, by decide +kernel, noHeld (by decide +kernel)⟩

/-- The other two reports that complete the set, with every age 19 ms; a neighbour one pu too close. -/
theorem witness_FirstDataTaken_state :
    let all (v : Int) : State :=
      (unseenAt v).changed 1 fun c => { c with ctx := { c.ctx with arrivalHead := some 981, inSetHead := true } }
    let close (v : Int) : State := (all v).changed 0 fun c => { c with reservation := some ⟨⟨40000, 89001⟩, .plain⟩ }
    (all 20).Running ∧ (all 20).NoHeld ∧ (close 0).Running ∧ (close 0).NoHeld ∧ ¬(all 20).Own 0 ∧
      (all 20).roleOf (4 : Byte).toNat = some (.xDrive 1) ∧ (all 20).roleOf (5 : Byte).toNat = some (.zDrive 1) ∧
      (parseState (stateBytes 100000 20 1)).map (fun r => (r.axis, r.axis.status.fault)) =
        some (⟨100000, 20, ⟨true, false, false⟩⟩, false) ∧
      0 < worked.w ∧ age 1000 981 < worked.w ∧
      ((all 20).carriage 1).map (fun c => (c.ctx.inSetX, c.ctx.inSetZ, c.ctx.inSetHead, c.ctx.arrivalHead)) =
        some (true, true, true, some 981) ∧
      (close 0).closeNeighbours 1 (envelope worked 600000 100000 0) = [0] :=
  ⟨runs (by decide +kernel), noHeld (by decide +kernel), runs (by decide +kernel), noHeld (by decide +kernel),
    notOwn (by decide +kernel), by decide +kernel, by decide +kernel, by decide +kernel, by decide, by decide,
    by decide +kernel, by decide +kernel⟩

/-- Carriage 1 with a load and a held move that waits for it, or with no held move. -/
def busyWith (l : LoadRecord) (waits : Bool) : State :=
  (overBay 4280 (some l) 0xFF).changed 1 fun c =>
    { c with slot := if waits then some { heldBy 2 with cause := .loadBusy } else none }

theorem witness_ThicknessDecided_held :
    (busyWith { loadOf .checking with count := 1 } true).Running ∧
      (busyWith { loadOf .checking with count := 1 } true).NoneHeldBut 1 ∧
      (busyWith { loadOf .checking with count := 1 } false).NoneHeldBut 1 ∧
      ((busyWith { loadOf .checking with count := 1 } true).carriage 1).map (fun c => (c.load, c.slot)) =
        some (some { loadOf .checking with count := 1 }, some { heldBy 2 with cause := .loadBusy }) ∧
      headRecord.n ≤ 1 + 1 ∧ headRecord.minHold ≤ cupCount ((0xFF : Cups) &&& (loadOf .checking).mask) :=
  ⟨runs (by decide +kernel), noneHeldBut (by decide +kernel), noneHeldBut (by decide +kernel), by decide +kernel,
    by decide, by decide +kernel⟩

theorem witness_LoadLost_held :
    (busyWith (loadOf .releasing) true).Running ∧ (busyWith (loadOf .releasing) true).NoneHeldBut 1 ∧
      (busyWith (loadOf .releasing) false).NoneHeldBut 1 ∧
      ((busyWith (loadOf .releasing) true).carriage 1).map (fun c => (c.load, c.slot)) =
        some (some (loadOf .releasing), some { heldBy 2 with cause := .loadBusy }) :=
  ⟨runs (by decide +kernel), noneHeldBut (by decide +kernel), noneHeldBut (by decide +kernel), by decide +kernel⟩

theorem witness_HeadDeadlinesTaken_held :
    let due : LoadRecord := { loadOf .gripping with deadline := some 1000 }
    (busyWith due true).Running ∧ (busyWith due true).NoneHeldBut 1 ∧ (busyWith due false).NoneHeldBut 1 ∧
      ((busyWith due true).carriage 1).map (fun c => (c.load, c.slot)) =
        some (some due, some { heldBy 2 with cause := .loadBusy }) ∧
      reached 1000 1000 = true :=
  ⟨runs (by decide +kernel), noneHeldBut (by decide +kernel), noneHeldBut (by decide +kernel), by decide +kernel,
    by decide⟩

/-- Carriage 1 EXCLUDED and HALTED in the park window [94 000, hi]. -/
def parkedOne (hi : Nat) : State :=
  { oneCtx (fun c => { c with runState := .halted, membership := .excluded, fresh := false }) with
    carriageRecords := cell.carriageRecords.set 1 (some { worked with park := some ⟨94000, hi⟩ }) }

/-- One speed unit above vStill in HALTED; in a park window that the occupancy just fills, and in one a pu shorter. -/
theorem witness_StillMarksSet_unbidden :
    (haltedBeside 60000).Running ∧ (haltedBeside 60000).NoHeld ∧
      ((haltedBeside 60000).carriage 1).map (fun c => (c.ctx.runState, c.ctx.membership, c.ctx.fresh)) =
        some (.halted, .normal, true) ∧
      worked.vStill < (21 : Int).natAbs ∧ (parkedOne 106000).Running ∧ (parkedOne 106000).NoHeld ∧
      ((parkedOne 106000).carriage 1).map (fun c => (c.ctx.runState, c.ctx.membership)) = some (.halted, .excluded) ∧
      (parkedOne 106000).record 1 = some { worked with park := some ⟨94000, 106000⟩ } ∧
      occupancy { worked with park := some ⟨94000, 106000⟩ } (parkedOne 106000).railLength 100000 = ⟨94000, 106000⟩ ∧
      (parkedOne 105999).Running ∧ (parkedOne 105999).NoHeld ∧
      ((parkedOne 106000).carriage 1).bind (·.ctx.lastX) = some ⟨100000, 0, ⟨true, false, false⟩⟩ :=
  ⟨runs (by decide +kernel), noHeld (by decide +kernel), by decide +kernel, by decide, runs (by decide +kernel),
    noHeld (by decide +kernel), by decide +kernel, by decide +kernel, by decide +kernel, runs (by decide +kernel),
    noHeld (by decide +kernel), by decide +kernel⟩

/-- A STALE carriage whose other arrivals are 19 and 20 ms old (W is 20), WIDENED around its candidate. -/
theorem witness_StaleExpiryTaken_return :
    let stale (t : Clock) : State :=
      one fun c =>
        { c with
          reservation := some ⟨⟨91600, 108400⟩, .widened⟩
          ctx := { c.ctx with fresh := false, arrivalX := some t, arrivalZ := some t } }
    (stale 981).Running ∧ (stale 981).NoHeld ∧ ¬(stale 981).Own 0 ∧ (stale 980).Running ∧ (stale 980).NoHeld ∧
      ((stale 981).carriage 1).map (fun c => (c.ctx.runState, c.ctx.membership, c.ctx.fresh, c.load)) =
        some (.active, .normal, false, none) ∧
      age 1000 981 < worked.w ∧ ¬age 1000 980 < worked.w ∧ age 1000 990 < worked.w ∧ 0 < worked.w ∧
      (envelope worked 600000 100000 0).within ⟨91600, 108400⟩ = true ∧
      (stale 981).roleOf (6 : Byte).toNat = some (.head 1) ∧ (stale 981).roleOf (4 : Byte).toNat = some (.xDrive 1) ∧
      (stale 981).roleOf (5 : Byte).toNat = some (.zDrive 1) ∧
      (parseState (stateBytes 100000 0 1)).map (·.axis.status.fault) = some false :=
  ⟨runs (by decide +kernel), noHeld (by decide +kernel), notOwn (by decide +kernel), runs (by decide +kernel),
    noHeld (by decide +kernel), by decide +kernel, by decide, by decide, by decide, by decide, by decide,
    by decide +kernel, by decide +kernel, by decide +kernel, by decide +kernel⟩

/-- A LOST carriage with its set complete and 19 ms old, FROZEN over its envelope exactly, and one pu less on the left. -/
theorem witness_LostExpiryTaken_recovery :
    let lost (lo : Nat) : State :=
      one fun c =>
        { c with
          reservation := some ⟨⟨lo, 106000⟩, .frozen⟩
          ctx :=
            { c.ctx with
              runState := .lost
              fresh := false
              flags := { c.ctx.flags with lost := true }
              arrivalX := some 981
              arrivalZ := some 981
              arrivalHead := some 981 } }
    (lost 94000).Running ∧ (lost 94000).NoHeld ∧ ¬(lost 94000).Own 0 ∧ (lost 94001).Running ∧ (lost 94001).NoHeld ∧
      ((lost 94000).carriage 1).map (fun c => (c.ctx.runState, c.load, c.ctx.inSetX, c.ctx.inSetZ, c.ctx.inSetHead)) =
        some (.lost, none, true, true, true) ∧
      age 1000 981 < worked.w ∧ 0 < worked.w ∧ (envelope worked 600000 100000 0).lo = 94000 ∧
      (0 ∈ (lost 94001).neighbours 1 ∧ 0 < 1) ∧ (lost 94000).roleOf (6 : Byte).toNat = some (.head 1) ∧
      (lost 94000).roleOf (4 : Byte).toNat = some (.xDrive 1) ∧
      (parseState (stateBytes 100000 20 1)).map (·.axis.status.fault) = some false ∧
      worked.vStill < (21 : Int).natAbs :=
  ⟨runs (by decide +kernel), noHeld (by decide +kernel), notOwn (by decide +kernel), runs (by decide +kernel),
    noHeld (by decide +kernel), by decide +kernel, by decide, by decide, by decide, by decide +kernel, by decide +kernel,
    by decide +kernel, by decide +kernel, by decide⟩

/-- Held moves of carriage 1 that are refused, wait on a precondition, are blocked, inch on under CLAMP_WAIT, and cross with
one of carriage 2. -/
theorem witness_HeldMoveTimersAndRoom_judged :
    let held (target : Nat) (a : BlockedAction) (s : State) : State :=
      s.changed 1 fun c => { c with slot := some { heldBy 2 with target := target, action := a, blocker := none } }
    judge (held 130000 .wait (emergency)) 1 false .x 130000 500 = .refuse .estop ∧
      judge (held 130000 .wait (overBay 11999 none 0)) 1 false .x 130000 500 = .waitable .headLow ∧
      judge (held 149001 .clampWait cell) 1 false .x 149001 500 =
        .blocked ⟨.right, some (.carriage 2), some 149000, true, 500⟩ ∧
      ((held 149001 .clampWait cell).carriage 1).bind (·.slot) =
        some { heldBy 2 with target := 149001, action := .clampWait, blocker := none } ∧
      ((held 149001 .clampWait (cell.changed 2 fun c => { c with slot := some (heldBy 1) })).carriage 2).bind (·.slot) =
        some (heldBy 1) ∧
      ((heldBy 2).stamp - (heldBy 1).stamp).toNat < 2147483648 := by decide +kernel

/-- Four replies wait, and behind them a read of the LAMP record. -/
theorem witness_UpstreamTransmitter_request :
    let read : Frame := ⟨20, 0, 0x60, 5, [0x0A, 0]⟩
    let s : State := { repliesHeld 4 0 with management := { (repliesHeld 4 0).management with requests := [read] } }
    s.Running ∧ s.port.transmitterU = .free ∧ s.port.uForward = [] ∧ s.management.replies.length = 3 + 1 ∧
      s.management.requests = read :: [] ∧
      (carryOut { s with management := { s.management with replies := s.management.replies.drop 1, requests := [] } }
        read).after.reports = [] := by
  refine ⟨runs (by decide +kernel), ?_⟩
  decide +kernel

/-- A PENDING fence that no park window meets becomes ON, for no reservation but a park window is left. -/
theorem witness_LineResetEffect_fence :
    let s : State := { cell with fences := cell.fences.set 7 ⟨⟨175000, 180000⟩, .pending⟩ }
    s.carriages.length ≤ 4 ∧ s.fences[7]? = some ⟨⟨175000, 180000⟩, .pending⟩ ∧
      (lineReset s .lrstN).carriages.all (·.reservation.isNone) = true ∧
      (parkedOne 106000).carriages.length ≤ 4 ∧ ((parkedOne 106000).record 1).bind (·.park) = some ⟨94000, 106000⟩ := by
  decide +kernel

/-- The patterns: carriage 1 flagged, unseen, HALTED, and plain; carriage 3 not installed; a blink with its points passed. -/
theorem witness_LampsBlinkAndAreWritten_patterns :
    (oneCtx fun c => { c with flags := { c.flags with excursion := true } }).carriage 1 ≠ none ∧
      (unseenAt 0).runState 1 = some .unseen ∧ (haltedBeside 60000).runState 1 = some .halted ∧
      (cell.carriage 1).map (fun c => (c.ctx.flags, c.ctx.runState, c.ctx.membership, c.slot)) =
        some ({}, .active, .normal, none) ∧
      cell.carriage 3 = none ∧ unmapped.addressOf .controller = none ∧ cell.addressOf .controller ≠ none ∧
      (haltedBeside 60000).Running ∧ lampPattern (haltedBeside 60000) 1 = .blink1 ∧
      (haltedBeside 60000).lamps.points .blink1 = (haltedBeside 60000).lamps.pointsDue .blink1 ∧
      lampPattern stoppingOne 1 = .blink2 ∧ stoppingOne.lamps.points .blink2 = stoppingOne.lamps.pointsDue .blink2 :=
  ⟨by decide +kernel, by decide +kernel, by decide +kernel, by decide +kernel, by decide +kernel, by decide +kernel,
    by decide +kernel, runs (by decide +kernel), by decide +kernel, by decide +kernel, by decide +kernel,
    by decide +kernel⟩

/-- Carriage 1 HALTED in a park window that it just fills, clear of the neighbours; and EXCLUDED; and ACTIVE with a move. -/
theorem witness_MembershipSet_others :
    let parked (hi : Nat) : State :=
      { haltedBeside 60000 with
        carriageRecords := cell.carriageRecords.set 1 (some { worked with park := some ⟨94000, hi⟩ }) }
    let moving : State := oneCtx fun c => { c with activeX := some ⟨120000, 3⟩ }
    (parked 106000).Listens 0 ∧ (parked 106000).NoHeld ∧
      (parked 106000).currentOccupancy 1 = some ⟨94000, 106000⟩ ∧
      ((parked 106000).record 1).bind (·.park) = some ⟨94000, 106000⟩ ∧
      (parked 106000).closeNeighbours 1 ⟨94000, 106000⟩ = [] ∧ (parked 155001).closeNeighbours 1 ⟨94000, 155001⟩ = [2] ∧
      ((parked 106000).carriage 1).map (fun c => (c.ctx.runState, c.ctx.fresh, c.ctx.flags, c.ctx.membership)) =
        some (.halted, true, {}, .normal) ∧
      (3 : Byte).toNat = 3 ∧ Membership.code .normal ≠ (3 : Byte).toNat ∧ Membership.code .normal ≠ (1 : Byte).toNat ∧
      (parkedOne 106000).Listens 0 ∧ ((parkedOne 106000).carriage 1).map (·.ctx.membership) = some .excluded ∧
      moving.Listens 0 ∧
      (moving.carriage 1).map (fun c => (c.ctx.runState, c.ctx.activeX.isSome)) = some (.active, true) :=
  ⟨listens (by decide +kernel), noHeld (by decide +kernel), by decide +kernel, by decide +kernel, by decide +kernel,
    by decide +kernel, by decide +kernel, rfl, by decide, by decide, listens (by decide +kernel), by decide +kernel,
    listens (by decide +kernel), by decide +kernel⟩

/-- A move of carriage 1 that fence 3 blocks; fence 7 PENDING and clear. -/
theorem witness_FencesSwitched_held :
    let s : State := one fun c => { c with slot := some { heldBy 2 with blocker := some (.fence 3) } }
    s.Listens 0 ∧ s.NoneHeldBut 1 ∧ (s.carriage 1).bind (·.slot) = some { heldBy 2 with blocker := some (.fence 3) } ∧
      s.fences[(3 : Byte).toNat]? = some ⟨⟨80000, 85000⟩, .on⟩ ∧
      cell.fenceHeld ⟨⟨175001, 180000⟩, .pending⟩ = false ∧ cell.fenceHeld ⟨⟨175000, 180000⟩, .pending⟩ = true :=
  ⟨listens (by decide +kernel), noneHeldBut (by decide +kernel), by decide +kernel, by decide +kernel, by decide +kernel,
    by decide +kernel⟩

/-- A rail of another length on an idle line with known reservations, one carriage fewer and one more; a FROZEN span that the
new length cuts. -/
theorem witness_RailWritten_length :
    idle.Listens 0 ∧ idle.NoHeld ∧ idle.lineIdle = true ∧ (railBytes 590000 4).length = 8 ∧
      parseRail (railBytes 590000 4) = ⟨590000, 5000, 4, 2⟩ ∧ parseRail (railBytes 590000 2) = ⟨590000, 5000, 2, 2⟩ ∧
      worked.travelHi ≤ 590000 ∧ idle.rail = some ⟨600000, 5000, 3, 2⟩ ∧
      idle.carriages.all (fun c => c.load.isNone && c.reservation.isSome && c.ctx.lastX.isSome) = true ∧
      ((idle.changed 2 fun c => { c with reservation := some ⟨⟨160000, 595000⟩, .frozen⟩ }).carriage 2).bind (·.reservation) =
        some ⟨⟨160000, 595000⟩, .frozen⟩ :=
  ⟨listens (by decide +kernel), noHeld (by decide +kernel), by decide +kernel, by decide, by decide, by decide, by decide,
    by decide +kernel, by decide +kernel, by decide +kernel⟩

/-- A WIDENED reservation of carriage 1, and a neighbour one pu too close to the envelope; a yes/no byte of 2. -/
theorem witness_CarriageWritten_close :
    let wide : State := isolatedOne.changed 1 fun c => { c with reservation := some ⟨⟨91600, 108400⟩, .widened⟩ }
    let close : State := isolatedOne.changed 0 fun c => { c with reservation := some ⟨⟨40000, 89001⟩, .plain⟩ }
    wide.Listens 0 ∧ wide.NoHeld ∧ (wide.carriage 1).bind (·.reservation) = some ⟨⟨91600, 108400⟩, .widened⟩ ∧
      close.Listens 0 ∧ close.NoHeld ∧ close.closeNeighbours 1 (envelope worked 600000 100000 0) = [0] ∧
      dStale worked = 2400 ∧ 1 < close.carriageRecords.length ∧
      1 < field (carriageBytes.set 27 2) 27 1 ∧ parseCarriage (carriageBytes.set 27 2) = none :=
  ⟨listens (by decide +kernel), noHeld (by decide +kernel), by decide +kernel, listens (by decide +kernel),
    noHeld (by decide +kernel), by decide +kernel, by decide, by decide +kernel, by decide +kernel, by decide +kernel⟩

/-- The last item of a carriage's and of a saw's counters, and groups' indices that do not exist. -/
theorem witness_StatusAndCountersRead_groups :
    cell.Listens 0 ∧ cell.carriage (3 : Byte).toNat = none ∧ cell.carriage (1 : Byte).toNat ≠ none ∧
      cell.saws[(6 : Byte).toNat]? = none ∧ cell.saws[(5 : Byte).toNat]? ≠ none ∧ (7 : Byte).toNat = 6 + 1 ∧ 6 < 7 ∧
      (1 : Byte).toNat = 0 + 1 ∧ 0 < 1 :=
  ⟨cell_listens, by decide +kernel⟩

/-! Witnesses of reports in every run state, of drive faults, and of layouts. -/

/-- Carriage 1 in a run state, FRESH or not, with a load; its X drive's last report `t` (W is 20 and the line clock 1000). -/
def inState (r : RunState) (fresh : Bool) (t : Clock) (load : Option LoadRecord) : State :=
  (overBay 4280 load 0xFF).changed 1 fun c =>
    { c with ctx := { c.ctx with runState := r, fresh := fresh, arrivalX := some t, arrivalZ := some 981, arrivalHead := some 981 } }

theorem arrivalOnly_fresh {s : State} {k : Nat} {c : Carriage} (h : ¬(c.ctx.runState = .unseen ∨ c.ctx.runState = .lost))
    (hf : c.ctx.fresh = true ∨ c.ctx.membership = .excluded) : s.HeadArrivalOnly k c := by
  simp only [State.HeadArrivalOnly]
  rw [if_neg h]
  exact hf.elim .inl fun hm => .inr (.inl hm)

theorem arrivalOnly_old {s : State} {k : Nat} {c : Carriage} {r : CarriageRecord} {a : Clock} (hr : s.record k = some r)
    (ha : c.ctx.arrivalX = some a) (ho : r.w ≤ age s.lineClock a) : s.HeadArrivalOnly k c := by
  have old : ¬∃ r a, s.record k = some r ∧ c.ctx.arrivalX = some a ∧ age s.lineClock a < r.w := by
    rintro ⟨q, b, hq, hb, hl⟩
    rw [hr] at hq
    rw [ha] at hb
    cases hq
    cases hb
    omega
  simp only [State.HeadArrivalOnly]
  split
  · exact fun h => old h.2.2.1
  · exact .inr (.inr fun h => old h.1)

/-- Every run state, STALE or without a complete set: the X drive's last report is exactly W ms old. And a FRESH carriage. -/
theorem witness_SenseHeadRead_states (r : RunState) (fresh : Bool) (load : Option LoadRecord) (c : Carriage)
    (h : (inState r fresh 980 load).carriage 1 = some c) : (inState r fresh 980 load).HeadArrivalOnly 1 c := by
  have hc : c.ctx.arrivalX = some 980 := by
    have hx : ((inState r fresh 980 load).carriage 1).bind (·.ctx.arrivalX) = some 980 := rfl
    rw [h] at hx
    exact hx
  exact arrivalOnly_old (r := worked) (show cell.record 1 = some worked by decide +kernel) hc
    (show worked.w ≤ age 1000 980 by decide)

theorem witness_SenseHeadRead_fresh :
    ∃ c, cell.carriage 1 = some c ∧ cell.HeadArrivalOnly 1 c ∧ c.load = none ∧
      (inState .active true 981 (some (loadOf .gripping))).Running ∧
      ((inState .active true 981 (some (loadOf .gripping))).carriage 1).map (fun c => (c.ctx.fresh, c.load)) =
        some (true, some (loadOf .gripping)) :=
  ⟨standing 100000 94000 106000, by decide +kernel, arrivalOnly_fresh (by decide +kernel) (.inl rfl), rfl,
    runs (by decide +kernel), by decide +kernel⟩

/-- A CHECKING load of a STOPPING and STALE carriage, counted and decided. -/
theorem witness_ThicknessDecided_states :
    let s := inState .stopping false 980 (some { loadOf .checking with count := 1 })
    s.Running ∧ s.NoneHeldBut 1 ∧ ¬s.Own 0 ∧ s.roleOf (6 : Byte).toNat = some (.head 1) ∧
      (s.carriage 1).map (fun c => (c.ctx.runState, c.ctx.fresh, c.ctx.lastZ)) =
        some (.stopping, false, some ⟨4280, 0, ⟨true, false, false⟩⟩) ∧
      (loadOf .checking).pickTop + headRecord.liftCheck ≤ 4280 ∧ headRecord.n ≤ 1 + 1 :=
  ⟨runs (by decide +kernel), noneHeldBut (by decide +kernel), notOwn (by decide +kernel), by decide +kernel,
    by decide +kernel, by decide +kernel, by decide⟩

/-- A load lost in HALTED, STOPPING, LOST and UNSEEN, one cup fewer than minHold; a place confirmed in HALTED. -/
theorem witness_LoadLost_states :
    (inState .halted true 981 (some (loadOf .loaded))).Running ∧ (inState .halted true 981 (some (loadOf .loaded))).NoHeld ∧
      (inState .stopping false 980 (some (loadOf .checking))).NoHeld ∧
      (inState .lost false 980 (some (loadOf .rejected))).NoHeld ∧
      (inState .unseen false 980 (some (loadOf .loaded))).NoHeld ∧
      (inState .halted true 981 (some (loadOf .releasing))).NoneHeldBut 1 ∧
      cupCount ((0x07 : Cups) &&& (loadOf .loaded).mask) + 1 = headRecord.minHold :=
  ⟨runs (by decide +kernel), noHeld (by decide +kernel), noHeld (by decide +kernel), noHeld (by decide +kernel),
    noHeld (by decide +kernel), noneHeldBut (by decide +kernel), by decide +kernel⟩

/-- A vacuum drop in HALTED: the flag and its notice, STOPs for both drives, no STATE_CHANGE (R18, R101). -/
theorem test_drop_in_halted :
    let t := after (.senseHead 0 6 9 (headBytes 0x07 1 0)) (inState .halted true 981 (some (loadOf .loaded)))
    (t.carriage 1).map (fun c => (c.ctx.runState, c.ctx.flags.vacuumDrop, c.load.isNone)) = some (.halted, true, true) ∧
      t.port.stops.map (fun e => (e.node, e.reason)) = [(4, .vacuumDrop), (5, .vacuumDrop)] ∧
      t.management.notices.map (fun n => (n.kind, n.cause)) = [(.fault, .vacuumDrop)] := by decide +kernel

/-- A status that shows fault, from either drive, with DRIVE_FAULT clear and set, with a held move and without. -/
theorem witness_StateOfActiveCarriage_fault :
    (parseState (stateBytes 100000 0 2)).map (fun r => (r.axis, r.axis.status.fault)) =
        some (⟨100000, 0, ⟨false, true, false⟩⟩, true) ∧
      cell.Running ∧ cell.NoneHeldBut 1 ∧ (waitsOn .headLow).Running ∧ (waitsOn .headLow).NoneHeldBut 1 ∧
      ((waitsOn .headLow).carriage 1).map (fun c => (c.ctx.runState, c.ctx.fresh, c.ctx.flags.driveFault, c.slot.isSome)) =
        some (.active, true, false, true) ∧
      ((oneCtx fun c => { c with flags := { c.flags with driveFault := true } }).carriage 1).map
        (fun c => (c.ctx.runState, c.ctx.flags.driveFault)) = some (.active, true) ∧
      (oneCtx fun c => { c with flags := { c.flags with driveFault := true } }).NoneHeldBut 1 ∧
      (envelope worked 600000 100000 0).within ⟨94000, 106000⟩ = true :=
  ⟨by decide +kernel, runs (by decide +kernel), noneHeldBut (by decide +kernel), runs (by decide +kernel),
    noneHeldBut (by decide +kernel), by decide +kernel, by decide +kernel, noneHeldBut (by decide +kernel), by decide +kernel⟩

/-- R11 and R29: the flag with its notice, then STOPPING with STOPs of reason DRIVE_FAULT; a second fault hands no notice. -/
theorem test_drive_fault :
    let once := after (.state 0 4 9 (stateBytes 100000 0 2)) cell
    let twice := after (.state 0 5 9 (stateBytes 18000 0 2)) once
    (once.carriage 1).map (fun c => (c.ctx.runState, c.ctx.flags.driveFault)) = some (.stopping, true) ∧
      once.port.stops.map (fun e => (e.node, e.reason)) = [(4, .driveFault), (5, .driveFault)] ∧
      once.management.notices.map (fun n => (n.kind, n.cause)) = [(.fault, .driveFault), (.stateChange, .stopping)] ∧
      (twice.management.notices.length, twice.port.stops.length) = (2, 2) := by decide +kernel

/-- Drive faults of a STOPPING and of a HALTED carriage, at vStill and above it, the flag clear and set. -/
theorem witness_StillMarksSet_fault :
    (parseState (stateBytes 18000 20 2)).map (fun r => (r.axis.velocity, r.axis.status.fault)) = some (20, true) ∧
      (parseState (stateBytes 18000 21 2)).map (fun r => (r.axis.velocity, r.axis.status.fault)) = some (21, true) ∧
      stoppingOne.Running ∧ stoppingOne.NoHeld ∧ (haltedBeside 60000).Running ∧ (haltedBeside 60000).NoHeld ∧
      ((haltedBeside 60000).carriage 1).map (fun c => (c.ctx.runState, c.ctx.flags.driveFault)) = some (.halted, false) ∧
      (stoppingOne.changed 1 fun c => { c with ctx := { c.ctx with flags := { c.ctx.flags with driveFault := true } } }).NoHeld ∧
      stoppingOne.addressOf .controller ≠ none ∧ stoppingOne.management.notices.length < 16 :=
  ⟨by decide +kernel, by decide +kernel, runs (by decide +kernel), noHeld (by decide +kernel), runs (by decide +kernel),
    noHeld (by decide +kernel), by decide +kernel, noHeld (by decide +kernel), by decide +kernel, by decide +kernel⟩

/-- A drive fault in UNSEEN while the head has not reported; and one that completes the set. -/
theorem witness_FirstDataTaken_fault :
    (parseState (stateBytes 100000 20 2)).map (·.axis.status.fault) = some true ∧ (unseenAt 20).Running ∧
      (unseenAt 20).NoHeld ∧ ((unseenAt 20).carriage 1).map (fun c => (c.ctx.runState, c.ctx.inSetHead)) = some (.unseen, false) ∧
      (unseenAt 20).roleOf (4 : Byte).toNat = some (.xDrive 1) ∧ (unseenAt 20).roleOf (5 : Byte).toNat = some (.zDrive 1) ∧
      (((unseenAt 20).changed 1 fun c => { c with ctx := { c.ctx with arrivalHead := some 981, inSetHead := true } }).carriage 1).map
        (fun c => (c.ctx.inSetHead, c.ctx.arrivalHead)) = some (true, some 981) ∧ age 1000 981 < worked.w :=
  ⟨by decide +kernel, runs (by decide +kernel), noHeld (by decide +kernel), by decide +kernel, by decide +kernel,
    by decide +kernel, by decide +kernel, by decide⟩

/-- A drive fault in LOST while the X drive's report is W ms old. -/
theorem witness_LostExpiryTaken_fault :
    let s := inState .lost false 980 none
    s.Running ∧ s.NoHeld ∧ ¬s.Own 0 ∧ s.roleOf (5 : Byte).toNat = some (.zDrive 1) ∧
      s.roleOf (4 : Byte).toNat = some (.xDrive 1) ∧
      (s.carriage 1).map (fun c => (c.ctx.runState, c.reservation.isSome, c.ctx.arrivalX)) = some (.lost, true, some 980) ∧
      ¬age 1000 980 < worked.w ∧ 0 < worked.w ∧ (parseState (stateBytes 100000 0 2)).map (·.axis.status.fault) = some true :=
  ⟨runs (by decide +kernel), noHeld (by decide +kernel), notOwn (by decide +kernel), by decide +kernel, by decide +kernel,
    by decide +kernel, by decide, by decide, by decide +kernel⟩

/-- R46: a STALE carriage's candidate beyond its WIDENED span: exactly G from carriage 2, and one pu closer. -/
theorem witness_StaleExpiryTaken_grows :
    let stale : State :=
      one fun c =>
        { c with
          reservation := some ⟨⟨91600, 108400⟩, .widened⟩
          ctx := { c.ctx with fresh := false, arrivalZ := some 980 } }
    stale.Running ∧ stale.NoHeld ∧ ¬stale.Own 0 ∧ stale.roleOf (4 : Byte).toNat = some (.xDrive 1) ∧
      (stale.carriage 1).map (fun c => (c.ctx.runState, c.ctx.fresh, c.ctx.arrivalZ)) = some (.active, false, some 980) ∧
      ¬age 1000 980 < worked.w ∧ (envelope worked 600000 149000 0).within ⟨91600, 108400⟩ = false ∧
      stale.apartFrom 1 2 ⟨108401, 155000⟩ = true ∧ (envelope worked 600000 149001 0).hi = 155001 ∧
      2 ∈ stale.neighbours 1 ∧ stale.apartFrom 1 2 ⟨108401, 155001⟩ = false :=
  ⟨runs (by decide +kernel), noHeld (by decide +kernel), notOwn (by decide +kernel), by decide +kernel, by decide +kernel,
    by decide, by decide +kernel, by decide +kernel, by decide +kernel, by decide +kernel, by decide +kernel⟩

/-- An X MOVE for a NORMAL carriage right after a line reset: UNSEEN, with no last X position. -/
theorem witness_MoveRefused_unseen :
    let s := lineReset cell .lrstN
    s.Running ∧ ¬s.Own 4 ∧ s.roleOf (4 : Byte).toNat = some (driveRole 1 .x) ∧ s.inputs.emergency = false ∧
      (s.carriage 1).map (fun c => (c.ctx.membership, c.ctx.runState, c.ctx.lastX, c.slot)) =
        some (.normal, .unseen, none, none) ∧
      parseMove (movePayload 2000 .wait) = some ⟨0x21, some .x, 130000, 2000, some .wait⟩ :=
  ⟨runs (by decide +kernel), notOwn (by decide +kernel), by decide +kernel, by decide +kernel, by decide +kernel,
    by decide +kernel⟩

/-- R77 (log 9): a held move of carriage 2, marked as waiting for room, keeps its mark where a shrink of carriage 1 re-evaluates
it and it stays blocked; the report of room takes the mark. -/
theorem test_mark_kept_until_room :
    let held : State :=
      stored 94000 120000 (cell.changed 2 fun c => { c with slot := some { heldBy 1 with waitingForRoom := true } })
    let shrunk := after (.state 0 4 9 (stateBytes 100000 0 1)) held
    let roomed := after .waitingForRoom (roomFor 1 shrunk)
    let marked (s : State) : Option (Option Blocker × Bool) :=
      ((s.carriage 2).bind (·.slot)).map fun h => (h.blocker, h.waitingForRoom)
    (shrunk.span 1, marked shrunk) = (some ⟨94000, 106000⟩, some (some (.carriage 1), true)) ∧
      marked roomed = some (some (.carriage 1), false) := by decide +kernel

/-- Requests that tests 1 to 5 of R156 refuse: an empty one, the last unlisted table and command, an index at its bound, and a
record and operands of a byte too many. -/
theorem witness_RefusedRequestChangesNothing_tests :
    cell.Own 20 ∧ cell.Listens 0 ∧ ([] : List Byte).length < 2 ∧ 0x0A < (0x23 : Byte).toNat ∧ 0x23 < (0x24 : Byte).toNat ∧
      0x0A < (0x0B : Byte).toNat ∧ ¬(63 : Byte).toNat ≤ 62 ∧ (20 : Byte).toNat = cell.port.ownAddress ∧
      (3 : Byte).toNat ≤ 3 ∧ (List.replicate 38 (0 : Byte)).length ≠ 37 ∧ ¬(6 : Byte).toNat < cell.saws.length ∧
      cell.carriages.length ≤ (3 : Byte).toNat ∧ (2 : Byte).toNat < cell.carriages.length ∧ 8 ≤ (8 : Byte).toNat ∧
      24 ≤ (24 : Byte).toNat ∧ 6 ≤ (6 : Byte).toNat ∧ ([0] : List Byte) ≠ [] ∧ ([0] : List Byte).length ≤ 47 :=
  ⟨own (by decide +kernel), cell_listens, by decide +kernel⟩

/-- Frames, replies and notices while requests wait. -/
theorem witness_UpstreamTransmitter_waiting :
    let s (t : State) : State := { t with management := { t.management with requests := [waiting] } }
    (s (upHolds 1)).Running ∧ (s (upHolds 1)).port.uForward = waiting :: [] ∧ (s (upHolds 1)).port.transmitterU = .free ∧
      (s (noticesHeld 1)).Running ∧ (s (noticesHeld 1)).management.replies = [] ∧
      (s (noticesHeld 1)).management.notices = ⟨.estop, none, .absent, .asserted, .absent, 0⟩ :: [] ∧
      (s (noticesHeld 1)).addressOf .controller = some 0 :=
  ⟨runs (by decide +kernel), by decide +kernel, by decide +kernel, runs (by decide +kernel), by decide +kernel,
    by decide +kernel, by decide +kernel⟩

/-- Section 11.5: a VERDICT REFUSED FENCED, a PICK REJECT DOUBLE and a HOLD_END CLAMPED, byte by byte. -/
theorem test_notice_bytes :
    (⟨.verdict, some 2, .tag 0x21, .refused, .cause .fenced, 0x01020304⟩ : Notice).bytes =
        [1, 2, 1, 0x21, 0, 0, 4, 3, 0x1A, 0, 0, 0, 4, 3, 2, 1] ∧
      (⟨.pick, some 0, .job 2 0x0105, .reject, .cause .double, 7⟩ : Notice).bytes =
        [4, 0, 2, 2, 5, 1, 0x51, 3, 0x52, 0, 0, 0, 7, 0, 0, 0] ∧
      (⟨.lineReset, none, .absent, .lrstN, .absent, 0⟩ : Notice).bytes = [0x0B, 0xFF, 0, 0, 0, 0, 0x6A, 0, 0, 0, 0, 0, 0, 0, 0, 0] := by
  decide +kernel

/-- Section 11.4: records written out byte by byte, their fields at the ends of their ranges. -/
theorem test_record_layouts :
    parseRail [0xC0, 0x27, 9, 0, 0x10, 0x27, 4, 3] = ⟨600000, 10000, 4, 3⟩ ∧
      parseCarriage ([0x30, 0x75, 1, 0, 2, 0, 0, 0, 0xC0, 0x27, 9, 0, 0xA0, 0x0F, 100, 0, 7, 50, 0xE0, 0x2E, 0x20, 0x4E, 20] ++
          [0xD0, 7, 0xE8, 3, 1, 1, 5, 0, 0, 0, 6, 1, 0, 0]) =
        some ⟨30000, 1, 2, 600000, 4000, 100, 7, 50, 12000, 20000, 20, 2000, 1000, true, some ⟨5, 262⟩⟩ ∧
      parseHead [40, 6, 4, 0xF4, 1, 0x58, 2, 50, 20, 0, 0xF4, 1, 8] = ⟨40, 6, 4, 500, 600, 50, 20, 500, 8⟩ ∧
      ((parseCups (leBytes 2 (65536 - 2800) ++ leBytes 2 1100 ++ List.replicate 28 0 ++ [0x81]))[0]?, (parseCups
        (leBytes 2 (65536 - 2800) ++ leBytes 2 1100 ++ List.replicate 28 0 ++ [0x81])).map (·.fitted)) =
        (some ⟨-2800, 1100, true⟩, [true, false, false, false, false, false, false, true]) ∧
      parseSaw [0xA0, 0x86, 1, 0, 0xF4, 1, 0x28, 0x23, 100, 0] = ⟨100000, 500, 9000, 100⟩ ∧
      parseFence [0x80, 0x38, 1, 0, 8, 0x4C, 1, 0] = ⟨80000, 85000⟩ ∧
      parseBay [0, 0xA0, 0x86, 1, 0, 0xF4, 1, 7, 0, 0xF0, 0x0A, 0x16, 8, 0xBE, 0, 12, 0xDC, 5] = bay5 := by decide +kernel

/-! What every step keeps: the cell meets every invariant, and its step answers a next state. -/

theorem witness_invariants :
    cell.gapKept = true ∧ cell.lawful = true ∧ cell.roomKept = true ∧
      step { cell with pending := [moveX 149000 3000 .refuse] } = .next (after (moveX 149000 3000 .refuse) cell) :=
  ⟨by decide +kernel, by decide +kernel, by decide +kernel, rfl⟩

theorem witness_orders :
    stopWaits.feedOrdered ∧ stopWaits.mapSingle ∧ stopWaits.stopsSingle ∧
      step { stopWaits with pending := [.stopSend] } = .next (after .stopSend stopWaits) := by
  refine ⟨?_, ?_, ?_, rfl⟩
  · unfold State.feedOrdered Saw.ordered
    decide +kernel
  · unfold State.mapSingle
    decide +kernel
  · unfold State.stopsSingle
    decide +kernel

end Sys2Proof.Tests
end

section
/-! PROOFS. What each shared operation does to the carriages, said once: most leave the list as it is, and the others
change carriage `k` alone, by a function of that carriage. -/

namespace Sys2Proof.Machine

/-! Reading one carriage. -/

theorem State.carriage_eq (s : State) (k : Nat) : s.carriage k = s.carriages[k]? := rfl

/-- Equal lists of carriages give equal carriages. -/
theorem State.carriage_congr {s t : State} (h : t.carriages = s.carriages) (k : Nat) : t.carriage k = s.carriage k := by
  simp [State.carriage, h]

/-- A carriage that a change of the list names is changed. -/
theorem State.carriage_modify_self {s t : State} {k : Nat} {g : Carriage → Carriage}
    (h : t.carriages = s.carriages.modify k g) : t.carriage k = (s.carriage k).map g := by
  simp [State.carriage, h]

/-- Every other carriage stays. -/
theorem State.carriage_modify_ne {s t : State} {j k : Nat} {g : Carriage → Carriage}
    (h : t.carriages = s.carriages.modify k g) (hj : j ≠ k) : t.carriage j = s.carriage j := by
  simp [State.carriage, h, Ne.symm hj]

/-- A change of carriage `k` that does nothing to it changes nothing. -/
theorem modify_eq_self_of {cs : List Carriage} {k : Nat} {g : Carriage → Carriage}
    (h : ∀ c, cs[k]? = some c → g c = c) : cs.modify k g = cs := by
  apply List.ext_getElem?
  intro i
  rw [List.getElem?_modify]
  cases hc : cs[i]? with
  | none => rfl
  | some c =>
    by_cases hi : k = i
    · subst hi
      simp [h c hc]
    · simp [hi]

/-- Two changes of one carriage that agree on it are the same. -/
theorem modify_congr_of {cs : List Carriage} {k : Nat} {f g : Carriage → Carriage}
    (h : ∀ c, cs[k]? = some c → f c = g c) : cs.modify k f = cs.modify k g := by
  apply List.ext_getElem?
  intro i
  rw [List.getElem?_modify, List.getElem?_modify]
  cases hc : cs[i]? with
  | none => rfl
  | some c =>
    by_cases hi : k = i
    · subst hi
      simp [h c hc]
    · simp [hi]

/-! Operations that leave every carriage. -/

@[simp] theorem hand_carriages (s : State) (a : NoticeKind) (b : Option Nat) (c : Reference) (d : Cause) (e : Detail) :
    (hand s a b c d e).carriages = s.carriages := by
  unfold hand
  split
  · rfl
  · split <;> rfl

@[simp] theorem handStateChange_carriages (s : State) (k : Nat) (c : Cause) :
    (handStateChange s k c).carriages = s.carriages := hand_carriages ..

@[simp] theorem reportRoom_carriages (s : State) : (reportRoom s).carriages = s.carriages := by
  simp [reportRoom_eq]

@[simp] theorem withdrawMoves_carriages (s : State) (n : Nat) : (withdrawMoves s n).carriages = s.carriages := by
  unfold withdrawMoves
  dsimp only
  split
  · rw [reportRoom_carriages]
    rfl
  · rfl

@[simp] theorem takeSeq_carriages (s : State) : (takeSeq s).carriages = s.carriages := rfl

@[simp] theorem enterStop_carriages (s : State) (n : Nat) (r : StopReason) :
    (enterStop s n r).carriages = s.carriages := by
  unfold enterStop
  split <;> rfl

@[simp] theorem testFence_carriages (s : State) (i : Nat) : (testFence s i).carriages = s.carriages := by
  unfold testFence
  split
  · rfl
  · split
    · rw [hand_carriages]
      rfl
    · rfl

/-- Operations folded over a list leave what each of them leaves. -/
theorem foldl_keeps {α β : Type} (p : State → β) (f : State → α → State) (hf : ∀ s a, p (f s a) = p s) (l : List α)
    (s : State) : p (l.foldl f s) = p s := by
  induction l generalizing s with
  | nil => rfl
  | cons a l ih => exact (ih _).trans (hf s a)

@[simp] theorem testFences_carriages (s : State) : (testFences s).carriages = s.carriages :=
  foldl_keeps (·.carriages) testFence testFence_carriages _ s

theorem placeDown_carriages {s t : State} {f : Frame} (h : placeDown s f = some t) : t.carriages = s.carriages := by
  rw [placeDown_eq] at h
  split at h
  · cases h
    rfl
  · cases h

/-! Operations that change one carriage. -/

/-- The active move of an axis made absent. -/
def Carriage.clearAxis (axis : Axis) (c : Carriage) : Carriage :=
  match axis with
  | .x => { c with ctx := { c.ctx with activeX := none } }
  | .z => { c with ctx := { c.ctx with activeZ := none } }

/-- Both active moves made absent, as STOP requests for both drives leave a carriage (R126). -/
def Carriage.cleared (c : Carriage) : Carriage := { c with ctx := { c.ctx with activeX := none, activeZ := none } }

/-- A carriage that enters STOPPING (R18). -/
def Carriage.slowed (c : Carriage) : Carriage :=
  { c with ctx := { c.ctx with runState := .stopping, stillX := false, stillZ := false } }

/-- A carriage whose slot is EMPTY. -/
def Carriage.unheld (c : Carriage) : Carriage := { c with slot := none }

/-- A carriage with a fault flag added. -/
def Carriage.flagged (f : Flag) (c : Carriage) : Carriage := { c with ctx := { c.ctx with flags := c.ctx.flags.add f } }

/-- What a halt request without a flag leaves of the carriage it names (R18). -/
def Carriage.halted (c : Carriage) : Carriage :=
  match c.ctx.runState with
  | .active => c.unheld.slowed.cleared
  | .lost => c
  | .unseen => c.cleared
  | .stopping => c.cleared
  | .halted => c.cleared

/-- A carriage with a reservation stored. -/
def Carriage.reserved (r : Option Reservation) (c : Carriage) : Carriage := { c with reservation := r }

@[simp] theorem clearActive_carriages (s : State) (k : Nat) (a : Axis) :
    (clearActive s k a).carriages = s.carriages.modify k (·.clearAxis a) := by
  cases a <;> rfl

@[simp] theorem requestStop_carriages (s : State) (k : Nat) (a : Axis) (r : StopReason) :
    (requestStop s k a r).carriages = s.carriages.modify k (·.clearAxis a) := by
  unfold requestStop
  dsimp only
  split <;> simp

@[simp] theorem requestStops_carriages (s : State) (k : Nat) (r : StopReason) :
    (requestStops s k r).carriages = s.carriages.modify k (·.cleared) := by
  simp only [requestStops, requestStop_carriages, List.modify_modify_eq]
  rfl

@[simp] theorem enterStopping_carriages (s : State) (k : Nat) :
    (enterStopping s k).carriages = s.carriages.modify k (·.slowed) := rfl

@[simp] theorem endHeld_carriages (s : State) (k : Nat) (c : Cause) (d : Detail) :
    (endHeld s k c d).carriages = s.carriages.modify k (·.unheld) := by
  unfold endHeld
  split
  · rename_i h
    refine (modify_eq_self_of fun c hc => ?_).symm
    have hs : s.carriage k = some c := hc
    rw [hs] at h
    simp only [Option.bind_some] at h
    simp [Carriage.unheld, ← h]
  · rw [hand_carriages]
    rfl

/-- A flag that is set is added without effect. -/
theorem FaultFlags.add_of_has {fs : FaultFlags} {f : Flag} (h : fs.has f = true) : fs.add f = fs := by
  cases f <;> simp only [FaultFlags.has] at h <;> simp [FaultFlags.add, ← h]

@[simp] theorem raiseFlag_carriages (s : State) (k : Nat) (f : Flag) :
    (raiseFlag s k f).carriages = s.carriages.modify k (·.flagged f) := by
  unfold raiseFlag
  split
  · rename_i h
    exact (modify_eq_self_of fun c hc => by cases hc.symm.trans h).symm
  · rename_i c h
    split
    · rename_i hf
      refine (modify_eq_self_of fun d hd => ?_).symm
      cases hd.symm.trans h
      simp [Carriage.flagged, FaultFlags.add_of_has hf]
    · rw [hand_carriages]
      rfl

@[simp] theorem setReservation_carriages (s : State) (k : Nat) (r : Option Reservation) :
    (setReservation s k r).carriages = s.carriages.modify k (·.reserved r) := by
  unfold setReservation
  split
  · rename_i h
    exact (modify_eq_self_of fun c hc => by cases hc.symm.trans h).symm
  · rw [testFences_carriages]
    rfl

/-- A halt request without a flag changes the carriage it names by its run state alone. -/
@[simp] theorem haltCarriage_none_carriages (s : State) (k : Nat) (r : StopReason) :
    (haltCarriage s k r none).carriages = s.carriages.modify k (·.halted) := by
  cases hc : s.carriage k with
  | none =>
    rw [haltCarriage_idle (.inl (by simp [State.runState, hc]))]
    exact (modify_eq_self_of fun c h => by cases h.symm.trans hc).symm
  | some c =>
    have hr := runState_eq hc
    have hm (g : Carriage → Carriage) (h : c.halted = g c) : s.carriages.modify k g = s.carriages.modify k (·.halted) :=
      modify_congr_of fun d hd => by
        cases hd.symm.trans hc
        exact h.symm
    cases hs : c.ctx.runState with
    | active =>
      rw [haltCarriage_active (hs ▸ hr)]
      simp only [handStateChange_carriages, requestStops_carriages, enterStopping_carriages, endHeld_carriages,
        List.modify_modify_eq]
      exact hm _ (by simp [Carriage.halted, hs])
    | lost =>
      rw [haltCarriage_idle (.inr (hs ▸ hr))]
      exact (modify_eq_self_of fun d hd => by
        cases hd.symm.trans hc
        simp [Carriage.halted, hs]).symm
    | unseen =>
      rw [haltCarriage_still hr (by simp [hs]) (by simp [hs]), requestStops_carriages]
      exact hm _ (by simp [Carriage.halted, hs])
    | stopping =>
      rw [haltCarriage_still hr (by simp [hs]) (by simp [hs]), requestStops_carriages]
      exact hm _ (by simp [Carriage.halted, hs])
    | halted =>
      rw [haltCarriage_still hr (by simp [hs]) (by simp [hs]), requestStops_carriages]
      exact hm _ (by simp [Carriage.halted, hs])

@[simp] theorem haltCarriage_some_carriages (s : State) (k : Nat) (r : StopReason) (f : Flag) :
    (haltCarriage s k r (some f)).carriages = s.carriages.modify k fun c => (c.flagged f).halted := by
  rw [haltCarriage_flag, haltCarriage_none_carriages, raiseFlag_carriages, List.modify_modify_eq]
  rfl

/-! What a halt leaves of a carriage. -/

theorem Carriage.halted_of_active {c : Carriage} (h : c.ctx.runState = .active) :
    c.halted = c.unheld.slowed.cleared := by
  simp [Carriage.halted, h]

theorem Carriage.halted_of_lost {c : Carriage} (h : c.ctx.runState = .lost) : c.halted = c := by
  simp [Carriage.halted, h]

theorem Carriage.halted_of_still {c : Carriage} (ha : c.ctx.runState ≠ .active) (hl : c.ctx.runState ≠ .lost) :
    c.halted = c.cleared := by
  cases h : c.ctx.runState <;> simp_all [Carriage.halted]

/-- The run state after a halt: an ACTIVE carriage is STOPPING, every other keeps its own. -/
theorem Carriage.halted_runState (c : Carriage) :
    c.halted.ctx.runState = if c.ctx.runState = .active then .stopping else c.ctx.runState := by
  cases h : c.ctx.runState <;> simp [Carriage.halted, h, Carriage.unheld, Carriage.slowed, Carriage.cleared]

/-- No carriage is ACTIVE after a halt. -/
theorem Carriage.halted_not_active (c : Carriage) : c.halted.ctx.runState ≠ .active := by
  rw [halted_runState]
  split <;> simp_all

@[simp] theorem Carriage.halted_flags (c : Carriage) : c.halted.ctx.flags = c.ctx.flags := by
  cases h : c.ctx.runState <;> simp [Carriage.halted, h, Carriage.unheld, Carriage.slowed, Carriage.cleared]

@[simp] theorem Carriage.halted_reservation (c : Carriage) : c.halted.reservation = c.reservation := by
  cases h : c.ctx.runState <;> simp [Carriage.halted, h, Carriage.unheld, Carriage.slowed, Carriage.cleared]

end Sys2Proof.Machine
end

section
/-! PROOFS. The laws of a carriage context (R6, R70, R129), with what the gap of a lawful state adds to them: an EXCLUDED
carriage is HALTED. Most operations leave all that these laws speak of, `State.legal`; the others keep the laws. -/

namespace Sys2Proof.Machine

/-- What the laws of a carriage context speak of. -/
structure Legal where
  runState : RunState
  membership : Membership
  flags : FaultFlags
  unseenOrigin : Option UnseenOrigin
  slot : Option HeldMove

/-- What the laws speak of in a carriage. -/
@[simps] def Carriage.legal (c : Carriage) : Legal :=
  { runState := c.ctx.runState
    membership := c.ctx.membership
    flags := c.ctx.flags
    unseenOrigin := c.ctx.unseenOrigin
    slot := c.slot }

/-- What the laws speak of in a state. -/
def State.legal (s : State) : List Legal := s.carriages.map (·.legal)

/-- The laws of a carriage context: `Carriage.lawful`, and an EXCLUDED carriage is HALTED. -/
structure Legal.Steady (l : Legal) : Prop where
  unflagged : l.runState = .active → l.flags.any = false
  holds : l.slot.isSome = true → l.runState = .active ∧ l.membership = .normal
  origin : l.unseenOrigin.isSome = true ↔ l.runState = .unseen
  shut : l.membership = .excluded → l.runState = .halted

/-- At most four carriages are installed, and each keeps the laws. -/
structure State.Steady (s : State) : Prop where
  few : s.legal.length ≤ 4
  each : ∀ l ∈ s.legal, l.Steady

theorem Carriage.lawful_iff (c : Carriage) :
    c.lawful = true ↔
      (c.ctx.runState = .active → c.ctx.flags.any = false) ∧
        (c.slot.isSome = true → c.ctx.runState = .active ∧ c.ctx.membership = .normal) ∧
          (c.ctx.unseenOrigin.isSome = true ↔ c.ctx.runState = .unseen) := by
  simp only [Carriage.lawful, Bool.and_eq_true, Bool.or_eq_true, bne_iff_ne, beq_iff_eq, Bool.not_eq_true',
    ← Option.not_isSome, and_assoc, imp_iff_not_or, Bool.not_eq_true]
  rw [Bool.eq_iff_iff (a := c.ctx.unseenOrigin.isSome), beq_iff_eq]

/-- A lawful state that keeps its gap is steady. -/
theorem State.steady_of_lawful {s : State} (hg : s.gapKept = true) (hl : s.lawful = true) : s.Steady := by
  simp only [State.gapKept, State.lawful, Bool.and_eq_true, List.all_eq_true, decide_eq_true_eq] at hg hl
  refine ⟨by simpa [State.legal] using hl.1, fun l hm => ?_⟩
  obtain ⟨c, hc, rfl⟩ := List.mem_map.mp hm
  obtain ⟨hu, hh, ho⟩ := c.lawful_iff.mp (hl.2 c hc)
  refine ⟨hu, hh, ho, fun hx => ?_⟩
  have hp := hg.2 c hc
  rw [Carriage.placed, if_pos (show c.ctx.membership = .excluded from hx), beq_iff_eq] at hp
  exact hp

/-- A steady state is lawful. -/
theorem State.lawful_of_steady {s : State} (h : s.Steady) : s.lawful = true := by
  simp only [State.lawful, Bool.and_eq_true, List.all_eq_true, decide_eq_true_eq]
  refine ⟨by simpa [State.legal] using h.few, fun c hc => c.lawful_iff.mpr ?_⟩
  obtain ⟨hu, hh, ho, -⟩ := h.each c.legal (List.mem_map_of_mem hc)
  exact ⟨hu, hh, ho⟩

/-- The carriage that a steady state holds at an index keeps the laws. -/
theorem State.Steady.at {s : State} (h : s.Steady) {k : Nat} {c : Carriage} (hc : s.carriage k = some c) :
    c.legal.Steady := h.each _ (List.mem_map_of_mem (List.mem_of_getElem? hc))

/-- What leaves all that the laws speak of keeps them. -/
theorem State.Steady.of_legal {s t : State} (h : s.Steady) (hl : t.legal = s.legal) : t.Steady :=
  ⟨hl ▸ h.few, hl ▸ h.each⟩

/-- A change of one carriage that keeps its laws keeps those of all. -/
theorem State.Steady.of_modify {s t : State} (h : s.Steady) {k : Nat} {g : Carriage → Carriage}
    (ht : t.carriages = s.carriages.modify k g)
    (hg : ∀ c, s.carriage k = some c → c.legal.Steady → (g c).legal.Steady) : t.Steady := by
  refine ⟨by simpa [State.legal, ht] using h.few, fun l hl => ?_⟩
  obtain ⟨c, hc, rfl⟩ := List.mem_map.mp hl
  obtain ⟨i, hi⟩ := List.getElem?_of_mem hc
  by_cases hik : i = k
  · subst hik
    have := State.carriage_modify_self ht
    rw [State.carriage_eq, hi] at this
    obtain ⟨d, hd, rfl⟩ := Option.map_eq_some_iff.mp this.symm
    exact hg d hd (h.at hd)
  · have := State.carriage_modify_ne ht hik
    rw [State.carriage_eq, hi] at this
    exact h.at this.symm

/-! Operations that leave all that the laws speak of. -/

theorem legal_of_carriages {s t : State} (h : t.carriages = s.carriages) : t.legal = s.legal := by
  simp [State.legal, h]

theorem legal_of_modify {s t : State} {k : Nat} {g : Carriage → Carriage} (ht : t.carriages = s.carriages.modify k g)
    (hg : ∀ c, (g c).legal = c.legal) : t.legal = s.legal := by
  apply List.ext_getElem?
  intro i
  simp only [State.legal, ht, List.getElem?_map, List.getElem?_modify]
  cases s.carriages[i]? with
  | none => rfl
  | some c =>
    by_cases hi : k = i <;> simp [hi, hg]

theorem modCarriage_legal {k : Nat} {g : Carriage → Carriage} (hg : ∀ c, (g c).legal = c.legal) (s : State) :
    (s.modCarriage k g).legal = s.legal := legal_of_modify (State.modCarriage_carriages ..) hg

theorem modContext_legal {k : Nat} {g : Context → Context}
    (hg : ∀ c : Carriage, ({ c with ctx := g c.ctx } : Carriage).legal = c.legal) (s : State) :
    (s.modContext k g).legal = s.legal := modCarriage_legal hg s

@[simp] theorem countFor_legal (s : State) (k : Nat) (g : CarriageCounters → CarriageCounters) :
    (s.countFor k g).legal = s.legal := modContext_legal (fun _ => rfl) s

@[simp] theorem withPort_legal (s : State) (p : PortUnit) : (s.withPort p).legal = s.legal := rfl
@[simp] theorem withManagement_legal (s : State) (m : Management) : (s.withManagement m).legal = s.legal := rfl
@[simp] theorem withReports_legal (s : State) (rs : List Report) : (s.withReports rs).legal = s.legal := rfl
@[simp] theorem withFences_legal (s : State) (fs : List Fence) : (s.withFences fs).legal = s.legal := rfl
@[simp] theorem withStamps_legal (s : State) (c : Clock) : (s.withStamps c).legal = s.legal := rfl
@[simp] theorem withInputs_legal (s : State) (i : Inputs) : (s.withInputs i).legal = s.legal := rfl
@[simp] theorem withLamps_legal (s : State) (l : LampUnit) : (s.withLamps l).legal = s.legal := rfl
@[simp] theorem withBays_legal (s : State) (bs : List Bay) : (s.withBays bs).legal = s.legal := rfl
@[simp] theorem withSaws_legal (s : State) (ss : List Saw) : (s.withSaws ss).legal = s.legal := rfl
@[simp] theorem report_legal (s : State) (r : Report) : (s.report r).legal = s.legal := rfl
@[simp] theorem modBay_legal (s : State) (b : Nat) (f : Bay → Bay) : (s.modBay b f).legal = s.legal := rfl
@[simp] theorem modSaw_legal (s : State) (j : Nat) (f : Saw → Saw) : (s.modSaw j f).legal = s.legal := rfl
@[simp] theorem modEntry_legal (s : State) (j q : Nat) (f : Entry → Entry) : (s.modEntry j q f).legal = s.legal := rfl
@[simp] theorem removeEntry_legal (s : State) (j q : Nat) : (s.removeEntry j q).legal = s.legal := rfl

@[simp] theorem hand_legal (s : State) (a : NoticeKind) (b : Option Nat) (c : Reference) (d : Cause) (e : Detail) :
    (hand s a b c d e).legal = s.legal := legal_of_carriages (hand_carriages ..)

@[simp] theorem handStateChange_legal (s : State) (k : Nat) (c : Cause) : (handStateChange s k c).legal = s.legal :=
  hand_legal ..

theorem placeDown_legal {s t : State} {f : Frame} (h : placeDown s f = some t) : t.legal = s.legal :=
  legal_of_carriages (placeDown_carriages h)

@[simp] theorem reportRoom_legal (s : State) : (reportRoom s).legal = s.legal :=
  legal_of_carriages (reportRoom_carriages s)

@[simp] theorem withdrawMoves_legal (s : State) (n : Nat) : (withdrawMoves s n).legal = s.legal :=
  legal_of_carriages (withdrawMoves_carriages s n)

@[simp] theorem enterStop_legal (s : State) (n : Nat) (r : StopReason) : (enterStop s n r).legal = s.legal :=
  legal_of_carriages (enterStop_carriages s n r)

@[simp] theorem takeSeq_legal (s : State) : (takeSeq s).legal = s.legal := rfl

theorem Carriage.clearAxis_legal (a : Axis) (c : Carriage) : (c.clearAxis a).legal = c.legal := by
  cases a <;> rfl

@[simp] theorem clearActive_legal (s : State) (k : Nat) (a : Axis) : (clearActive s k a).legal = s.legal :=
  legal_of_modify (clearActive_carriages ..) (Carriage.clearAxis_legal a)

@[simp] theorem requestStop_legal (s : State) (k : Nat) (a : Axis) (r : StopReason) :
    (requestStop s k a r).legal = s.legal :=
  legal_of_modify (requestStop_carriages ..) (Carriage.clearAxis_legal a)

@[simp] theorem requestStops_legal (s : State) (k : Nat) (r : StopReason) : (requestStops s k r).legal = s.legal := by
  simp [requestStops]

@[simp] theorem testFences_legal (s : State) : (testFences s).legal = s.legal :=
  legal_of_carriages (testFences_carriages s)

@[simp] theorem setReservation_legal (s : State) (k : Nat) (r : Option Reservation) :
    (setReservation s k r).legal = s.legal := legal_of_modify (setReservation_carriages ..) fun _ => rfl

@[simp] theorem handVerdict_legal (s : State) (k : Nat) (t : Byte) (c : Cause) (d : Detail) :
    (handVerdict s k t c d).legal = s.legal := hand_legal ..

@[simp] theorem verdictRefused_legal (s : State) (k : Nat) (t : Byte) (c : Cause) :
    (verdictRefused s k t c).legal = s.legal := by
  simp [verdictRefused, countRefused]

@[simp] theorem verdictClamped_legal (s : State) (k : Nat) (t : Byte) (x : Nat) :
    (verdictClamped s k t x).legal = s.legal := by
  simp [verdictClamped, countClamped]

@[simp] theorem setActive_legal (s : State) (k : Nat) (a : Axis) (m : ActiveMove) :
    (setActive s k a m).legal = s.legal := by
  cases a <;> exact legal_of_modify (State.modCarriage_carriages ..) fun _ => rfl

theorem forwardMove_legal {s t : State} {k : Nat} {a : Axis} {f : Frame} {x : Nat} {tag : Byte}
    (h : forwardMove s k a f x tag = some t) : t.legal = s.legal := by
  unfold forwardMove at h
  split at h
  · cases h
  · rename_i s' hp
    cases a with
    | z => cases h; simpa using placeDown_legal hp
    | x =>
      dsimp only at h
      split at h <;> cases h <;> simpa using placeDown_legal hp

theorem generateMove_legal {s t : State} {k : Nat} {h : HeldMove} {x v : Nat} {c : Bool}
    (hg : generateMove s k h x v c = some t) : t.legal = s.legal := by
  unfold generateMove at hg
  split at hg
  · cases hg
  · dsimp only at hg
    obtain ⟨u, hu, rfl⟩ := Option.map_eq_some_iff.mp hg
    simpa using forwardMove_legal hu

@[simp] theorem setVirtual_legal (s : State) (k : Nat) (a : Axis) (x : Nat) : (setVirtual s k a x).legal = s.legal := by
  cases a with
  | x => exact legal_of_modify (State.modCarriage_carriages ..) fun _ => rfl
  | z => rfl

@[simp] theorem handShadow_legal (s : State) (k : Nat) (t : Byte) (c : Cause) (d : Detail) :
    (handShadow s k t c d).legal = s.legal := hand_legal ..

@[simp] theorem shadowMove_legal (s : State) (k : Nat) (a : Axis) (m : MoveFields) (b : BlockedAction) :
    (shadowMove s k a m b).legal = s.legal := by
  unfold shadowMove
  split
  · simp
  · split <;> simp
  · dsimp only
    split <;> simp
  · split
    · dsimp only
      split <;> simp
    · split <;> simp

/-! Halts keep the laws. -/

/-- A carriage that is not ACTIVE keeps the laws with any flag. -/
theorem Legal.Steady.flagged {c : Carriage} (h : c.legal.Steady) (ha : c.ctx.runState ≠ .active) (f : Flag) :
    (c.flagged f).legal.Steady :=
  ⟨fun hx => absurd hx ha, h.holds, h.origin, h.shut⟩

theorem Legal.Steady.unheld {c : Carriage} (h : c.legal.Steady) : c.unheld.legal.Steady :=
  ⟨h.unflagged, fun hx => (Bool.false_ne_true hx).elim, h.origin, h.shut⟩

/-- The origin of an UNSEEN carriage is present in no other run state. -/
theorem Legal.Steady.origin_none {l : Legal} (h : l.Steady) (hr : l.runState ≠ .unseen) : l.unseenOrigin.isSome = false :=
  Bool.eq_false_iff.mpr fun hx => hr (h.origin.mp hx)

/-- A carriage that is not ACTIVE holds no move. -/
theorem Legal.Steady.slot_none {l : Legal} (h : l.Steady) (hr : l.runState ≠ .active) : l.slot.isSome = false :=
  Bool.eq_false_iff.mpr fun hx => hr (h.holds hx).1

/-- A halt keeps the laws, whatever flag comes before it. -/
theorem Legal.Steady.halted {c : Carriage} (h : c.legal.Steady) (f : Option Flag) :
    ((match f with
      | none => c
      | some f => c.flagged f).halted).legal.Steady := by
  have key (d : Carriage) (hr : d.ctx.runState = c.ctx.runState) (hm : d.ctx.membership = c.ctx.membership)
      (ho : d.ctx.unseenOrigin = c.ctx.unseenOrigin) (hs : d.slot = c.slot) : d.halted.legal.Steady := by
    have hd (ha : d.ctx.runState ≠ .active) : d.legal.Steady :=
      ⟨fun hx => absurd hx ha, fun hx => by
        have := h.holds (by simpa [hs] using hx)
        exact ⟨hr.trans this.1, hm.trans this.2⟩,
        by simpa [ho, hr] using h.origin, fun hx => hr.trans (h.shut (hm.symm.trans hx))⟩
    cases hx : d.ctx.runState with
    | active =>
      rw [Carriage.halted_of_active hx]
      have ha : c.legal.runState = .active := hr.symm.trans hx
      have hon := h.origin_none (by rw [ha]; simp)
      refine ⟨nofun, nofun, ⟨fun hy => ?_, nofun⟩, fun hy => ?_⟩
      · have : c.legal.unseenOrigin.isSome = true := by
          simpa [Carriage.legal, Carriage.unheld, Carriage.slowed, Carriage.cleared, ho] using hy
        exact (Bool.false_ne_true (hon.symm.trans this)).elim
      · have := h.shut (hm.symm.trans hy)
        exact absurd (ha.symm.trans this) (by decide)
    | lost => exact (Carriage.halted_of_lost hx).symm ▸ hd (by simp [hx])
    | unseen =>
      rw [Carriage.halted_of_still (by simp [hx]) (by simp [hx])]
      exact hd (by simp [hx])
    | stopping =>
      rw [Carriage.halted_of_still (by simp [hx]) (by simp [hx])]
      exact hd (by simp [hx])
    | halted =>
      rw [Carriage.halted_of_still (by simp [hx]) (by simp [hx])]
      exact hd (by simp [hx])
  cases f <;> exact key _ rfl rfl rfl rfl

namespace State.Steady

theorem endHeld {s : State} (h : s.Steady) (k : Nat) (c : Cause) (d : Detail) : (endHeld s k c d).Steady :=
  h.of_modify (endHeld_carriages ..) fun _ _ hc => hc.unheld

theorem haltCarriage {s : State} (h : s.Steady) (k : Nat) (r : StopReason) (f : Option Flag) :
    (haltCarriage s k r f).Steady := by
  cases f with
  | none => exact h.of_modify (haltCarriage_none_carriages ..) fun c _ hc => hc.halted none
  | some f => exact h.of_modify (haltCarriage_some_carriages ..) fun c _ hc => hc.halted (some f)

/-- Operations folded over a list keep the laws if each does. -/
theorem foldl {α : Type} {f : State → α → State} (hf : ∀ s a, s.Steady → (f s a).Steady) (l : List α) {s : State}
    (h : s.Steady) : (l.foldl f s).Steady := by
  induction l generalizing s with
  | nil => exact h
  | cons a l ih => exact ih (hf s a h)

theorem haltNeighbours {s : State} (h : s.Steady) (js : List Nat) : (haltNeighbours s js).Steady :=
  foldl (fun _ j hs => hs.haltCarriage j _ _) js h

/-- A flag raised on a carriage that is not ACTIVE. -/
theorem raiseFlag {s : State} (h : s.Steady) {k : Nat} (f : Flag)
    (hk : ∀ c, s.carriage k = some c → c.ctx.runState ≠ .active) : (raiseFlag s k f).Steady :=
  h.of_modify (raiseFlag_carriages ..) fun c hc hs => hs.flagged (hk c hc) f

end State.Steady

end Sys2Proof.Machine
end

section
/-! PROOFS. The Admission Unit, the Tracker and the Head Unit keep the laws of a carriage context. -/

namespace Sys2Proof.Machine

/-! The Admission Unit. -/

/-- The carriage, if installed, is one that may hold a move: ACTIVE and NORMAL (R70). -/
def State.MayHold (s : State) (k : Nat) : Prop :=
  ∀ l, s.legal[k]? = some l → l.runState = .active ∧ l.membership = .normal

theorem State.legal_getElem? (s : State) (k : Nat) : s.legal[k]? = (s.carriage k).map (·.legal) := by
  simp [State.legal, State.carriage]

theorem State.MayHold.of_legal {s t : State} {k : Nat} (h : s.MayHold k) (hl : t.legal = s.legal) : t.MayHold k := by
  unfold State.MayHold
  rw [hl]
  exact h

theorem State.mayHold_of {s : State} {k : Nat} {c : Carriage} (hc : s.carriage k = some c)
    (ha : c.ctx.runState = .active) (hn : c.ctx.membership = .normal) : s.MayHold k := by
  intro l hl
  rw [s.legal_getElem?, hc] at hl
  cases hl
  exact ⟨ha, hn⟩

/-- A carriage that holds a move may hold one. -/
theorem State.Steady.mayHold {s : State} (h : s.Steady) {k : Nat} {m : HeldMove} (hm : s.held k = some m) :
    s.MayHold k := by
  obtain ⟨c, hc, hs⟩ := Option.bind_eq_some_iff.mp hm
  obtain ⟨ha, hn⟩ := (h.at hc).holds (by simp [hs])
  exact State.mayHold_of hc ha hn

/-- A move is judged otherwise than refused only for an ACTIVE carriage (R57). -/
theorem judge_active {s : State} {k : Nat} {a : Axis} {x v : Nat} (h : ∀ c, judge s k false a x v ≠ .refuse c) :
    s.runState k = some .active := by
  unfold judge at h
  split at h
  · exact absurd rfl (h _)
  · split at h
    · rename_i c r hc hr
      rw [runState_eq hc]
      split at h
      · exact absurd rfl (h _)
      · split at h
        · exact absurd rfl (h _)
        · rename_i hm
          simpa [Carriage.mayMove] using hm
    · exact absurd rfl (h _)

namespace State.Steady

theorem setSlot {s : State} (h : s.Steady) {k : Nat} (hk : s.MayHold k) (m : HeldMove) : (setSlot s k m).Steady :=
  h.of_modify (State.modCarriage_carriages ..) fun c hc hs =>
    ⟨hs.unflagged, fun _ => hk c.legal (by rw [s.legal_getElem?, hc]; rfl), hs.origin, hs.shut⟩

theorem holdMove {s : State} (h : s.Steady) {k : Nat} (hk : s.MayHold k) (a : Axis) (m : MoveFields) (b : BlockedAction)
    (w : Waiting) : (holdMove s k a m b w).Steady := by
  unfold Machine.holdMove
  split
  · exact h.of_legal (by simp)
  · refine (h.setSlot hk ?_).of_legal ?_
    rotate_left
    · simp only [handVerdict_legal, countHeld, countFor_legal, withStamps_legal]
      rfl

theorem decideBlocked {s : State} (h : s.Steady) {k : Nat} (hk : s.MayHold k) (f : Frame) (m : MoveFields)
    (a : BlockedAction) (b : Block) : (decideBlocked s k f m a b).1.Steady := by
  unfold Machine.decideBlocked
  split
  · split
    · exact h
    · rename_i hf
      have hl := forwardMove_legal hf
      dsimp only
      split
      · exact (h.of_legal (by simpa using hl)).holdMove (hk.of_legal (by simpa using hl)) ..
      · exact h.of_legal (by simpa using hl)
  · split
    · exact h.holdMove hk ..
    · exact h.of_legal (by simp)

theorem decideMove {s : State} (h : s.Steady) {k : Nat} (hn : ∀ c, s.carriage k = some c → c.ctx.membership = .normal)
    (a : Axis) (f : Frame) (m : MoveFields) (b : BlockedAction) : (decideMove s k a f m b).1.Steady := by
  have hold (hj : ∀ c, judge s k false a m.target m.speed ≠ .refuse c) : s.MayHold k := by
    obtain ⟨c, hc, ha⟩ := Option.map_eq_some_iff.mp (judge_active hj)
    exact State.mayHold_of hc ha (hn c hc)
  unfold Machine.decideMove
  split
  · exact h.of_legal (by simp)
  · rename_i hj
    split
    · dsimp only
      exact h.holdMove (hold (by simp [hj])) ..
    · exact h.of_legal (by simp)
  · rename_i hj
    exact h.decideBlocked (hold (by simp [hj])) ..
  · split
    · exact h
    · rename_i hf
      have hl := forwardMove_legal hf
      split <;> exact h.of_legal (by simpa [countAdmitted] using hl)

theorem admitMove {s : State} (h : s.Steady) (k : Nat) (a : Axis) (f : Frame) : (admitMove s k a f).1.Steady := by
  unfold Machine.admitMove
  dsimp only
  split
  · exact h.of_legal (by simp)
  · rename_i c hc
    split
    · exact h.of_legal (by simp)
    · exact h.of_legal (by simp)
    · split
      · split
        · split <;> exact h.of_legal (by simp)
        · exact h.of_legal (by simp)
      · exact h.of_legal (by simp)
    · rename_i hm
      have he := h.endHeld k .superseded .absent
      split
      · split
        · split
          · refine he.decideMove (fun d hd => ?_) ..
            rw [State.carriage_modify_self (endHeld_carriages ..), hc] at hd
            cases hd
            exact hm
          · exact he.of_legal (by simp)
        · exact he.of_legal (by simp)
      · exact he.of_legal (by simp)

/-! Re-evaluation. -/

theorem endRefused {s : State} (h : s.Steady) (k : Nat) (c : Cause) : (endRefused s k c).Steady :=
  (h.of_legal (t := countRefused s k) (countFor_legal ..)).endHeld ..

theorem recheckDeadlock {s : State} (h : s.Steady) (k : Nat) (b : Option Blocker) : (recheckDeadlock s k b).Steady := by
  unfold Machine.recheckDeadlock
  split
  · exact h
  · split
    · exact h
    · split
      · split
        · exact h
        · split
          · split <;> exact h.endRefused ..
          · exact h
      · exact h

theorem stayHeld {s : State} (h : s.Steady) {k : Nat} (hk : s.MayHold k) (m : HeldMove) (w : Waiting) :
    (stayHeld s k m w).Steady := (h.setSlot hk _).recheckDeadlock ..

theorem reevaluate {s : State} (h : s.Steady) (k : Nat) : (reevaluate s k).Steady := by
  unfold Machine.reevaluate
  split
  · exact h
  · rename_i hh
    have hk := h.mayHold hh
    split
    · exact h.endRefused ..
    · exact h.stayHeld hk ..
    · split
      · exact h.setSlot hk _
      · rename_i hg
        have hl := generateMove_legal hg
        split
        · exact (h.of_legal (by simpa [countClamped] using hl)).endHeld ..
        · exact (h.of_legal (by simpa [countAdmitted] using hl)).endHeld ..
    · split
      · exact h.stayHeld hk ..
      · split
        · split
          · exact h.setSlot hk _
          · rename_i hg
            have hl := generateMove_legal hg
            exact (h.of_legal (by simpa using hl)).stayHeld (hk.of_legal (by simpa using hl)) ..
        · exact h.stayHeld hk ..

theorem actOn {s : State} (h : s.Steady) (r : Report) : (actOn s r).Steady := by
  refine foldl (fun s k hs => ?_) _ h
  unfold actFor
  split
  · exact hs
  · rename_i m hm
    split
    · refine State.Steady.reevaluate ?_ k
      unfold answerMark
      split
      · exact hs.setSlot (hs.mayHold hm) _
      · exact hs
    · exact hs

theorem settle {s : State} (h : s.Steady) (n : Nat) : (settle n s).Steady := by
  induction n generalizing s with
  | zero => exact h
  | succ n ih =>
    unfold Machine.settle
    split
    · exact h
    · exact ih ((h.of_legal (withReports_legal ..)).actOn _)

theorem finish {s : State} (h : s.Steady) : (finish s).Steady := h.settle _

end State.Steady

/-! The run state of a carriage that is not ACTIVE is kept by all that only halts. -/

/-- Every carriage that is not ACTIVE keeps its run state. -/
def State.OnlyHalts (s t : State) : Prop := ∀ j b, b ≠ .active → s.runState j = some b → t.runState j = some b

namespace State.OnlyHalts

theorem refl (s : State) : s.OnlyHalts s := fun _ _ _ h => h

theorem trans {s t u : State} (h : s.OnlyHalts t) (h' : t.OnlyHalts u) : s.OnlyHalts u :=
  fun j b hb hs => h' j b hb (h j b hb hs)

theorem of_legal {s t : State} (h : t.legal = s.legal) : s.OnlyHalts t := by
  intro j b _ hj
  have key (u : State) : u.runState j = (u.legal[j]?).map (·.runState) := by
    simp [State.runState, State.legal_getElem?, Option.map_map, Function.comp_def]
  rw [key] at hj ⊢
  rwa [h]

theorem of_modify {s t : State} {k : Nat} {g : Carriage → Carriage} (ht : t.carriages = s.carriages.modify k g)
    (hg : ∀ c, c.ctx.runState ≠ .active → (g c).ctx.runState = c.ctx.runState) : s.OnlyHalts t := by
  intro j b hb hj
  obtain ⟨c, hc, rfl⟩ := Option.map_eq_some_iff.mp hj
  by_cases hjk : j = k
  · subst hjk
    have := State.carriage_modify_self ht
    rw [hc] at this
    rw [runState_eq this, hg c hb]
  · rw [State.runState, State.carriage_modify_ne ht hjk, hc]
    rfl

theorem haltCarriage (s : State) (k : Nat) (r : StopReason) (f : Option Flag) : s.OnlyHalts (haltCarriage s k r f) := by
  cases f with
  | none => exact of_modify (haltCarriage_none_carriages ..) fun c hc => by rw [c.halted_runState, if_neg hc]
  | some f =>
    exact of_modify (haltCarriage_some_carriages ..) fun c hc => by
      rw [Carriage.halted_runState]
      exact if_neg hc

theorem haltNeighbours (s : State) (js : List Nat) : s.OnlyHalts (haltNeighbours s js) := by
  unfold Machine.haltNeighbours
  induction js generalizing s with
  | nil => exact refl s
  | cons j js ih => exact (haltCarriage s j _ _).trans (ih _)

theorem growReservation (s : State) (k : Nat) (a b : Interval) (r : Reservation) :
    s.OnlyHalts (growReservation s k a b r) := by
  unfold Machine.growReservation
  dsimp only
  have hs : s.OnlyHalts (setReservation s k (some r)) := of_legal (setReservation_legal ..)
  split
  · exact hs
  · exact hs.trans ((haltCarriage _ _ _ _).trans (haltNeighbours _ _))

theorem followCandidate (s : State) (k : Nat) : s.OnlyHalts (followCandidate s k) := by
  unfold Machine.followCandidate
  split
  · split
    · exact of_legal (setReservation_legal ..)
    · exact growReservation _ _ _ _ _
  · exact of_legal (setReservation_legal ..)
  · exact refl s

theorem followStale (s : State) (k : Nat) : s.OnlyHalts (followStale s k) := by
  unfold Machine.followStale
  split
  · split
    · exact refl s
    · exact growReservation _ _ _ _ _
  · exact refl s

theorem updateReservation (s : State) (k : Nat) : s.OnlyHalts (updateReservation s k) := by
  unfold Machine.updateReservation
  split
  · split
    · split
      · exact followCandidate _ _
      · exact followStale _ _
    · exact refl s
  · exact refl s

theorem returnToFresh (s : State) (k : Nat) (f : ReportFrom) : s.OnlyHalts (returnToFresh s k f) := by
  unfold Machine.returnToFresh
  split
  · split
    · have hs : s.OnlyHalts (s.modContext k fun x => { x with fresh := true }) :=
        of_legal (modContext_legal (fun _ => rfl) s)
      dsimp only
      split
      · exact hs
      · exact hs.trans (followCandidate _ _)
    · exact refl s
  · exact refl s

end State.OnlyHalts

/-! First data (R13). -/

/-- The envelope of a carriage at its last X position and velocity (R33). -/
theorem currentEnvelope_eq {s : State} {k : Nat} {c : Carriage} {r : CarriageRecord} {x : AxisReport}
    (hc : s.carriage k = some c) (hr : s.record k = some r) (hx : c.ctx.lastX = some x) :
    s.currentEnvelope k = some (envelope r s.railLength x.position x.velocity) := by
  simp [State.currentEnvelope, hc, hr, hx]

/-- What first data leaves of a carriage: FRESH, without unseen origin, STOPPING or the run state of a standing one, and in
SHADOW with its virtual position (R13, R67). -/
def Carriage.firstSeen (r : CarriageRecord) (p : Nat) (stopping emergency : Bool) (d : Carriage) : Carriage :=
  { d with
    virtualX := if d.ctx.membership = .shadow then some p else d.virtualX
    ctx :=
      { d.ctx with
        fresh := true
        unseenOrigin := none
        runState := if stopping then .stopping else firstRunState d.ctx r emergency
        stillX := if stopping then false else d.ctx.stillX
        stillZ := if stopping then false else d.ctx.stillZ } }

/-- First data of carriage `k` with its reservation set and its context changed, before anything is requested or told. -/
def firstSet (s : State) (k : Nat) (r : CarriageRecord) (p : Nat) (env : Interval) (stopping : Bool) : State :=
  (setReservation s k (some ⟨env, .plain⟩)).modCarriage k (·.firstSeen r p stopping s.inputs.emergency)

/-- First data of a carriage with a written record and a last X position (R13). -/
theorem firstData_eq {s : State} {k : Nat} {c : Carriage} {r : CarriageRecord} {x : AxisReport} {env : Interval}
    {close : List Nat} {stopping : Bool} (hc : s.carriage k = some c) (hr : s.record k = some r)
    (hx : c.ctx.lastX = some x) (he : envelope r s.railLength x.position x.velocity = env)
    (hn : s.closeNeighbours k env = close) (hs : (decide (r.vStill < x.velocity.natAbs) || !close.isEmpty) = stopping) :
    firstData s k =
      haltNeighbours
        (handStateChange
          (if stopping then
            requestStops (firstSet s k r x.position env stopping) k (if close.isEmpty then .halt else .excursion)
          else firstSet s k r x.position env stopping)
          k (if stopping then .stopping else (firstRunState c.ctx r s.inputs.emergency).cause))
        close := by
  have hi (v : Option Reservation) : (setReservation s k v).inputs = s.inputs :=
    congrArg (fun y : Site => y.anchor.inputs) (setReservation_site s k v)
  subst he hn
  simp only [firstData, hc, hr, hx, currentEnvelope_eq hc hr hx, hs, hi]
  cases stopping with
  | true => rfl
  | false => simp only [Bool.false_eq_true, if_false, State.modCarriage_inputs, hi, firstSet, Carriage.firstSeen]

/-- Without a record or a last X position there is no first data. -/
theorem firstData_none {s : State} {k : Nat}
    (h : ∀ c r x, s.carriage k = some c → s.record k = some r → c.ctx.lastX ≠ some x) : firstData s k = s := by
  unfold firstData
  split
  · rename_i c r e hc hr _
    split
    · rfl
    · rename_i x hx
      exact absurd hx (h c r x hc hr)
  · rfl

/-- First data keeps the laws of an UNSEEN carriage, which has no held move and is not EXCLUDED. -/
theorem Legal.Steady.firstSeen {d : Carriage} (h : d.legal.Steady) (hu : d.ctx.runState = .unseen) (r : CarriageRecord)
    (p : Nat) (stopping emergency : Bool) : (d.firstSeen r p stopping emergency).legal.Steady := by
  have hslot : d.slot.isSome = false := h.slot_none (by simp [hu])
  refine ⟨fun hx => ?_, fun hx => (Bool.false_ne_true (hslot.symm.trans hx)).elim, ?_, fun hx => ?_⟩
  · cases stopping with
    | true => cases hx
    | false =>
      have hx : firstRunState d.ctx r emergency = .active := hx
      unfold firstRunState at hx
      split at hx
      · cases hx
      · rename_i hn
        simp only [Bool.or_eq_true, not_or, Bool.not_eq_true] at hn
        exact hn.1.2
  · cases stopping with
    | true => simp [Carriage.firstSeen]
    | false =>
      simp only [Carriage.firstSeen, firstRunState, Carriage.legal_unseenOrigin, Carriage.legal_runState,
        Option.isSome_none, Bool.false_eq_true, false_iff, if_false]
      split <;> simp
  · exact absurd (hu.symm.trans (h.shut hx)) (by decide)

/-! The Tracker. -/

/-! Expiries (R14, R16). -/

/-- The rail length is of the site. -/
theorem railLength_of_site {s t : State} (h : t.site = s.site) : t.railLength = s.railLength := by
  have : t.rail = s.rail := congrArg Site.rail h
  simp [State.railLength, this]

/-- A deadline of a Tracker expiry is kept only with a written record, in ACTIVE, STOPPING and HALTED, and not for an
EXCLUDED carriage (R14). -/
theorem reportDeadline_some {s : State} {k : Nat} {c : Carriage} {ms : CarriageRecord → Nat} {d : Clock}
    (hc : s.carriage k = some c) (hd : s.reportDeadline k ms = some d) :
    c.ctx.runState.tracked = true ∧ c.ctx.membership ≠ .excluded ∧ ∃ r, s.record k = some r := by
  unfold State.reportDeadline at hd
  rw [hc] at hd
  split at hd
  · rename_i hx hr
    cases hx
    split at hd
    · rename_i ht
      simp only [Bool.and_eq_true, bne_iff_ne] at ht
      exact ⟨ht.1, ht.2, _, hr⟩
    · cases hd
  · cases hd

@[simp] theorem widenReservation_legal (s : State) (k d : Nat) (g : Stage) :
    (widenReservation s k d g).legal = s.legal := by
  unfold widenReservation
  split <;> simp

/-- A carriage that becomes STALE, its reservation WIDENED by dStale (R14, R48). -/
def enterStale (s : State) (k : Nat) (r : CarriageRecord) : State :=
  widenReservation (s.modContext k fun x => { x with fresh := false }) k (dStale r) .widened

theorem enterStale_legal (s : State) (k : Nat) (r : CarriageRecord) : (enterStale s k r).legal = s.legal :=
  (widenReservation_legal ..).trans (modContext_legal (fun _ => rfl) s)

/-- The stale expiry where it falls due, by the span that it leaves (R14). -/
theorem takeStale_due {s : State} {k : Nat} {c : Carriage} {r : CarriageRecord} {d : Clock} (hc : s.carriage k = some c)
    (hr : s.record k = some r) (hd : s.staleDeadline k = some d) (hf : c.ctx.fresh = true)
    (hx : reached s.lineClock d = true) :
    takeStale s k =
      match (enterStale s k r).span k with
      | none => enterStale s k r
      | some span =>
        if ((enterStale s k r).closeNeighbours k span).isEmpty && !(enterStale s k r).nearFenceOf k span then
          enterStale s k r
        else
          haltNeighbours (haltCarriage (enterStale s k r) k .excursion none)
            ((enterStale s k r).closeNeighbours k span) := by
  simp only [takeStale, hc, hr, hd, hf, hx, Bool.and_self, if_true]
  rfl

/-- The stale expiry where it does not fall due. -/
theorem takeStale_idle {s : State} {k : Nat}
    (h : ∀ c d, s.carriage k = some c → s.staleDeadline k = some d → c.ctx.fresh = false ∨ reached s.lineClock d = false) :
    takeStale s k = s := by
  unfold takeStale
  split
  · rename_i c r d hc _ hd
    refine if_neg ?_
    rcases h c d hc hd with hx | hx <;> simp [hx]
  · rfl

/-- A carriage that enters LOST with its STOPs, its FROZEN reservation and its notices (R16, R49). -/
def enterLost (s : State) (k : Nat) (r : CarriageRecord) : State :=
  handStateChange
    (widenReservation
      (requestStops
        ((endHeld (raiseFlag s k .lost) k .lostFlag .absent).modContext k fun x =>
          { x.emptySet with runState := .lost })
        k .lost)
      k (stopDistance r s.railLength r.vmax) .frozen)
    k .lost

theorem takeLost_due {s : State} {k : Nat} {c : Carriage} {r : CarriageRecord} {d : Clock} (hc : s.carriage k = some c)
    (hr : s.record k = some r) (hd : s.lostDeadline k = some d) (hf : c.ctx.fresh = false)
    (hx : reached s.lineClock d = true) :
    takeLost s k =
      match (enterLost s k r).span k with
      | none => enterLost s k r
      | some span => haltNeighbours (enterLost s k r) ((enterLost s k r).closeNeighbours k span) := by
  have hl : (requestStops ((endHeld (raiseFlag s k .lost) k .lostFlag .absent).modContext k fun x =>
      { x.emptySet with runState := .lost }) k .lost).railLength = s.railLength := railLength_of_site (by simp)
  simp only [takeLost, hc, hr, hd, hf, hx, Bool.not_false, Bool.and_self, if_true, hl]
  rfl

theorem takeLost_idle {s : State} {k : Nat}
    (h : ∀ c d, s.carriage k = some c → s.lostDeadline k = some d → c.ctx.fresh = true ∨ reached s.lineClock d = false) :
    takeLost s k = s := by
  unfold takeLost
  split
  · rename_i c r d hc _ hd
    refine if_neg ?_
    rcases h c d hc hd with hx | hx <;> simp [hx]
  · rfl

/-- What the lost expiry leaves of its carriage, but for the reservation (R16). -/
def Carriage.lost (c : Carriage) : Carriage :=
  { c.unheld with
    ctx :=
      { c.ctx.emptySet with
        flags := c.ctx.flags.add .lost
        runState := .lost
        activeX := none
        activeZ := none } }

theorem enterLost_legal (s : State) (k : Nat) (r : CarriageRecord) :
    (enterLost s k r).legal = (s.modCarriage k (·.lost)).legal := by
  rw [enterLost, handStateChange_legal, widenReservation_legal]
  refine legal_of_carriages ?_
  simp only [requestStops_carriages, State.modContext, State.modCarriage_carriages, endHeld_carriages,
    raiseFlag_carriages, List.modify_modify_eq]
  rfl

/-! Still marks (R19). -/

/-- A carriage with the still mark of an axis set. -/
def Carriage.marked (axis : Axis) (still : Bool) (c : Carriage) : Carriage :=
  match axis with
  | .x => { c with ctx := { c.ctx with stillX := still } }
  | .z => { c with ctx := { c.ctx with stillZ := still } }

theorem markStill_none {s : State} {k : Nat} {r : CarriageRecord} (hr : s.record k = some r) (hc : s.carriage k = none)
    (axis : Axis) (v : Int) :
    markStill s k axis v = s.modCarriage k (·.marked axis (decide (v.natAbs ≤ r.vStill))) := by
  cases axis <;> simp [markStill, hr, hc, State.modContext, modCarriage_none]

/-- The still mark of the axis is set, and with both marks yes a STOPPING carriage becomes HALTED. -/
theorem markStill_eq {s : State} {k : Nat} {c : Carriage} {r : CarriageRecord} (hr : s.record k = some r)
    (hc : s.carriage k = some c) (axis : Axis) (v : Int) :
    markStill s k axis v =
      if (c.marked axis (decide (v.natAbs ≤ r.vStill))).ctx.runState = .stopping ∧
          (c.marked axis (decide (v.natAbs ≤ r.vStill))).ctx.stillX ∧
          (c.marked axis (decide (v.natAbs ≤ r.vStill))).ctx.stillZ then
        handStateChange
          ((s.modCarriage k (·.marked axis (decide (v.natAbs ≤ r.vStill)))).modContext k fun x =>
            { x with runState := .halted })
          k .halted
      else s.modCarriage k (·.marked axis (decide (v.natAbs ≤ r.vStill))) := by
  have hm := modCarriage_same hc (·.marked axis (decide (v.natAbs ≤ r.vStill)))
  unfold markStill
  rw [hr]
  dsimp only
  cases axis with
  | x =>
    change (match (s.modCarriage k (·.marked .x _)).carriage k with | none => _ | some c => _) = _
    rw [hm]
    rfl
  | z =>
    change (match (s.modCarriage k (·.marked .z _)).carriage k with | none => _ | some c => _) = _
    rw [hm]
    rfl

/-! The reading of a STATE, in its order (R10, R11). -/

/-- The arrival, the axis fields and the completion of a STATE (R9, R10 step 1). -/
def recordState (s : State) (k : Nat) (axis : Axis) (rep : StateReport) : State :=
  s.modContext k fun c => (c.arrived s.lineClock (driveNode axis)).reported rep axis

/-- The drive fault of a STATE that shows one (R11). -/
def faultState (s : State) (k : Nat) (rep : StateReport) : State :=
  if rep.axis.status.fault then haltCarriage s k .driveFault (some .driveFault) else s

/-- The update of the reservation, on an X STATE (R10 step 3). -/
def updateFor (s : State) (k : Nat) (axis : Axis) : State :=
  match axis with
  | .x => updateReservation s k
  | .z => s

/-- A STATE is read in the order of R10: fields, drive fault, reservation, run state, reports. -/
theorem readState_eq {s : State} {k : Nat} {before : RunState} (h : s.runState k = some before) (axis : Axis)
    (rep : StateReport) :
    readState s k axis rep =
      stateReports
        (runStateRules (updateFor (faultState (recordState s k axis rep) k rep) k axis) k before
          (.drive axis rep.axis.velocity))
        k axis := by
  simp only [readState, h]
  rfl

theorem recordState_legal (s : State) (k : Nat) (axis : Axis) (rep : StateReport) :
    (recordState s k axis rep).legal = s.legal := by
  cases axis <;> exact legal_of_modify (State.modCarriage_carriages ..) fun _ => rfl

theorem State.OnlyHalts.faultState (s : State) (k : Nat) (rep : StateReport) : s.OnlyHalts (faultState s k rep) := by
  unfold Machine.faultState
  split
  · exact State.OnlyHalts.haltCarriage _ _ _ _
  · exact State.OnlyHalts.refl s

theorem State.OnlyHalts.updateFor (s : State) (k : Nat) (axis : Axis) : s.OnlyHalts (updateFor s k axis) := by
  cases axis with
  | x => exact State.OnlyHalts.updateReservation _ _
  | z => exact State.OnlyHalts.refl s

@[simp] theorem stateReports_legal (s : State) (k : Nat) (a : Axis) : (stateReports s k a).legal = s.legal := by
  unfold stateReports
  split
  · split
    · split <;> simp
    · split
      · rfl
      · split <;> simp
  · rfl

theorem State.OnlyHalts.unfreeze (s : State) (k : Nat) (e : Interval) : s.OnlyHalts (unfreeze s k e) := by
  unfold Machine.unfreeze
  dsimp only
  have hs : s.OnlyHalts (setReservation s k (some ⟨e, .plain⟩)) := State.OnlyHalts.of_legal (setReservation_legal ..)
  split
  · exact hs
  · split
    · exact hs
    · exact hs.trans ((State.OnlyHalts.haltCarriage _ _ _ _).trans (State.OnlyHalts.haltNeighbours _ _))

namespace State.Steady

theorem growReservation {s : State} (h : s.Steady) (k : Nat) (a b : Interval) (r : Reservation) :
    (growReservation s k a b r).Steady := by
  unfold Machine.growReservation
  dsimp only
  have hs := h.of_legal (setReservation_legal s k (some r))
  split
  · exact hs
  · exact (hs.haltCarriage ..).haltNeighbours _

theorem followCandidate {s : State} (h : s.Steady) (k : Nat) : (followCandidate s k).Steady := by
  unfold Machine.followCandidate
  split
  · split
    · exact h.of_legal (setReservation_legal ..)
    · exact h.growReservation ..
  · exact h.of_legal (setReservation_legal ..)
  · exact h

theorem followStale {s : State} (h : s.Steady) (k : Nat) : (followStale s k).Steady := by
  unfold Machine.followStale
  split
  · split
    · exact h
    · exact h.growReservation ..
  · exact h

theorem updateReservation {s : State} (h : s.Steady) (k : Nat) : (updateReservation s k).Steady := by
  unfold Machine.updateReservation
  split
  · split
    · split
      · exact h.followCandidate k
      · exact h.followStale k
    · exact h
  · exact h

theorem firstData {s : State} (h : s.Steady) {k : Nat} (hk : s.runState k = some .unseen) : (firstData s k).Steady := by
  by_cases hf : ∃ c r x, s.carriage k = some c ∧ s.record k = some r ∧ c.ctx.lastX = some x
  · obtain ⟨c, r, x, hc, hr, hx⟩ := hf
    rw [firstData_eq hc hr hx rfl rfl rfl]
    refine State.Steady.haltNeighbours (of_legal ?_ (handStateChange_legal ..)) _
    have key (env : Interval) (st : Bool) : (firstSet s k r x.position env st).Steady := by
      have hl := setReservation_legal s k (some ⟨env, .plain⟩)
      refine (h.of_legal hl).of_modify (State.modCarriage_carriages ..) fun d hd hs => hs.firstSeen ?_ ..
      have := State.OnlyHalts.of_legal hl k .unseen (by simp) hk
      rw [runState_eq hd] at this
      exact Option.some.inj this
    split
    · exact (key ..).of_legal (requestStops_legal ..)
    · exact key ..
  · rw [firstData_none fun c r x hc hr hx => hf ⟨c, r, x, hc, hr, hx⟩]
    exact h

theorem unbiddenMotion {s : State} (h : s.Steady) {k : Nat} (hk : s.runState k = some .halted) :
    (unbiddenMotion s k).Steady := by
  unfold Machine.unbiddenMotion
  split
  · rename_i c r hc _
    have hh : c.ctx.runState = .halted := Option.some.inj ((runState_eq hc).symm.trans hk)
    split
    · split
      · split
        · exact h.of_legal (requestStops_legal ..)
        · refine (h.raiseFlag (k := k) .excursion fun d hd => ?_).of_legal (requestStops_legal ..)
          cases hd.symm.trans hc
          simp [hh]
      · exact h.of_legal (requestStops_legal ..)
    · rename_i hm
      refine State.Steady.of_legal (s := enterStopping s k) ?_ (by simp)
      refine h.of_modify (enterStopping_carriages ..) fun d hd hs => ?_
      cases hd.symm.trans hc
      have hslot : c.slot.isSome = false := hs.slot_none (by simp [hh])
      have horigin : c.ctx.unseenOrigin.isSome = false := hs.origin_none (by simp [hh])
      exact ⟨nofun, fun hx => (Bool.false_ne_true (hslot.symm.trans hx)).elim,
        ⟨fun hx => (Bool.false_ne_true (horigin.symm.trans hx)).elim, nofun⟩, fun hx => absurd hx hm⟩
  · exact h

theorem unfreeze {s : State} (h : s.Steady) (k : Nat) (e : Interval) : (unfreeze s k e).Steady := by
  unfold Machine.unfreeze
  dsimp only
  have hs := h.of_legal (setReservation_legal s k (some ⟨e, .plain⟩))
  split
  · exact hs
  · split
    · exact hs
    · exact (hs.haltCarriage ..).haltNeighbours _

/-- A carriage that is neither ACTIVE nor UNSEEN becomes HALTED. -/
theorem becomeHalted {s : State} (h : s.Steady) {k : Nat} {g : Context → Context}
    (hg : ∀ x, (g x).runState = .halted ∧ (g x).membership = x.membership ∧ (g x).unseenOrigin = x.unseenOrigin)
    (ha : s.runState k ≠ some .active) (hu : s.runState k ≠ some .unseen) : (s.modContext k g).Steady := by
  refine h.of_modify (State.modCarriage_carriages ..) fun c hc hs => ?_
  obtain ⟨hr, hm, ho⟩ := hg c.ctx
  rw [runState_eq hc] at ha hu
  have hslot : c.slot.isSome = false := hs.slot_none (by simpa using ha)
  have horigin : c.ctx.unseenOrigin.isSome = false := hs.origin_none (by simpa using hu)
  refine ⟨fun hx => ?_, fun hx => (Bool.false_ne_true (hslot.symm.trans hx)).elim, ?_, fun _ => hr⟩
  · exact absurd (hr.symm.trans hx) (by decide)
  · simp [hr, ho, horigin]

theorem recover {s : State} (h : s.Steady) {k : Nat} (hk : s.runState k = some .lost) (f : ReportFrom) :
    (recover s k f).Steady := by
  unfold Machine.recover
  split
  · rename_i r e _ _
    dsimp only
    have hh : (s.modContext k fun c => { c with fresh := true, runState := .halted }).Steady :=
      h.becomeHalted (fun _ => ⟨rfl, rfl, rfl⟩) (by simp [hk]) (by simp [hk])
    have hr : (s.modContext k fun c => { c with fresh := true, runState := .halted }).runState k = some .halted := by
      obtain ⟨c, hc, -⟩ := Option.map_eq_some_iff.mp hk
      exact runState_eq (modCarriage_same hc _)
    have hc := handStateChange_legal (s.modContext k fun c => { c with fresh := true, runState := .halted }) k .halted
    have hu := (hh.of_legal hc).unfreeze k e
    have ho := (State.OnlyHalts.of_legal hc).trans (State.OnlyHalts.unfreeze _ k e) k _ (by simp) hr
    split
    · split
      · exact hu.unbiddenMotion ho
      · exact hu
    · exact hu
  · exact h

theorem returnToFresh {s : State} (h : s.Steady) (k : Nat) (f : ReportFrom) : (returnToFresh s k f).Steady := by
  unfold Machine.returnToFresh
  split
  · split
    · have hs : (s.modContext k fun x => { x with fresh := true }).Steady :=
        h.of_legal (modContext_legal (fun _ => rfl) s)
      dsimp only
      split
      · exact hs
      · exact hs.followCandidate k
    · exact h
  · exact h

theorem markStill {s : State} (h : s.Steady) (k : Nat) (a : Axis) (v : Int) : (markStill s k a v).Steady := by
  cases hr : s.record k with
  | none => simpa [Machine.markStill, hr] using h
  | some r =>
    have hm (still : Bool) : (s.modCarriage k (·.marked a still)).Steady :=
      h.of_modify (State.modCarriage_carriages ..) fun _ _ hs => by cases a <;> exact hs
    cases hc : s.carriage k with
    | none => simpa [markStill_none hr hc] using hm _
    | some c =>
      rw [markStill_eq hr hc]
      split
      · rename_i hx
        refine State.Steady.of_legal ?_ (handStateChange_legal _ k Cause.halted)
        have hk := runState_eq (modCarriage_same hc (·.marked a (decide (v.natAbs ≤ r.vStill))))
        exact (hm _).becomeHalted (fun _ => ⟨rfl, rfl, rfl⟩) (by simp [hk, hx.1]) (by simp [hk, hx.1])
      · exact hm _

theorem applyVelocity {s : State} (h : s.Steady) {k : Nat} {b : RunState} (hb : b ≠ .active → s.runState k = some b)
    (f : ReportFrom) : (applyVelocity s k b f).Steady := by
  unfold Machine.applyVelocity
  split
  · exact h
  · split
    · exact h.markStill ..
    · split
      · exact h
      · split
        · exact h.unbiddenMotion (hb (by simp))
        · exact h
    · exact h

theorem runStateRules {s : State} (h : s.Steady) {k : Nat} {b : RunState} (hb : b ≠ .active → s.runState k = some b)
    (f : ReportFrom) : (runStateRules s k b f).Steady := by
  unfold Machine.runStateRules
  split
  · split
    · split
      · exact h.firstData (hb (by simp))
      · exact h
    · split
      · exact h.recover (hb (by simp)) f
      · exact h
    · exact (h.returnToFresh k f).applyVelocity (fun hn => State.OnlyHalts.returnToFresh s k f k b hn (hb hn)) f
  · exact h

theorem readState {s : State} (h : s.Steady) (k : Nat) (a : Axis) (rep : StateReport) : (readState s k a rep).Steady := by
  cases hb : s.runState k with
  | none => simpa [Machine.readState, hb] using h
  | some before =>
    have h1 := h.of_legal (recordState_legal s k a rep)
    have h2 : (faultState (recordState s k a rep) k rep).Steady := by
      unfold faultState
      split
      · exact h1.haltCarriage ..
      · exact h1
    have h3 : (updateFor (faultState (recordState s k a rep) k rep) k a).Steady := by
      cases a with
      | x => exact h2.updateReservation k
      | z => exact h2
    have ho : s.OnlyHalts (updateFor (faultState (recordState s k a rep) k rep) k a) :=
      (State.OnlyHalts.of_legal (recordState_legal s k a rep)).trans
        ((State.OnlyHalts.faultState _ k rep).trans (State.OnlyHalts.updateFor _ k a))
    rw [readState_eq hb]
    exact (h3.runStateRules (fun hn => ho k _ hn hb) _).of_legal (stateReports_legal ..)

theorem readHeadArrival {s : State} (h : s.Steady) (k : Nat) : (readHeadArrival s k).Steady := by
  unfold Machine.readHeadArrival
  split
  · exact h
  · rename_i before hb
    have hl : (s.modContext k fun c => c.arrived s.lineClock .head).legal = s.legal := modContext_legal (fun _ => rfl) s
    exact (h.of_legal hl).runStateRules (fun hn => State.OnlyHalts.of_legal hl k _ hn hb) _

theorem takeStale {s : State} (h : s.Steady) (k : Nat) : (takeStale s k).Steady := by
  by_cases hi : ∃ c d, s.carriage k = some c ∧ s.staleDeadline k = some d ∧ c.ctx.fresh = true ∧
      reached s.lineClock d = true
  · obtain ⟨c, d, hc, hd, hf, hx⟩ := hi
    obtain ⟨-, -, r, hr⟩ := reportDeadline_some hc hd
    have hs := h.of_legal (enterStale_legal s k r)
    rw [takeStale_due hc hr hd hf hx]
    split
    · exact hs
    · split
      · exact hs
      · exact (hs.haltCarriage ..).haltNeighbours _
  · rw [takeStale_idle fun c d hc hd => by
      by_contra hn
      simp only [not_or, Bool.not_eq_false] at hn
      exact hi ⟨c, d, hc, hd, hn⟩]
    exact h

/-- The lost expiry acts on a carriage that is not UNSEEN and not EXCLUDED, so what it leaves in LOST keeps the laws,
though the flag of R16 comes before the run state. -/
theorem takeLost {s : State} (h : s.Steady) (k : Nat) : (takeLost s k).Steady := by
  by_cases hi : ∃ c d, s.carriage k = some c ∧ s.lostDeadline k = some d ∧ c.ctx.fresh = false ∧
      reached s.lineClock d = true
  · obtain ⟨c, d, hc, hd, hf, hx⟩ := hi
    obtain ⟨ht, hm, r, hr⟩ := reportDeadline_some hc hd
    have hs : (enterLost s k r).Steady := by
      refine of_legal (h.of_modify (State.modCarriage_carriages ..) fun e he hs => ?_) (enterLost_legal s k r)
      cases he.symm.trans hc
      have horigin : c.ctx.unseenOrigin.isSome = false := hs.origin_none fun hx => by
        have hx : c.ctx.runState = .unseen := hx
        simp [hx, RunState.tracked] at ht
      exact ⟨nofun, nofun, ⟨fun hx => (Bool.false_ne_true (horigin.symm.trans hx)).elim, nofun⟩,
        fun hx => absurd hx hm⟩
    rw [takeLost_due hc hr hd hf hx]
    split
    · exact hs
    · exact hs.haltNeighbours _
  · rw [takeLost_idle fun c d hc hd => by
      by_contra hn
      simp only [not_or, Bool.not_eq_false, Bool.not_eq_true] at hn
      exact hi ⟨c, d, hc, hd, hn⟩]
    exact h

end State.Steady
end Sys2Proof.Machine
end

section
/-! PROOFS. Every command keeps the laws of a carriage context: the Head Unit, the line reset, the requests, the frames of
both ports, the pins and time; with that, every step does. -/

namespace Sys2Proof.Machine

/-! The Head Unit: a load, an image or a module count is no part of what the laws speak of. -/

@[simp] theorem setLoad_legal (s : State) (k : Nat) (l : LoadRecord) : (setLoad s k l).legal = s.legal :=
  legal_of_modify (State.modCarriage_carriages ..) fun _ => rfl

@[simp] theorem emptyLoad_legal (s : State) (k : Nat) : (emptyLoad s k).legal = s.legal :=
  legal_of_modify (State.modCarriage_carriages ..) fun _ => rfl

@[simp] theorem setModules_legal (s : State) (k m : Nat) : (setModules s k m).legal = s.legal :=
  legal_of_modify (State.modCarriage_carriages ..) fun _ => rfl

@[simp] theorem handGrip_legal (s : State) (k : Nat) (j : Option (Nat × Nat)) (c : Cause) (d : Detail) :
    (handGrip s k j c d).legal = s.legal := hand_legal ..

theorem refuseGrip_legal (s : State) (k : Nat) (j : Option (Nat × Nat)) (c : Cause) :
    (refuseGrip s k j c).1.legal = s.legal := hand_legal ..

theorem forwardGrip_legal (s : State) (k : Nat) (form : GripForm) (f : Frame) (g : GripFields) (image : Cups)
    (effect : State → State) (he : ∀ u, (effect u).legal = u.legal) :
    (forwardGrip s k form f g image effect).1.legal = s.legal := by
  unfold forwardGrip
  split
  · rfl
  · rename_i t hp
    have hm : (t.modCarriage k fun c => { c with image := image }).legal = t.legal :=
      legal_of_modify (State.modCarriage_carriages ..) fun _ => rfl
    dsimp only
    split <;> simp [he, hm, placeDown_legal hp]

theorem judgePick_legal (s : State) (k : Nat) (c : Carriage) (h : HeadRecord) (x z : Nat) (form : GripForm) (f : Frame)
    (g : GripFields) (image : Cups) : (judgePick s k c h x z form f g image).1.legal = s.legal := by
  unfold judgePick
  split
  · exact refuseGrip_legal ..
  · split
    · exact refuseGrip_legal ..
    · dsimp only
      split
      · exact refuseGrip_legal ..
      · split
        · exact refuseGrip_legal ..
        · exact forwardGrip_legal _ _ _ _ _ _ _ fun u => by simp [beginLoad]

theorem judgeRelease_legal (s : State) (k : Nat) (h : HeadRecord) (l : LoadRecord) (x z : Nat) (form : GripForm)
    (f : Frame) (g : GripFields) (image : Cups) : (judgeRelease s k h l x z form f g image).1.legal = s.legal := by
  unfold judgeRelease
  split
  · exact refuseGrip_legal ..
  · split
    · exact forwardGrip_legal _ _ _ _ _ _ _ fun u => by simp [beginRelease]
    · split
      · split
        · exact refuseGrip_legal ..
        · exact forwardGrip_legal _ _ _ _ _ _ _ fun u => by simp [beginRelease]
      · exact refuseGrip_legal ..

theorem judgeGrip_legal (s : State) (k : Nat) (c : Carriage) (form : GripForm) (f : Frame) (g : GripFields) :
    (judgeGrip s k c form f g).1.legal = s.legal := by
  unfold judgeGrip
  dsimp only
  split
  · split
    · exact forwardGrip_legal _ _ _ _ _ _ _ fun _ => rfl
    · split
      · exact judgePick_legal ..
      · exact refuseGrip_legal ..
  · split
    · exact refuseGrip_legal ..
    · split
      · exact forwardGrip_legal _ _ _ _ _ _ _ fun u => by simp
      · split
        · exact judgeRelease_legal ..
        · exact refuseGrip_legal ..

theorem gripFrame_legal (s : State) (k : Nat) (form : GripForm) (f : Frame) :
    (gripFrame s k form f).1.legal = s.legal := by
  unfold gripFrame
  dsimp only
  split
  · exact refuseGrip_legal ..
  · split
    · exact refuseGrip_legal ..
    · split
      · exact refuseGrip_legal ..
      · split
        · exact refuseGrip_legal ..
        · split
          · exact refuseGrip_legal ..
          · exact judgeGrip_legal ..

@[simp] theorem decideThickness_legal (s : State) (k : Nat) (l : LoadRecord) (t : Thickness) :
    (decideThickness s k l t).legal = s.legal := by
  cases t <;> simp [decideThickness, handPick]

@[simp] theorem countReading_legal (s : State) (k : Nat) (h : HeadRecord) (l : LoadRecord) (r : Nat) :
    (countReading s k h l r).legal = s.legal := by
  unfold countReading
  split
  · rfl
  · split
    · rfl
    · dsimp only
      split <;> simp

@[simp] theorem confirmRelease_legal (s : State) (k : Nat) (l : LoadRecord) : (confirmRelease s k l).legal = s.legal := by
  unfold confirmRelease
  dsimp only
  split
  · split <;> simp [handPlace]
  · simp [handPlace]

@[simp] theorem takeGripDeadline_legal (s : State) (k : Nat) : (takeGripDeadline s k).legal = s.legal := by
  unfold takeGripDeadline
  split
  · rfl
  · split
    · split <;> simp
    · rfl

namespace State.Steady

theorem dropVacuum {s : State} (h : s.Steady) (k : Nat) (l : LoadRecord) : (dropVacuum s k l).Steady := by
  refine (h.haltCarriage k .vacuumDrop (some .vacuumDrop)).of_legal ?_
  unfold Machine.dropVacuum
  dsimp only
  split <;> split <;> simp

theorem readHead {s : State} (h : s.Steady) (k : Nat) (r : HeadReport) : (readHead s k r).Steady := by
  have hs := h.of_legal (setModules_legal s k r.modules)
  unfold Machine.readHead
  dsimp only
  split
  · split
    · split
      · exact hs.of_legal (setLoad_legal ..)
      · exact hs
    · split
      · exact hs.dropVacuum ..
      · exact hs.of_legal (countReading_legal ..)
    · split
      · exact hs.dropVacuum ..
      · exact hs
    · split
      · exact hs.dropVacuum ..
      · exact hs
    · split
      · exact hs.of_legal (confirmRelease_legal ..)
      · exact hs
  · exact hs

theorem takeReleaseDeadline {s : State} (h : s.Steady) (k : Nat) : (takeReleaseDeadline s k).Steady := by
  unfold Machine.takeReleaseDeadline
  split
  · exact h
  · split
    · split
      · exact (h.haltCarriage ..).of_legal (setLoad_legal ..)
      · exact h
    · exact h

end State.Steady

/-! Line reset (R7). -/

theorem enterResetStops_legal (s : State) (k : Nat) : (enterResetStops s k).legal = s.legal := by
  have h (u : State) (r : Role) : (enterResetStop u r).legal = u.legal := by
    unfold enterResetStop
    split <;> simp
  unfold enterResetStops
  split <;> simp [h]

theorem resetPort_legal (s : State) : (resetPort s).legal = s.legal := by
  unfold resetPort
  exact foldl_keeps State.legal enterResetStops enterResetStops_legal _ _

/-- A carriage at a line reset keeps the laws, whatever it was: EXCLUDED it is HALTED, otherwise UNSEEN. -/
theorem resetCarriage_steady (s : State) (k : Nat) (c : Carriage) : (resetCarriage s k c).legal.Steady := by
  by_cases hm : c.ctx.membership = .excluded
  · have hc : c.ctx.lineReset.runState = .halted ∧ c.ctx.lineReset.unseenOrigin = none := by
      simp [Context.lineReset, Context.emptySet, hm]
    refine ⟨fun hx => ?_, nofun, ?_, fun _ => hc.1⟩
    · exact absurd (hc.1.symm.trans hx) (by decide)
    · simp [resetCarriage, hc]
  · have hc : c.ctx.lineReset.runState = .unseen ∧ c.ctx.lineReset.unseenOrigin = some .lineReset ∧
        c.ctx.lineReset.membership = c.ctx.membership := by
      simp [Context.lineReset, Context.emptySet, hm]
    refine ⟨fun hx => ?_, nofun, ?_, fun hx => absurd (hc.2.2.symm.trans hx) hm⟩
    · exact absurd (hc.1.symm.trans hx) (by decide)
    · simp [resetCarriage, hc]

theorem State.Steady.lineReset {s : State} (h : s.Steady) (source : Cause) : (lineReset s source).Steady := by
  have hl : (resetPort s).carriages.length ≤ 4 := by simpa [State.legal, resetPort_legal] using (h.of_legal (resetPort_legal s)).few
  refine State.Steady.of_legal (s := resetCarriages (resetPort s)) ⟨?_, fun l hm => ?_⟩ ?_
  · simpa [resetCarriages, State.legal] using hl
  · obtain ⟨c, hc, rfl⟩ := List.mem_map.mp hm
    obtain ⟨i, hi, rfl⟩ := List.mem_mapIdx.mp hc
    exact resetCarriage_steady ..
  · rw [Machine.lineReset, testFences_legal, hand_legal]
    rfl

/-! Commands (R163). -/

@[simp] theorem setFence_legal (s : State) (i : Nat) (f : Fence) (st : FenceState) :
    (setFence s i f st).legal = s.legal := (hand_legal ..).trans (withFences_legal ..)

/-- What a new membership makes of a carriage, with the virtual position it brings (R26 to R28, R67). -/
def Carriage.joined (m : Membership) (c : Carriage) : Carriage :=
  { c with
    ctx := { c.ctx with membership := m }
    virtualX := if m = .shadow then c.ctx.lastX.map (·.position) else none }

@[simp] theorem setMembership_carriages (s : State) (k : Nat) (m : Membership) :
    (setMembership s k m).carriages = s.carriages.modify k (·.joined m) := handStateChange_carriages ..

namespace State.Steady

/-- An accepted request leaves the state that it was carried out in. -/
theorem accept {s : State} (h : s.Steady) : (accept s).after.Steady := h

theorem commandHalt {s : State} (h : s.Steady) (k : Nat) : (commandHalt s k).after.Steady := by
  unfold Machine.commandHalt
  split
  · exact h
  · exact (h.haltCarriage ..).accept
  · exact (h.of_legal (requestStops_legal ..)).accept
  · exact h
  · exact h
  · exact h

/-- A carriage that RESUME accepts has no fault flag (R24). -/
theorem commandResume {s : State} (h : s.Steady) (k : Nat) : (commandResume s k).after.Steady := by
  unfold Machine.commandResume
  split
  · exact h
  · rename_i c hc
    split
    · exact h
    · rename_i hh
      split
      · rename_i hx
        split
        · refine of_legal (s := s.modContext k fun x => { x with runState := .active }) ?_ (handStateChange_legal ..)
          refine h.of_modify (State.modCarriage_carriages ..) fun d hd hs => ?_
          cases hd.symm.trans hc
          simp only [Bool.and_eq_true, Context.sound, Bool.not_eq_true', beq_iff_eq] at hx
          have hslot : c.slot.isSome = false := hs.slot_none (by simp [hh])
          have horigin : c.ctx.unseenOrigin.isSome = false := hs.origin_none (by simp [hh])
          exact ⟨fun _ => hx.1.1.1.1.2, fun hy => (Bool.false_ne_true (hslot.symm.trans hy)).elim,
            ⟨fun hy => (Bool.false_ne_true (horigin.symm.trans hy)).elim, nofun⟩,
            fun hy => absurd (hx.2.symm.trans hy) (by decide)⟩
        · exact h
      · exact h
    · exact h
    · exact h
    · exact h

/-- A membership set on a carriage that holds no move, EXCLUDED only where it is HALTED. -/
theorem setMembership {s : State} (h : s.Steady) {k : Nat} {m : Membership}
    (hk : ∀ c, s.carriage k = some c → c.slot = none ∧ (m = .excluded → c.ctx.runState = .halted)) :
    (setMembership s k m).Steady := by
  refine h.of_modify (setMembership_carriages ..) fun c hc hs => ?_
  obtain ⟨hslot, hx⟩ := hk c hc
  exact ⟨hs.unflagged, fun hy => by simp [Carriage.joined, hslot] at hy, hs.origin, fun hy => hx hy⟩

theorem membershipWorking {s : State} (h : s.Steady) {k : Nat} {c : Carriage} (hc : s.carriage k = some c)
    {m : Membership} (hm : m ≠ .excluded) : (membershipWorking s k c m).after.Steady := by
  unfold Machine.membershipWorking
  split
  · exact h
  · split
    · exact h
    · rename_i hx
      have hs : (Machine.setMembership s k m).Steady := by
        refine h.setMembership fun d hd => ⟨?_, fun hy => absurd hy hm⟩
        cases hd.symm.trans hc
        have : c.ctx.runState = .halted := by
          simp only [Bool.not_eq_true, Bool.not_eq_false', Bool.and_eq_true, beq_iff_eq] at hx
          exact hx.1
        have hslot : c.slot.isSome = false := (h.at hc).slot_none (by simp [this])
        simpa using hslot
      split
      · split
        · exact h
        · split
          · exact hs
          · exact h
      · exact hs

theorem membershipExcluded {s : State} (h : s.Steady) {k : Nat} {c : Carriage} (hc : s.carriage k = some c) :
    (membershipExcluded s k c).after.Steady := by
  unfold Machine.membershipExcluded
  split
  · split
    · exact h
    · rename_i hx
      split
      · exact h
      · have hr : c.ctx.runState = .halted := by
          simp only [Bool.or_eq_true, decide_eq_true_eq, not_or, not_not] at hx
          exact hx.1
        have hs : (Machine.setMembership s k .excluded).Steady := by
          refine h.setMembership fun d hd => ?_
          cases hd.symm.trans hc
          have hslot : c.slot.isSome = false := (h.at hc).slot_none (by simp [hr])
          exact ⟨by simpa using hslot, fun _ => hr⟩
        exact hs.of_legal ((setReservation_legal ..).trans (modContext_legal (fun _ => rfl) _))
  · exact h

theorem membershipIsolated {s : State} (h : s.Steady) {k : Nat} {c : Carriage} (hc : s.carriage k = some c) :
    (membershipIsolated s k c).Steady := by
  unfold Machine.membershipIsolated
  split
  · rename_i hx
    have hr : c.ctx.runState = .halted := (h.at hc).shut hx
    have hslot : c.slot.isSome = false := (h.at hc).slot_none (by simp [hr])
    refine of_legal (of_legal (s := _) ?_ (handStateChange_legal ..)) (setReservation_legal ..)
    have hs : (Machine.setMembership s k .isolated).Steady := h.setMembership fun d hd => by
      cases hd.symm.trans hc
      exact ⟨by simpa using hslot, nofun⟩
    refine hs.of_modify (State.modCarriage_carriages ..) fun d hd _ => ?_
    have hd' : d.slot = none ∧ d.ctx.membership = .isolated := by
      rw [State.carriage_modify_self (setMembership_carriages ..), hc] at hd
      cases hd
      exact ⟨by simpa [Carriage.joined] using hslot, rfl⟩
    exact ⟨nofun, fun hy => by simp [hd'.1] at hy, ⟨fun _ => rfl, fun _ => rfl⟩,
      fun hy => absurd (hd'.2.symm.trans hy) (by decide)⟩
  · have hs : (Machine.setMembership (Machine.endHeld s k .notNormal .absent) k .isolated).Steady := by
      refine (h.endHeld ..).setMembership fun d hd => ⟨?_, nofun⟩
      rw [State.carriage_modify_self (endHeld_carriages ..), hc] at hd
      cases hd
      rfl
    dsimp only
    split
    · exact hs.haltCarriage ..
    · exact hs

theorem commandMembership {s : State} (h : s.Steady) (k : Nat) (m : Membership) : (commandMembership s k m).after.Steady := by
  unfold Machine.commandMembership
  split
  · exact h
  · rename_i c hc
    split
    · exact h
    · split
      · exact h.membershipWorking hc (by simp)
      · exact h.membershipWorking hc (by simp)
      · exact h.membershipIsolated hc
      · exact h.membershipExcluded hc

theorem commandClearFaults {s : State} (h : s.Steady) (k : Nat) : (commandClearFaults s k).after.Steady := by
  unfold Machine.commandClearFaults
  split
  · exact h
  · split
    · exact h
    · exact h.of_modify (State.modCarriage_carriages ..) fun c _ hs => ⟨fun _ => rfl, hs.holds, hs.origin, hs.shut⟩

theorem commandFenceOn {s : State} (h : s.Steady) (i : Nat) : (commandFenceOn s i).after.Steady := by
  unfold Machine.commandFenceOn
  split
  · exact h
  · split
    · exact h.of_legal (setFence_legal ..)
    · exact h
    · exact h

theorem commandFenceOff {s : State} (h : s.Steady) (i : Nat) : (commandFenceOff s i).after.Steady := by
  unfold Machine.commandFenceOff
  split
  · exact h
  · split
    · exact h
    · exact h.of_legal (setFence_legal ..)
    · exact h.of_legal (setFence_legal ..)

end State.Steady

/-- Both of two answers keep the laws, so a choice of them does. -/
theorem ite_steady {c : Prop} [Decidable c] {a b : Answer} (ha : a.after.Steady) (hb : b.after.Steady) :
    (if c then a else b).after.Steady := by
  split <;> assumption

namespace State.Steady

theorem commandBayRestock {s : State} (h : s.Steady) (b : Nat) : (commandBayRestock s b).after.Steady := by
  unfold Machine.commandBayRestock
  split
  · exact h
  · exact ite_steady h (h.of_legal (modBay_legal ..))

theorem commandRetire {s : State} (h : s.Steady) (j q : Nat) : (commandRetire s j q).after.Steady := by
  unfold Machine.commandRetire
  split
  · exact h
  · split
    · exact h
    · exact ite_steady h (h.of_legal (removeEntry_legal ..))

theorem commandRequeue {s : State} (h : s.Steady) (j q : Nat) : (commandRequeue s j q).after.Steady := by
  unfold Machine.commandRequeue
  split
  · exact h
  · split
    · exact h
    · exact ite_steady (h.of_legal (modEntry_legal ..)) h

theorem indexed {s : State} (h : s.Steady) (bound size : Nat) (ops : List Byte) {owner : Nat → Answer}
    (ho : ∀ k, (owner k).after.Steady) : (indexed s bound size ops owner).after.Steady :=
  ite_steady h (ite_steady h (ho _))

theorem decodeMembership {s : State} (h : s.Steady) (ops : List Byte) : (decodeMembership s ops).after.Steady := by
  refine h.indexed _ _ _ fun k => ?_
  split
  · exact h
  · exact h.commandMembership ..

theorem issueCommand {s : State} (h : s.Steady) (code : Nat) (ops : List Byte) : (issueCommand s code ops).after.Steady :=
  ite_steady (h.decodeMembership ops) <| ite_steady (h.indexed _ _ _ h.commandHalt) <|
    ite_steady (h.indexed _ _ _ h.commandResume) <| ite_steady (h.indexed _ _ _ h.commandClearFaults) <|
    ite_steady (h.indexed _ _ _ h.commandFenceOn) <| ite_steady (h.indexed _ _ _ h.commandFenceOff) <|
    ite_steady (h.indexed _ _ _ h.commandBayRestock) <| ite_steady (h.indexed _ _ _ fun j => h.commandRetire j _) <|
    ite_steady (h.indexed _ _ _ fun j => h.commandRequeue j _) <|
    ite_steady (ite_steady h (h.lineReset .command).accept) h

/-! Table writes (R157). -/

theorem setRole {s : State} (h : s.Steady) (a : Nat) (e : Option Role) : (setRole s a e).Steady := by
  unfold Machine.setRole
  dsimp only
  split <;> exact h.of_legal rfl

theorem recompute {s : State} (h : s.Steady) (k : Nat) : (recompute s k).Steady := by
  unfold Machine.recompute
  split
  · exact h
  · split
    · exact h
    · exact (h.of_legal (setReservation_legal ..)).haltNeighbours _

/-- The carriages that a RAIL write leaves, at most four, are those that stood or newly installed ones, which are UNSEEN. -/
theorem applyRail {s : State} (h : s.Steady) (r : RailRecord) (hn : r.n ≤ 4) : (applyRail s r).Steady := by
  have hs : ({ s with rail := some r, carriages := resizeCarriages s.carriages r.n } : State).Steady := by
    refine ⟨?_, fun l hl => ?_⟩
    · simp [State.legal, resizeCarriages]
      omega
    · obtain ⟨c, hc, rfl⟩ := List.mem_map.mp hl
      rcases List.mem_append.mp hc with hc | hc
      · exact h.each _ (List.mem_map_of_mem (List.mem_of_mem_take hc))
      · rw [(List.mem_replicate.mp hc).2]
        exact ⟨nofun, nofun, ⟨fun _ => rfl, fun _ => rfl⟩, nofun⟩
  unfold Machine.applyRail
  refine of_legal ?_ (testFences_legal _)
  split
  · exact hs
  · exact foldl (fun _ k hx => hx.recompute k) _ hs

theorem writeNodeMap {s : State} (h : s.Steady) (i : Nat) (b : List Byte) : (writeNodeMap s i b).after.Steady := by
  refine ite_steady h (ite_steady h ?_)
  split
  · exact h
  · exact ite_steady h (ite_steady h (h.setRole ..))

theorem writeRail {s : State} (h : s.Steady) (i : Nat) (b : List Byte) : (writeRail s i b).after.Steady := by
  refine ite_steady h (ite_steady h ?_)
  dsimp only
  split
  · exact h
  · rename_i hr
    refine ite_steady h (ite_steady h (h.applyRail _ ?_).accept)
    simp only [RailRecord.inRange, Bool.or_eq_true, Bool.not_eq_true', Bool.and_eq_true, decide_eq_true_eq, not_or,
      Bool.not_eq_false] at hr
    omega

theorem writeCarriage {s : State} (h : s.Steady) (i : Nat) (b : List Byte) : (writeCarriage s i b).after.Steady := by
  refine ite_steady h (ite_steady h ?_)
  split
  · exact h
  · refine ite_steady h ?_
    have hs (r : CarriageRecord) : (setRecord s i r).Steady := h.of_legal rfl
    split
    · exact hs _
    · refine ite_steady h (ite_steady h ?_)
      unfold afterRecord
      show State.Steady (if _ then _ else _)
      split
      · exact (hs _).of_legal (modContext_legal (fun _ => rfl) _)
      · split
        · exact hs _
        · exact (hs _).recompute _

theorem writeSaw {s : State} (h : s.Steady) (i : Nat) (b : List Byte) : (writeSaw s i b).after.Steady := by
  unfold Machine.writeSaw
  split
  · exact h
  · exact ite_steady h (ite_steady h (ite_steady h (h.of_legal rfl)))

theorem writeBay {s : State} (h : s.Steady) (i : Nat) (b : List Byte) : (writeBay s i b).after.Steady := by
  unfold Machine.writeBay
  split
  · exact h
  · refine ite_steady h ?_
    split
    · exact h
    · exact ite_steady h (ite_steady h (h.of_legal rfl))

theorem writeQueue {s : State} (h : s.Steady) (i : Nat) (b : List Byte) : (writeQueue s i b).after.Steady := by
  unfold Machine.writeQueue
  split
  · exact h
  · exact ite_steady h (ite_steady h (ite_steady h (ite_steady h (h.of_legal rfl))))

theorem writeFence {s : State} (h : s.Steady) (i : Nat) (b : List Byte) : (writeFence s i b).after.Steady := by
  unfold Machine.writeFence
  split
  · exact h
  · exact ite_steady h (ite_steady h (ite_steady h (h.of_legal rfl)))

theorem writeLamp {s : State} (h : s.Steady) (i : Nat) (b : List Byte) : (writeLamp s i b).after.Steady := by
  refine ite_steady h (ite_steady h ?_)
  split
  · exact h.of_legal rfl
  · exact h

theorem writeTable {s : State} (h : s.Steady) (table i : Nat) (b : List Byte) : (writeTable s table i b).after.Steady :=
  ite_steady (h.writeNodeMap ..) <| ite_steady (h.writeRail ..) <| ite_steady (h.writeCarriage ..) <|
    ite_steady (ite_steady h (ite_steady h (ite_steady h (ite_steady h (h.of_legal rfl))))) <|
    ite_steady (ite_steady h (ite_steady h (ite_steady h (ite_steady h (h.of_legal rfl))))) <|
    ite_steady (h.writeSaw ..) <| ite_steady (h.writeBay ..) <| ite_steady (h.writeQueue ..) <|
    ite_steady (h.writeFence ..) <| ite_steady (h.writeLamp ..) h

/-! Reads (R158 to R162), of which only those of PART_STATUS and COUNTERS change anything. -/

theorem readRecord {s : State} (h : s.Steady) (r : Option (List Byte)) (ops : List Byte) :
    (readRecord s r ops).after.Steady := by
  unfold Machine.readRecord
  split
  · exact h
  · exact ite_steady h h

theorem readQueue {s : State} (h : s.Steady) (i : Nat) (ops : List Byte) : (readQueue s i ops).after.Steady := by
  unfold Machine.readQueue
  split
  · exact h
  · refine ite_steady h (ite_steady h (ite_steady h ?_))
    split <;> exact h

theorem readCarriageStatus {s : State} (h : s.Steady) (i : Nat) (ops : List Byte) :
    (readCarriageStatus s i ops).after.Steady := by
  unfold Machine.readCarriageStatus
  split
  · exact h
  · exact ite_steady h (ite_steady h h)

theorem readPartStatus {s : State} (h : s.Steady) (i : Nat) (ops : List Byte) : (readPartStatus s i ops).after.Steady :=
  ite_steady h (ite_steady h (h.of_legal rfl))

end State.Steady

/-- The counters of a group, written back, are no part of what the laws speak of. -/
theorem counterGroup_legal {s : State} {g i : Nat} {all : List Nat} {wb : List Nat → State}
    (h : counterGroup s g i = some (all, wb)) (l : List Nat) : (wb l).legal = s.legal := by
  unfold counterGroup at h
  split at h
  · split at h
    · cases h
      rfl
    · cases h
  · split at h
    · split at h
      · cases h
        rfl
      · cases h
    · split at h
      · obtain ⟨c, -, hc⟩ := Option.map_eq_some_iff.mp h
        cases hc
        exact countFor_legal ..
      · obtain ⟨c, -, hc⟩ := Option.map_eq_some_iff.mp h
        cases hc
        rfl

namespace State.Steady

theorem readCounters {s : State} (h : s.Steady) (i : Nat) (ops : List Byte) : (readCounters s i ops).after.Steady := by
  unfold Machine.readCounters
  split
  · exact h
  · split
    · exact h
    · rename_i hg
      split
      · exact h
      · split
        · dsimp only
          split
          · exact h.of_legal (counterGroup_legal hg _)
          · exact h
        · exact h

theorem readTable {s : State} (h : s.Steady) (table i : Nat) (ops : List Byte) : (readTable s table i ops).after.Steady :=
  ite_steady (h.readRecord ..) <| ite_steady (h.readRecord ..) <| ite_steady (h.readRecord ..) <|
    ite_steady (h.readRecord ..) <| ite_steady (h.readRecord ..) <| ite_steady (h.readRecord ..) <|
    ite_steady (h.readRecord ..) <| ite_steady (h.readQueue ..) <| ite_steady (h.readRecord ..) <|
    ite_steady (h.readRecord ..) <| ite_steady (h.readCarriageStatus ..) <| ite_steady (h.readRecord ..) <|
    ite_steady (h.readPartStatus ..) <| ite_steady (h.readCounters ..) h

/-! Requests taken (R154). -/

theorem carryOut {s : State} (h : s.Steady) (f : Frame) : (carryOut s f).after.Steady := by
  unfold Machine.carryOut
  split
  · split
    · exact h.issueCommand ..
    · exact h
  · split
    · split
      · exact h.writeTable ..
      · exact h.readTable ..
    · exact h
    · exact h

theorem takeRequest {s : State} (h : s.Steady) : (takeRequest s).Steady := by
  unfold Machine.takeRequest
  split
  · exact h
  · exact of_legal (State.Steady.carryOut (h.of_legal (withManagement_legal ..)) _).finish rfl

theorem takeRequests {s : State} (h : s.Steady) (n : Nat) : (takeRequests n s).Steady := by
  induction n generalizing s with
  | zero => exact h
  | succ n ih =>
    unfold Machine.takeRequests
    split
    · exact h
    · exact ih h.takeRequest

theorem serveRequests {s : State} (h : s.Steady) : (serveRequests s).Steady := h.takeRequests _

/-! Port U (R144). -/

theorem passDown {s : State} (h : s.Steady) (f : Frame) : (passDown s f).1.Steady := by
  unfold Machine.passDown
  split
  · exact h
  · rename_i hp
    exact h.of_legal (placeDown_legal hp)

theorem acceptRequest {s : State} (h : s.Steady) (f : Frame) : (acceptRequest s f).1.Steady := by
  unfold Machine.acceptRequest
  extract_lets allowed
  by_cases ha : (!allowed) = true
  · rwa [if_pos ha]
  · rw [if_neg ha]
    split
    · exact h.of_legal (withManagement_legal ..)
    · exact h

theorem takeStop {s : State} (h : s.Steady) (k : Nat) (a : Axis) (f : Frame) : (takeStop s k a f).Steady := by
  have hl : (enterControllerStop s f.dst.toNat f).legal = s.legal := by
    unfold enterControllerStop
    split <;> rfl
  exact ((h.of_legal ((clearActive_legal ..).trans hl)).endHeld ..).of_legal (withdrawMoves_legal ..)

theorem routeMove {s : State} (h : s.Steady) (f : Frame) : (routeMove s f).1.Steady := by
  unfold Machine.routeMove
  split
  · exact h
  · split
    · exact h.passDown f
    · exact h.admitMove ..
    · exact h.admitMove ..
    · exact h
    · exact h
    · exact h

theorem routeGrip {s : State} (h : s.Steady) (form : GripForm) (f : Frame) : (routeGrip s form f).1.Steady := by
  unfold Machine.routeGrip
  split
  · exact h
  · split
    · exact h.passDown f
    · exact h.of_legal (gripFrame_legal ..)
    · exact h
    · exact h
    · exact h
    · exact h

theorem routeStop {s : State} (h : s.Steady) (f : Frame) : (routeStop s f).1.Steady := by
  unfold Machine.routeStop
  split
  · exact h.takeStop ..
  · exact h.takeStop ..
  · exact h.passDown f
  · exact h.passDown f
  · exact h.passDown f
  · exact h.passDown f

theorem routeU {s : State} (h : s.Steady) (f : Frame) : (routeU s f).1.Steady := by
  unfold Machine.routeU
  split
  · split
    · exact h.acceptRequest f
    · exact h
  · split
    · exact h.routeMove f
    · split
      · exact h.routeGrip ..
      · split
        · exact h.routeStop f
        · exact h.passDown f

/-! Port D (R146). -/

theorem readReport {s : State} (h : s.Steady) (f : Frame) : (readReport s f).Steady := by
  unfold Machine.readReport
  split
  · unfold readStateFrame
    split
    · exact h.readState ..
    · exact h.readState ..
    · exact h
  · split
    · unfold readSenseHead
      split
      · split
        · exact h
        · exact (h.readHeadArrival _).readHead ..
      · exact h
    · split
      · unfold readSenseSaw
        split
        · exact h.of_legal rfl
        · exact h
      · exact h

theorem passUp {s : State} (h : s.Steady) (f : Frame) : (passUp s f).1.Steady := by
  unfold Machine.passUp
  split
  · exact h.of_legal (withPort_legal ..)
  · exact h

theorem routeD {s : State} (h : s.Steady) (f : Frame) : (routeD s f).1.Steady := by
  unfold Machine.routeD
  split
  · exact h
  · exact (h.readReport f).passUp f

/-! Reception and transmission. -/

theorem setReceiver {s : State} (h : s.Steady) (p : Port) (r : Receiver) : (setReceiver s p r).Steady := by
  cases p <;> exact h.of_legal rfl

theorem countAt {s : State} (h : s.Steady) (p : Port) (f : PortCounters → PortCounters) : (countAt s p f).Steady := by
  cases p <;> exact h.of_legal rfl

theorem routeAndCount {s : State} (h : s.Steady) (p : Port) (f : Frame) : (routeAndCount s p f).Steady := by
  cases p with
  | u => exact (h.routeU f).countAt .u (·.addRouting (Machine.routeU s f).2)
  | d => exact (h.routeD f).countAt .d (·.addRouting (Machine.routeD s f).2)

theorem receiveU {s : State} (h : s.Steady) (f : Frame) : (receiveU s f).Steady := by
  have hs := h.setReceiver .u .between
  unfold Machine.receiveU
  dsimp only
  split
  · exact hs.countAt ..
  · unfold goodU
    dsimp only
    split
    · exact (hs.routeAndCount ..).serveRequests
    · exact hs.routeAndCount ..

/-- A request is a frame that arrives at port U. -/
theorem request {s : State} (h : s.Steady) (kind src seq : Byte) (payload : List Byte) :
    (request s kind src seq payload).Steady := h.receiveU _

theorem receiveD {s : State} (h : s.Steady) (f : Frame) : (receiveD s f).Steady := by
  have hs := h.setReceiver .d .between
  unfold Machine.receiveD
  dsimp only
  split
  · exact hs.countAt ..
  · exact hs.routeAndCount ..

theorem endFrame {s : State} (h : s.Steady) (p : Port) (bytes : List Byte) : (endFrame s p bytes).Steady := by
  have hs := h.setReceiver p .between
  unfold Machine.endFrame
  split
  · exact hs.countAt ..
  · exact hs.countAt ..
  · exact hs.countAt ..
  · cases p with
    | u => exact h.receiveU _
    | d => exact h.receiveD _

theorem endStray {s : State} (h : s.Steady) (p : Port) (e : StrayEnd) : (endStray s p e).Steady := by
  unfold Machine.endStray
  split
  · exact h
  · cases e with
    | gap => exact h.countAt ..
    | marker => exact (h.countAt ..).setReceiver ..

theorem startStop {s : State} (h : s.Steady) : (startStop s).Steady := by
  unfold Machine.startStop
  split
  · exact h.of_legal (withPort_legal ..)
  · exact h

theorem startDown {s : State} (h : s.Steady) : (startDown s).Steady := by
  unfold Machine.startDown
  split
  · exact h.of_legal ((reportRoom_legal _).trans (withPort_legal ..))
  · exact h

theorem endTransmission {s : State} (h : s.Steady) (p : Port) : (endTransmission s p).Steady := by
  unfold Machine.endTransmission
  split
  · exact h
  · have hs : (Machine.countAt (setTransmitter s p .free) p (·.addSent)).Steady := by
      cases p <;> exact h.of_legal rfl
    dsimp only
    split
    · exact hs.of_legal (withPort_legal ..)
    · exact hs

theorem startUp {s : State} (h : s.Steady) : (startUp s).Steady := by
  unfold Machine.startUp
  split
  · exact h.of_legal (withPort_legal ..)
  · exact h

theorem startReply {s : State} (h : s.Steady) : (startReply s).Steady := by
  unfold Machine.startReply
  split
  · exact State.Steady.serveRequests (h.of_legal rfl)
  · exact h

theorem startNotice {s : State} (h : s.Steady) : (startNotice s).Steady := by
  unfold Machine.startNotice
  split
  · exact h.of_legal rfl
  · exact h

/-! Pins and time. -/

theorem setLrst {s : State} (h : s.Steady) (high : Bool) : (setLrst s high).Steady := h.of_legal (withInputs_legal ..)

theorem assertEstop {s : State} (h : s.Steady) : (assertEstop s).Steady := by
  refine foldl (fun t k ht => ?_) _ (h.of_legal ((hand_legal ..).trans (withInputs_legal ..)))
  unfold emergencyStop
  split
  · exact ht.haltCarriage ..
  · exact ht.of_legal (requestStops_legal ..)
  · exact ht

theorem releaseEstop {s : State} (h : s.Steady) : (releaseEstop s).Steady :=
  h.of_legal ((hand_legal ..).trans (withInputs_legal ..))

theorem forgetArrival {s : State} (h : s.Steady) (r : Role) : (forgetArrival s r).Steady := by
  cases r with
  | saw j => exact h.of_legal rfl
  | controller => exact h
  | xDrive k => exact h.of_legal (modContext_legal (fun _ => rfl) s)
  | zDrive k => exact h.of_legal (modContext_legal (fun _ => rfl) s)
  | head k => exact h.of_legal (modContext_legal (fun _ => rfl) s)

theorem passPoint {s : State} (h : s.Steady) (b : Blink) : (passPoint s b).Steady := by
  cases b <;> exact h.of_legal (withLamps_legal ..)

theorem takeRoomReport {s : State} (h : s.Steady) : (takeRoomReport s).Steady := by
  unfold Machine.takeRoomReport
  split
  · exact h.of_legal rfl
  · exact h

/-- A choice between an effect and none. -/
theorem ite {s t : State} (h : s.Steady) (ht : t.Steady) {c : Prop} [Decidable c] : (if c then t else s).Steady := by
  split <;> assumption

end State.Steady

/-! The effect of a command (Dispatch). -/

/-- The effect of a command that the part takes while RESET_N is high; the two commands of RESET_N itself, which are taken
whatever its level, have none. -/
def effectOf (i : Instr) (s : State) : State :=
  match i with
  | .powerOnReset _ _ _ => s
  | .resetNLow => s
  | .lrstNAssertion => if s.inputs.lrstN.falls then lineReset (setLrst s false) .lrstN else s
  | .lrstNRise => if s.inputs.lrstN.rises then setLrst s true else s
  | .estopAssertion => if s.inputs.estopN.falls then assertEstop s else s
  | .estopRelease => if s.inputs.estopN.rises then releaseEstop s else s
  | .strayRun p ending => endStray s p ending
  | .startMarker p => setReceiver s p .inFrame
  | .frameDropped p collected => endFrame s p collected
  | .move dst src seq payload => receiveU s ⟨dst, src, Kind.move, seq, payload⟩
  | .grip form dst src seq payload => receiveU s ⟨dst, src, Kind.grip form, seq, payload⟩
  | .stop dst src seq payload => receiveU s ⟨dst, src, Kind.stop, seq, payload⟩
  | .param kind dst src seq payload => receiveU s ⟨dst, src, kind, seq, payload⟩
  | .mgRequest kind dst src seq payload => receiveU s ⟨dst, src, Kind.request kind, seq, payload⟩
  | .state dst src seq payload => receiveD s ⟨dst, src, Kind.state, seq, payload⟩
  | .senseHead dst src seq payload => receiveD s ⟨dst, src, Kind.senseHead, seq, payload⟩
  | .senseSaw dst src seq payload => receiveD s ⟨dst, src, Kind.senseSaw, seq, payload⟩
  | .upstreamForward kind dst src seq payload => receiveD s ⟨dst, src, kind, seq, payload⟩
  | .staleExpiry k => takeStale s k
  | .lostExpiry k => takeLost s k
  | .holdTimeout k => if s.holdDue k then endHeld s k .holdTimeout .absent else s
  | .gripDeadline k => takeGripDeadline s k
  | .releaseDeadline k => takeReleaseDeadline s k
  | .arrivalTimeAbsent role => if s.arrivalOld role then forgetArrival s role else s
  | .waitingForRoom => takeRoomReport s
  | .stopSend => startStop s
  | .dForwardSend => startDown s
  | .frameSent p => endTransmission s p
  | .uForwardSend => startUp s
  | .mgReply => startReply s
  | .notice => startNotice s
  | .blinkPeriod b => if s.lamps.points b < s.lamps.pointsDue b then passPoint s b else s
  | .setMembership src seq carriage membership => request s Kind.mgCommand src seq [0x01, carriage, membership]
  | .halt src seq carriage => request s Kind.mgCommand src seq [0x02, carriage]
  | .resume src seq carriage => request s Kind.mgCommand src seq [0x03, carriage]
  | .clearFaults src seq carriage => request s Kind.mgCommand src seq [0x04, carriage]
  | .fenceOn src seq fence => request s Kind.mgCommand src seq [0x05, fence]
  | .fenceOff src seq fence => request s Kind.mgCommand src seq [0x06, fence]
  | .bayRestock src seq bay => request s Kind.mgCommand src seq [0x07, bay]
  | .retire src seq saw sequence => request s Kind.mgCommand src seq (0x08 :: saw :: leBytes 2 sequence.toNat)
  | .requeue src seq saw sequence => request s Kind.mgCommand src seq (0x09 :: saw :: leBytes 2 sequence.toNat)
  | .lineReset src seq => request s Kind.mgCommand src seq [0x0A]
  | .nodeMapWrite src seq index record => request s Kind.mgWrite src seq (0x01 :: index :: record)
  | .railWrite src seq index record => request s Kind.mgWrite src seq (0x02 :: index :: record)
  | .carriageWrite src seq index record => request s Kind.mgWrite src seq (0x03 :: index :: record)
  | .headWrite src seq index record => request s Kind.mgWrite src seq (0x04 :: index :: record)
  | .cupLayoutWrite src seq index record => request s Kind.mgWrite src seq (0x05 :: index :: record)
  | .sawWrite src seq index record => request s Kind.mgWrite src seq (0x06 :: index :: record)
  | .bayWrite src seq index record => request s Kind.mgWrite src seq (0x07 :: index :: record)
  | .queueWrite src seq index record => request s Kind.mgWrite src seq (0x08 :: index :: record)
  | .fenceWrite src seq index record => request s Kind.mgWrite src seq (0x09 :: index :: record)
  | .lampWrite src seq index record => request s Kind.mgWrite src seq (0x0A :: index :: record)
  | .partStatusRead src seq index => request s Kind.mgRead src seq [0x22, index]
  | .countersRead src seq index group item clear => request s Kind.mgRead src seq [0x23, index, group, item, clear]

/-- Every command but those of RESET_N is carried out as its effect, with the reports that it makes. -/
theorem exec_eq_live (i : Instr) (s : State) (hp : ∀ a b c, i ≠ .powerOnReset a b c) (hr : i ≠ .resetNLow) :
    exec i s = live s (effectOf i) := by
  cases i with
  | powerOnReset a b c => exact absurd rfl (hp a b c)
  | resetNLow => exact absurd rfl hr
  | _ => rfl

namespace State.Steady

/-- The effect of every command keeps the laws. -/
theorem effectOf {s : State} (h : s.Steady) (i : Instr) : (Machine.effectOf i s).Steady := by
  cases i with
  | powerOnReset a b c => exact h
  | resetNLow => exact h
  | lrstNAssertion => exact h.ite ((h.setLrst false).lineReset .lrstN)
  | lrstNRise => exact h.ite (h.setLrst true)
  | estopAssertion => exact h.ite h.assertEstop
  | estopRelease => exact h.ite h.releaseEstop
  | strayRun p ending => exact h.endStray p ending
  | startMarker p => exact h.setReceiver p .inFrame
  | frameDropped p collected => exact h.endFrame p collected
  | state dst src seq payload => exact h.receiveD _
  | senseHead dst src seq payload => exact h.receiveD _
  | senseSaw dst src seq payload => exact h.receiveD _
  | upstreamForward kind dst src seq payload => exact h.receiveD _
  | staleExpiry k => exact h.takeStale k
  | lostExpiry k => exact h.takeLost k
  | holdTimeout k => exact h.ite (h.endHeld ..)
  | gripDeadline k => exact h.of_legal (takeGripDeadline_legal ..)
  | releaseDeadline k => exact h.takeReleaseDeadline k
  | arrivalTimeAbsent role => exact h.ite (h.forgetArrival role)
  | waitingForRoom => exact h.takeRoomReport
  | stopSend => exact h.startStop
  | dForwardSend => exact h.startDown
  | frameSent p => exact h.endTransmission p
  | uForwardSend => exact h.startUp
  | mgReply => exact h.startReply
  | notice => exact h.startNotice
  | blinkPeriod b => exact h.ite (h.passPoint b)
  | move dst src seq payload => exact h.receiveU _
  | grip form dst src seq payload => exact h.receiveU _
  | stop dst src seq payload => exact h.receiveU _
  | param kind dst src seq payload => exact h.receiveU _
  | mgRequest kind dst src seq payload => exact h.receiveU _
  | _ => exact h.request _ _ _ _

/-- Every command keeps the laws. -/
theorem exec {s t : State} (h : s.Steady) (i : Instr) (ht : exec i s = .next t) : t.Steady := by
  by_cases hp : ∃ a b c, i = .powerOnReset a b c
  · obtain ⟨a, b, c, rfl⟩ := hp
    cases ht
    exact ⟨by simp [State.legal, powerOn, State.reset], fun l hl => by simp [State.legal, powerOn, State.reset] at hl⟩
  · by_cases hr : i = .resetNLow
    · subst hr
      cases ht
      exact h.of_legal rfl
    · rw [exec_eq_live i s (fun a b c hx => hp ⟨a, b, c, hx⟩) hr, live] at ht
      split at ht
      · cases ht
        exact h
      · cases ht
        exact (h.effectOf i).finish

/-- Every step keeps the laws. -/
theorem step {s t : State} (h : s.Steady) (ht : step s = .next t) : t.Steady := by
  unfold Machine.step at ht
  split at ht
  · rename_i rest _
    exact State.Steady.exec (h.of_legal (t := { s with pending := rest }) rfl) _ ht
  · split at ht
    · exact h.exec _ ht
    · cases ht
      unfold tick
      split
      · exact h
      · exact h.of_legal rfl

end State.Steady

/-- Settles O57: the laws, with the one that a kept gap adds to them, are kept by every command and by the passing of
time. -/
theorem carriagesLawfulAfterEveryStep : Obligations.CarriagesLawfulAfterEveryStep :=
  fun _ _ hg hl ht => State.lawful_of_steady ((State.steady_of_lawful hg hl).step ht)

end Sys2Proof.Machine
end

section
/-! PROOFS. What the shared operations read and change, as equations: a notice changes the Management Agent alone, a STOP
request the carriage and the port, the test of the fences the fences and the notices; and the reports that each makes. -/

namespace Sys2Proof.Machine

/-! Notices (R166): a notice depends on the map, the notice queue and the clock alone. -/

/-- The Management Agent after a notice is handed to it: discarded without a CONTROLLER, placed while there is room,
otherwise discarded with the overflow flag set (R166). -/
def Management.handed (m : Management) (mapped : Bool) (n : Notice) : Management :=
  if mapped then
    if m.notices.length < Config.noticeRoom then { m with notices := m.notices ++ [n] } else { m with overflow := true }
  else m

theorem hand_eq (s : State) (a : NoticeKind) (b : Option Nat) (c : Reference) (d : Cause) (e : Detail) :
    hand s a b c d e =
      s.withManagement (s.management.handed (s.addressOf .controller).isSome ⟨a, b, c, d, e, s.lineClock⟩) := by
  unfold hand Management.handed
  cases s.addressOf .controller with
  | none => rfl
  | some n =>
    dsimp only [Option.isSome_some]
    split <;> rfl

theorem hand_modCarriage (s : State) (k : Nat) (g : Carriage → Carriage) (a : NoticeKind) (b : Option Nat) (c : Reference)
    (d : Cause) (e : Detail) : hand (s.modCarriage k g) a b c d e = (hand s a b c d e).modCarriage k g := by
  simp only [hand_eq]
  rfl

/-! STOP requests (R126): the active move of the axis, and what the port makes of the request. -/

/-- The Port Unit with a STOP entry made for a node that has none (R126). -/
def PortUnit.entered (p : PortUnit) (n : Nat) (reason : StopReason) : PortUnit :=
  if p.stops.any (·.node == n) then p
  else
    { p with
      stops := p.stops ++ [⟨n, reason, .part, BitVec.ofNat 8 p.ownAddress, p.ownSeq⟩]
      ownSeq := p.ownSeq + 1 }

/-- The Port Unit with the waiting MOVE frames for a node withdrawn, and a report of room made where some held move waits
for it (R126, R147). -/
def PortUnit.withdrawn (p : PortUnit) (waits : Bool) (n : Nat) : PortUnit :=
  if (p.dForward.filter fun f => !f.isMoveTo n).length < p.dForward.length then
    { p with
      dForward := p.dForward.filter fun f => !f.isMoveTo n
      roomReports := if waits then p.roomReports + 1 else p.roomReports }
  else p

/-- The Port Unit after a STOP request for a role, where that holds an address (R126). -/
def PortUnit.stopFor (p : PortUnit) (reason : StopReason) (waits : Bool) (node : Option Nat) : PortUnit :=
  match node with
  | none => p
  | some n => (p.entered n reason).withdrawn waits n

theorem enterStop_eq (s : State) (n : Nat) (reason : StopReason) :
    enterStop s n reason = s.withPort (s.port.entered n reason) := by
  unfold enterStop PortUnit.entered
  split <;> rfl

theorem withdrawMoves_eq (s : State) (n : Nat) :
    withdrawMoves s n = s.withPort (s.port.withdrawn s.someWaits n) := by
  unfold withdrawMoves PortUnit.withdrawn
  dsimp only
  split
  · rw [reportRoom_eq]
    rfl
  · rfl

theorem clearActive_eq (s : State) (k : Nat) (a : Axis) : clearActive s k a = s.modCarriage k (·.clearAxis a) := by
  cases a <;> rfl

theorem Carriage.clearAxis_slot (a : Axis) (c : Carriage) : (c.clearAxis a).slot = c.slot := by
  cases a <;> rfl

/-- A change of a carriage that leaves its slot leaves whether some held move waits for room. -/
theorem someWaits_modCarriage (s : State) (k : Nat) {g : Carriage → Carriage} (hg : ∀ c, (g c).slot = c.slot) :
    (s.modCarriage k g).someWaits = s.someWaits := by
  have : ((s.carriages.modify k g).map (·.slot)) = s.carriages.map (·.slot) := by
    apply List.ext_getElem?
    intro i
    simp only [List.getElem?_map, List.getElem?_modify]
    cases s.carriages[i]? with
    | none => rfl
    | some c => by_cases hi : k = i <;> simp [hi, hg]
  have key (cs : List Carriage) : (cs.any fun c => c.slot.any (·.waitingForRoom)) =
      (cs.map (·.slot)).any fun o => o.any (·.waitingForRoom) := by
    simp [List.any_map, Function.comp_def]
  rw [State.someWaits, State.someWaits, key, key, State.modCarriage_carriages, this]

/-- A STOP request changes the active move of the axis and the port, and nothing else. -/
theorem requestStop_eq (s : State) (k : Nat) (a : Axis) (reason : StopReason) :
    requestStop s k a reason =
      (s.modCarriage k (·.clearAxis a)).withPort (s.port.stopFor reason s.someWaits (s.addressOf (driveRole k a))) := by
  have ha : (s.modCarriage k (·.clearAxis a)).addressOf (driveRole k a) = s.addressOf (driveRole k a) := rfl
  unfold requestStop
  rw [clearActive_eq]
  dsimp only
  rw [ha]
  cases s.addressOf (driveRole k a) with
  | none => rfl
  | some n =>
    dsimp only
    rw [← someWaits_modCarriage s k (Carriage.clearAxis_slot a), enterStop_eq, withdrawMoves_eq]
    rfl

/-! The test of the PENDING fences (R84). -/

/-- One PENDING fence tested, on the fences and the Management Agent alone. -/
def sweepFence (held : Fence → Bool) (mapped : Bool) (now : Clock) (p : List Fence × Management) (i : Nat) :
    List Fence × Management :=
  match p.1[i]? with
  | none => p
  | some f =>
    if f.state = .pending ∧ held f = false then
      (p.1.set i { f with state := .on }, p.2.handed mapped ⟨.fence, some i, .absent, .on, .absent, now⟩)
    else p

/-- Every PENDING fence tested, on the fences and the Management Agent alone. -/
def State.swept (s : State) : List Fence × Management :=
  (List.range 8).foldl (sweepFence s.fenceHeld (s.addressOf .controller).isSome s.lineClock) (s.fences, s.management)

theorem testFence_eq (s : State) (p : List Fence × Management) (i : Nat) :
    testFence ((s.withFences p.1).withManagement p.2) i =
      (s.withFences (sweepFence s.fenceHeld (s.addressOf .controller).isSome s.lineClock p i).1).withManagement
        (sweepFence s.fenceHeld (s.addressOf .controller).isSome s.lineClock p i).2 := by
  have hh (f : Fence) : ((s.withFences p.1).withManagement p.2).fenceHeld f = s.fenceHeld f := rfl
  have hf : ((s.withFences p.1).withManagement p.2).fences = p.1 := rfl
  unfold testFence sweepFence
  rw [hf]
  cases p.1[i]? with
  | none => rfl
  | some f =>
    dsimp only
    rw [hh]
    split
    · rw [hand_eq]
      rfl
    · rfl

/-- The test of the fences changes the fences and the notices, and nothing else. -/
theorem testFences_eq (s : State) : testFences s = (s.withFences s.swept.1).withManagement s.swept.2 := by
  unfold testFences State.swept
  have key (l : List Nat) (p : List Fence × Management) :
      l.foldl testFence ((s.withFences p.1).withManagement p.2) =
        (s.withFences (l.foldl (sweepFence s.fenceHeld (s.addressOf .controller).isSome s.lineClock) p).1).withManagement
          (l.foldl (sweepFence s.fenceHeld (s.addressOf .controller).isSome s.lineClock) p).2 := by
    induction l generalizing p with
    | nil => rfl
    | cons i l ih => rw [List.foldl_cons, List.foldl_cons, testFence_eq, ih]
  exact key _ (s.fences, s.management)

/-- The test of the fences does not see the reports. -/
theorem testFences_withReports (s : State) (rs : List Report) :
    testFences (s.withReports rs) = (testFences s).withReports rs := by
  simp only [testFences_eq]
  rfl

/-! Reports between blocks: which of the shared operations make some. -/

@[simp] theorem hand_reports (s : State) (a : NoticeKind) (b : Option Nat) (c : Reference) (d : Cause) (e : Detail) :
    (hand s a b c d e).reports = s.reports := by
  unfold hand
  split
  · rfl
  · split <;> rfl

@[simp] theorem handStateChange_reports (s : State) (k : Nat) (c : Cause) :
    (handStateChange s k c).reports = s.reports := hand_reports ..

@[simp] theorem endHeld_reports (s : State) (k : Nat) (c : Cause) (d : Detail) :
    (endHeld s k c d).reports = s.reports := by
  unfold endHeld
  split <;> simp

@[simp] theorem raiseFlag_reports (s : State) (k : Nat) (f : Flag) : (raiseFlag s k f).reports = s.reports := by
  unfold raiseFlag
  split
  · rfl
  · split <;> simp

@[simp] theorem withdrawMoves_reports (s : State) (n : Nat) : (withdrawMoves s n).reports = s.reports := by
  unfold withdrawMoves
  dsimp only
  split
  · rw [reportRoom_eq]
    rfl
  · rfl

@[simp] theorem enterStop_reports (s : State) (n : Nat) (r : StopReason) : (enterStop s n r).reports = s.reports := by
  unfold enterStop
  split <;> rfl

@[simp] theorem clearActive_reports (s : State) (k : Nat) (a : Axis) : (clearActive s k a).reports = s.reports := by
  cases a <;> rfl

@[simp] theorem requestStop_reports (s : State) (k : Nat) (a : Axis) (r : StopReason) :
    (requestStop s k a r).reports = s.reports := by
  unfold requestStop
  dsimp only
  split <;> simp

@[simp] theorem requestStops_reports (s : State) (k : Nat) (r : StopReason) : (requestStops s k r).reports = s.reports := by
  simp [requestStops]

@[simp] theorem enterStopping_reports (s : State) (k : Nat) : (enterStopping s k).reports = s.reports := rfl

@[simp] theorem haltCarriage_reports (s : State) (k : Nat) (r : StopReason) (f : Option Flag) :
    (haltCarriage s k r f).reports = s.reports := by
  unfold haltCarriage
  cases f <;> dsimp only <;> split <;> simp

@[simp] theorem haltNeighbours_reports (s : State) (js : List Nat) : (haltNeighbours s js).reports = s.reports :=
  foldl_keeps (·.reports) _ (fun _ _ => haltCarriage_reports ..) js s

@[simp] theorem testFence_reports (s : State) (i : Nat) : (testFence s i).reports = s.reports := by
  unfold testFence
  split
  · rfl
  · split
    · rw [hand_reports]
      rfl
    · rfl

@[simp] theorem testFences_reports (s : State) : (testFences s).reports = s.reports :=
  foldl_keeps (·.reports) testFence testFence_reports _ s

/-- A reservation changed adds the reports of its change. -/
theorem setReservation_reports {s : State} {k : Nat} {c : Carriage} (hc : s.carriage k = some c) (r : Option Reservation) :
    (setReservation s k r).reports = s.reports ++ reservationReports k c.reservation r := by
  rw [setReservation_eq hc, testFences_reports]
  rfl

/-! The end of a held move, and a halt, in one change of the carriage. -/

/-- The HOLD_END notice of a slot, where it holds a move (R81). -/
def tellEnd (s : State) (k : Nat) (slot : Option HeldMove) (cause : Cause) : State :=
  match slot with
  | none => s
  | some h => hand s .holdEnd (some k) (.tag h.tag) cause .absent

@[simp] theorem tellEnd_reports (s : State) (k : Nat) (slot : Option HeldMove) (cause : Cause) :
    (tellEnd s k slot cause).reports = s.reports := by
  cases slot <;> simp [tellEnd]

@[simp] theorem tellEnd_carriages (s : State) (k : Nat) (slot : Option HeldMove) (cause : Cause) :
    (tellEnd s k slot cause).carriages = s.carriages := by
  cases slot <;> simp [tellEnd]

theorem modCarriage_modCarriage (s : State) (k : Nat) (f g : Carriage → Carriage) :
    (s.modCarriage k f).modCarriage k g = s.modCarriage k (g ∘ f) := by
  simp [State.modCarriage, State.withCarriages, List.modify_modify_eq]

/-- Two changes of carriage `k` that agree on it are the same. -/
theorem modCarriage_congr {s : State} {k : Nat} {f g : Carriage → Carriage}
    (h : ∀ c, s.carriage k = some c → f c = g c) : s.modCarriage k f = s.modCarriage k g := by
  simp only [State.modCarriage, modify_congr_of h]

/-- A change that does nothing to carriage `k` changes nothing. -/
theorem modCarriage_self {s : State} {k : Nat} {g : Carriage → Carriage} (h : ∀ c, s.carriage k = some c → g c = c) :
    s.modCarriage k g = s := by
  simp only [State.modCarriage, modify_eq_self_of h]
  rfl

/-- The held move of a carriage ends: its notice, and the slot EMPTY. -/
theorem endHeld_eq {s : State} {k : Nat} {c : Carriage} (hc : s.carriage k = some c) (cause : Cause) :
    endHeld s k cause .absent = (tellEnd s k c.slot cause).modCarriage k (·.unheld) := by
  cases hs : c.slot with
  | none =>
    rw [endHeld_empty (by simp [hc, hs])]
    refine (modCarriage_self fun d hd => ?_).symm
    cases hd.symm.trans hc
    simp [Carriage.unheld, ← hs]
  | some m =>
    rw [endHeld_held (m := m) (by simp [hc, hs]), hand_modCarriage]
    rfl

/-- An ACTIVE carriage that is halted: HOLD_END, STOPPING, both drives stopped, STATE_CHANGE (R18). -/
theorem haltCarriage_active_eq {s : State} {k : Nat} {c : Carriage} (hc : s.carriage k = some c)
    (ha : c.ctx.runState = .active) (reason : StopReason) :
    haltCarriage s k reason none =
      hand
        (requestStops ((tellEnd s k c.slot reason.endCause).modCarriage k fun c => c.unheld.slowed) k reason)
        .stateChange (some k) .absent .stopping .absent := by
  rw [haltCarriage_active (ha ▸ runState_eq hc), endHeld_eq hc]
  have : enterStopping ((tellEnd s k c.slot reason.endCause).modCarriage k (·.unheld)) k =
      (tellEnd s k c.slot reason.endCause).modCarriage k fun c => c.unheld.slowed := modCarriage_modCarriage ..
  rw [this]
  rfl

/-- A reservation changed, with its reports dropped: the fences tested on the state with the reservation stored. -/
theorem setReservation_withReports {s : State} {k : Nat} {c : Carriage} (hc : s.carriage k = some c)
    (r : Option Reservation) (rs : List Report) :
    (setReservation s k r).withReports rs = (testFences (s.modCarriage k (·.reserved r))).withReports rs := by
  rw [setReservation_eq hc, ← testFences_withReports, ← testFences_withReports]
  rfl

/-- A reservation that becomes UNKNOWN makes no report. -/
@[simp] theorem reservationReports_to_none (k : Nat) (r : Option Reservation) : reservationReports k r none = [] := by
  cases r <;> rfl

/-- A reservation that becomes UNKNOWN: the fences tested on the state without it. -/
theorem setReservation_none {s : State} {k : Nat} {c : Carriage} (hc : s.carriage k = some c) :
    setReservation s k none = testFences (s.modCarriage k (·.reserved none)) := by
  rw [setReservation_eq hc, reservationReports_to_none, List.append_nil]
  rfl

@[simp] theorem withReports_self (s : State) : s.withReports s.reports = s := rfl

/-- With no report left, there is none to drop. -/
theorem withReports_of_settled {s : State} (h : s.reports = []) : s.withReports [] = s := by
  rw [← h, withReports_self]

/-- A change of reservation makes at most two reports. -/
theorem reservationReports_length_le (k : Nat) (b a : Option Reservation) : (reservationReports k b a).length ≤ 2 := by
  unfold reservationReports
  split
  · rw [List.length_append]
    split <;> split <;> simp
  · simp
  · simp

/-- With no held move, a change of one carriage that holds none leaves none. -/
theorem State.NoHeld.of_modify {s t : State} {k : Nat} {g : Carriage → Carriage} (h : s.NoHeld)
    (ht : t.carriages = s.carriages.modify k g) (hg : ∀ c, c.slot = none → (g c).slot = none) : t.NoHeld := by
  intro c hc
  obtain ⟨i, hi⟩ := List.getElem?_of_mem hc
  rw [ht, List.getElem?_modify] at hi
  obtain ⟨d, hd, hx⟩ := Option.map_eq_some_iff.mp hi
  have hs := h d (List.mem_of_getElem? hd)
  rw [← hx]
  split
  · exact hg d hs
  · exact hs

theorem State.NoHeld.of_carriages {s t : State} (h : s.NoHeld) (ht : t.carriages = s.carriages) : t.NoHeld := by
  unfold State.NoHeld
  rw [ht]
  exact h

end Sys2Proof.Machine
end

section
/-! PROOFS. Management requests of the carriages: HALT, RESUME and SET-MEMBERSHIP, each through the one lemma on a request
that is taken at once. -/

namespace Sys2Proof.Machine

/-! A request taken at once. -/

/-- What a request that the part listens to comes to: the state its owner leaves, with its reports acted on, and the
reply. -/
theorem live_request {s t : State} {kind src seq : Byte} {payload : List Byte} {code : ResultCode} {data : List Byte}
    (h : s.Listens src) (hk : Kind.isManagement kind = true) (hp : payload.length ≤ 48) {a : Answer}
    (ha : carryOut s.arrived (s.requestFrame kind src seq payload) = a) (hcode : a.code = code) (hdata : a.data = data)
    (ht : finish a.after = t) (hr : t.reports = []) :
    live s (fun s => request s kind src seq payload) = .next (t.replied src seq code data) := by
  have hq : request s kind src seq payload = t.replied src seq code data := by
    show receiveU s (s.requestFrame kind src seq payload) = _
    rw [receiveU_request h hk hp, ha, ht, replyTo, hcode, hdata]
    rfl
  have hf : finish (t.replied src seq code data) = t.replied src seq code data := finish_of_settled hr
  simp only [live, h.running, Bool.false_eq_true, if_false, hq, hf]

/-- A request whose owner leaves no report. -/
theorem live_request_settled {s t : State} {kind src seq : Byte} {payload : List Byte} {code : ResultCode}
    {data : List Byte} (h : s.Listens src) (hk : Kind.isManagement kind = true) (hp : payload.length ≤ 48)
    (ha : carryOut s.arrived (s.requestFrame kind src seq payload) = ⟨code, data, t⟩) (hr : t.reports = []) :
    live s (fun s => request s kind src seq payload) = .next (t.replied src seq code data) :=
  live_request h hk hp ha rfl rfl (finish_of_settled hr) hr

/-- A request that is refused, or accepted with no change. -/
theorem live_request_unchanged {s : State} {kind src seq : Byte} {payload : List Byte} {code : ResultCode}
    (h : s.Listens src) (hk : Kind.isManagement kind = true) (hp : payload.length ≤ 48)
    (ha : carryOut s.arrived (s.requestFrame kind src seq payload) = ⟨code, [], s.arrived⟩) :
    live s (fun s => request s kind src seq payload) = .next (s.answered src seq code) :=
  live_request_settled h hk hp ha h.settled

/-- A request whose owner leaves no held move. -/
theorem live_request_noHeld {s t : State} {kind src seq : Byte} {payload : List Byte} {code : ResultCode}
    {data : List Byte} (h : s.Listens src) (hk : Kind.isManagement kind = true) (hp : payload.length ≤ 48)
    (ha : carryOut s.arrived (s.requestFrame kind src seq payload) = ⟨code, data, t⟩) (hh : t.NoHeld)
    (hr : t.reports.length ≤ 64) :
    live s (fun s => request s kind src seq payload) = .next ((t.withReports []).replied src seq code data) :=
  live_request h hk hp ha rfl rfl (finish_noHeld hh hr) rfl

@[simp] theorem field_zero_one (b : Byte) (rest : List Byte) : field (b :: rest) 0 1 = b.toNat := by
  simp [field, leValue]

@[simp] theorem field_one_one (a b : Byte) (rest : List Byte) : field (a :: b :: rest) 1 1 = b.toNat := by
  simp [field, leValue]

/-- A command on one index is its owner's, where the index is below the bound. -/
theorem indexed_one (s : State) (bound : Nat) (k : Byte) (owner : Nat → Answer) :
    indexed s bound 1 [k] owner = if bound ≤ k.toNat then refuseRequest s .badIndex else owner k.toNat := by
  simp [indexed]

theorem carryOut_halt (s t : State) (src seq k : Byte) :
    carryOut t (s.requestFrame Kind.mgCommand src seq [0x02, k]) =
      if t.carriages.length ≤ k.toNat then refuseRequest t .badIndex else commandHalt t k.toNat :=
  indexed_one ..

theorem carryOut_resume (s t : State) (src seq k : Byte) :
    carryOut t (s.requestFrame Kind.mgCommand src seq [0x03, k]) =
      if t.carriages.length ≤ k.toNat then refuseRequest t .badIndex else commandResume t k.toNat :=
  indexed_one ..

theorem carryOut_membership (s t : State) (src seq k m : Byte) :
    carryOut t (s.requestFrame Kind.mgCommand src seq [0x01, k, m]) =
      if t.carriages.length ≤ k.toNat then refuseRequest t .badIndex
      else (Membership.ofCode m.toNat).elim (refuseRequest t .badField) (commandMembership t k.toNat) := by
  have h : carryOut t (s.requestFrame Kind.mgCommand src seq [0x01, k, m]) = decodeMembership t [k, m] := rfl
  rw [h]
  simp only [decodeMembership, indexed, List.any_cons, field_zero_one, field_one_one, List.any_nil, Bool.or_false,
    decide_eq_true_eq, Bool.or_self, List.length_cons, List.length_nil, Nat.zero_add, Nat.reduceAdd, ne_eq,
    not_true_eq_false, if_false]
  cases Membership.ofCode m.toNat <;> rfl

/-- An installed carriage has an index below their number. -/
theorem carriage_lt {s : State} {k : Nat} {c : Carriage} (hc : s.carriage k = some c) : k < s.carriages.length :=
  (List.getElem?_eq_some_iff.mp hc).1

/-! HALT (R23). -/

/-- Settles O44: HALT by run state; in ACTIVE it is a halt request without a flag. -/
theorem haltCarriedOut : Obligations.HaltCarriedOut := by
  intro s src seq k h
  refine ⟨fun hk => ?_, fun c hc => ?_⟩
  · refine live_request_unchanged h rfl (by simp) ?_
    rw [carryOut_halt]
    exact if_pos hk
  · have hlt : ¬s.arrived.carriages.length ≤ k.toNat := Nat.not_le.mpr (carriage_lt hc)
    have hc' : s.arrived.carriage k.toNat = some c := hc
    have hco (r : RunState) (hr : c.ctx.runState = r) : carryOut s.arrived (s.requestFrame Kind.mgCommand src seq [0x02, k]) =
        commandHalt s.arrived k.toNat ∧ s.arrived.runState k.toNat = some r := by
      rw [carryOut_halt, if_neg hlt]
      exact ⟨rfl, hr ▸ runState_eq hc'⟩
    refine ⟨fun hr => ?_, fun hr => ?_, fun hr => ?_⟩
    · refine live_request_unchanged h rfl (by simp) ?_
      rcases hr with hr | hr | hr <;>
      · obtain ⟨hx, hs⟩ := hco _ hr
        rw [hx, commandHalt, hs]
        rfl
    · obtain ⟨hx, hs⟩ := hco _ hr
      refine live_request_settled h rfl (by simp) (hx.trans ?_) ?_
      · rw [commandHalt, hs]
        rfl
      · simp [State.arrived, State.tookU, h.settled]
    · obtain ⟨hx, hs⟩ := hco _ hr
      refine live_request_settled h rfl (by simp) (hx.trans ?_) ?_
      · rw [commandHalt, hs]
        dsimp only
        rw [haltCarriage_active_eq hc' hr]
        cases c.slot <;> rfl
      · simp
        cases c.slot <;> simp [State.changed, State.arrived, State.tookU, h.settled]

/-! RESUME (R24). -/

theorem FaultFlags.any_eq_false_iff (fs : FaultFlags) : fs.any = false ↔ fs = {} := by
  obtain ⟨a, b, c, d, e⟩ := fs
  simp [FaultFlags.any, and_assoc]

/-- An axis is ready where its last STATE shows it. -/
theorem axisReady_iff (a : Option AxisReport) : axisReady a = true ↔ ∃ x, a = some x ∧ x.status.ready = true := by
  cases a <;> simp [axisReady]

theorem Context.sound_iff (c : Context) :
    c.sound = true ↔ c.fresh = true ∧ c.flags = {} ∧ (∃ x, c.lastX = some x ∧ x.status.ready = true) ∧
      ∃ z, c.lastZ = some z ∧ z.status.ready = true := by
  simp [Context.sound, axisReady_iff, FaultFlags.any_eq_false_iff, and_assoc]

theorem Fence.standing_iff (f : Fence) : f.standing = true ↔ f.state ≠ .off := by
  simp [Fence.standing]

/-- No standing fence that an occupancy does not intersect lies closer than G to a span. -/
theorem nearFence_eq_false_iff (s : State) (span occ : Interval) :
    s.nearFence span occ = false ↔ ∀ f ∈ s.fences, f.state ≠ .off → (s.fenceSpan f).intersects occ = false →
      span.apart s.gap (s.fenceSpan f) = true := by
  rw [State.nearFence, List.any_eq_false]
  simp only [Bool.and_eq_true, Bool.not_eq_true', not_and, Fence.standing_iff, Bool.not_eq_false, and_imp]

/-- Settles O45: RESUME by run state, its conditions and the clearance of the reservation. -/
theorem resumeCarriedOut : Obligations.ResumeCarriedOut := by
  intro s src seq k h
  refine ⟨fun hk => live_request_unchanged h rfl (by simp) ?_, fun c hc => ?_⟩
  · rw [carryOut_resume]
    exact if_pos hk
  have hlt : ¬s.arrived.carriages.length ≤ k.toNat := Nat.not_le.mpr (carriage_lt hc)
  have hc' : s.arrived.carriage k.toNat = some c := hc
  have hco : carryOut s.arrived (s.requestFrame Kind.mgCommand src seq [0x03, k]) = commandResume s.arrived k.toNat := by
    rw [carryOut_resume, if_neg hlt]
  have hsound : (c.ctx.sound && !s.arrived.inputs.emergency && c.ctx.membership == .normal) = true ↔
      c.ctx.fresh = true ∧ c.ctx.flags = {} ∧ (∃ x, c.ctx.lastX = some x ∧ x.status.ready = true) ∧
        (∃ z, c.ctx.lastZ = some z ∧ z.status.ready = true) ∧ s.inputs.emergency = false ∧
          c.ctx.membership = .normal := by
    simp [Context.sound_iff, and_assoc, State.arrived, State.tookU]
  refine ⟨fun hr => ?_, fun ha hh => ?_, fun hr hn => ?_, fun hr hs held occ hres hocc => ?_⟩
  · refine live_request_unchanged h rfl (by simp) (hco.trans ?_)
    simp [commandResume, hc', hr, accept]
  · refine live_request_unchanged h rfl (by simp) (hco.trans ?_)
    cases hr : c.ctx.runState <;> simp_all [commandResume, refuseRequest]
  · refine live_request_unchanged h rfl (by simp) (hco.trans ?_)
    have hx := mt hsound.mp hn
    simp only [commandResume, hc', hr, if_neg hx]
    rfl
  · have hclear : s.arrived.clearToResume k.toNat = true ↔
        s.closeNeighbours k.toNat held.span = [] ∧
          ∀ f ∈ s.fences, f.state ≠ .off → (s.fenceSpan f).intersects occ = false →
            held.span.apart s.gap (s.fenceSpan f) = true := by
      have hspan : s.arrived.span k.toNat = some held.span := by simp [State.span, hc', hres]
      have hocc' : s.arrived.currentOccupancy k.toNat = some occ := hocc
      simp only [State.clearToResume, hspan, hocc', Bool.and_eq_true, Bool.not_eq_true', List.isEmpty_iff]
      exact and_congr Iff.rfl (nearFence_eq_false_iff s.arrived held.span occ)
    have hx := hsound.mpr hs
    refine ⟨fun hn => live_request_unchanged h rfl (by simp) (hco.trans ?_), fun hy =>
      live_request_settled h rfl (by simp) (hco.trans ?_) ?_⟩
    · simp only [commandResume, hc', hr, if_pos hx, if_neg (mt hclear.mp hn)]
      rfl
    · simp only [commandResume, hc', hr, if_pos hx, if_pos (hclear.mpr hy)]
      rfl
    · rw [hand_reports]
      exact h.settled

/-! SET-MEMBERSHIP (R25 to R28). -/

theorem Membership.ofCode_code (m : Membership) : Membership.ofCode m.code = some m := by
  cases m <;> rfl

theorem Membership.ofCode_of_toNat {m : Membership} {b : Byte} (h : m.code = b.toNat) :
    Membership.ofCode b.toNat = some m := h ▸ m.ofCode_code

/-- A code above 3 names no membership. -/
theorem Membership.ofCode_none {n : Nat} (h : 3 < n) : Membership.ofCode n = none := by
  unfold Membership.ofCode
  repeat rw [if_neg (by omega)]

/-- The new membership and the virtual position that it brings, with its notice. -/
theorem setMembership_eq {s : State} {k : Nat} {c : Carriage} (hc : s.carriage k = some c) {m : Membership}
    {v : Option Nat} (hv : (if m = .shadow then c.ctx.lastX.map (·.position) else none) = v) :
    setMembership s k m =
      hand (s.modCarriage k fun c => { c with virtualX := v, ctx := { c.ctx with membership := m } })
        .stateChange (some k) .absent m.cause .absent := by
  subst hv
  unfold setMembership
  exact congrArg (handStateChange · k m.cause) (modCarriage_congr fun d hd => by cases hd.symm.trans hc; rfl)

theorem commandMembership_same {s : State} {k : Nat} {c : Carriage} (hc : s.carriage k = some c) :
    commandMembership s k c.ctx.membership = accept s := by
  simp [commandMembership, hc]

theorem commandMembership_other {s : State} {k : Nat} {c : Carriage} (hc : s.carriage k = some c) {m : Membership}
    (hm : c.ctx.membership ≠ m) :
    commandMembership s k m =
      match m with
      | .normal => membershipWorking s k c .normal
      | .shadow => membershipWorking s k c .shadow
      | .isolated => accept (membershipIsolated s k c)
      | .excluded => membershipExcluded s k c := by
  simp only [commandMembership, hc, if_neg hm]
  cases m <;> rfl

/-- Every standing fence lies at least G from a span. -/
theorem clearOfFences_iff (s : State) (span : Interval) :
    s.clearOfFences span = true ↔ ∀ f ∈ s.fences, f.state ≠ .off → span.apart s.gap (s.fenceSpan f) = true := by
  simp [State.clearOfFences, List.all_eq_true, Fence.standing, imp_iff_not_or]

/-- What SET-MEMBERSHIP to EXCLUDED leaves, its reports dropped (R28): the notice, then the fences that the park window
clears. -/
theorem membershipExcluded_park {s : State} {k : Nat} {c : Carriage} (hc : s.carriage k = some c) (park : Interval) :
    (setReservation ((setMembership s k .excluded).modContext k fun x => { x with fresh := false }) k
        (some ⟨park, .park⟩)).withReports [] =
      (testFences
        (hand
          (s.modCarriage k fun c =>
            { c with
              virtualX := none
              reservation := some ⟨park, .park⟩
              ctx := { c.ctx with membership := .excluded, fresh := false } })
          .stateChange (some k) .absent .excluded .absent)).withReports [] := by
  rw [setMembership_eq hc (v := none) (by simp)]
  have hm : ((hand (s.modCarriage k fun c => { c with virtualX := none, ctx := { c.ctx with membership := .excluded } })
      .stateChange (some k) .absent Membership.excluded.cause .absent).modContext k fun x =>
        { x with fresh := false }).carriage k =
      some { c with virtualX := none, ctx := { c.ctx with membership := .excluded, fresh := false } } := by
    rw [State.carriage_modContext_self, State.carriage_congr (hand_carriages ..), modCarriage_same hc]
    rfl
  rw [setReservation_withReports hm, State.modContext, ← hand_modCarriage, ← hand_modCarriage, modCarriage_modCarriage,
    modCarriage_modCarriage]
  rfl

/-- What SET-MEMBERSHIP to ISOLATED leaves of an EXCLUDED carriage (R27): both notices, then the fences that the park window
frees. -/
theorem membershipIsolated_excluded {s : State} {k : Nat} {c : Carriage} (hc : s.carriage k = some c)
    (hx : c.ctx.membership = .excluded) :
    membershipIsolated s k c =
      testFences
        (hand
          (hand
            (s.modCarriage k fun c =>
              { c with
                virtualX := none
                reservation := none
                ctx :=
                  { c.ctx with
                    membership := .isolated
                    runState := .unseen
                    unseenOrigin := some .unexclude
                    fresh := false
                    lastX := none
                    lastZ := none
                    arrivalX := none
                    arrivalZ := none
                    arrivalHead := none
                    inSetX := false
                    inSetZ := false
                    inSetHead := false } })
            .stateChange (some k) .absent .isolated .absent)
          .stateChange (some k) .absent .unseen .absent) := by
  unfold membershipIsolated
  rw [if_pos hx, setMembership_eq hc (v := none) (by simp)]
  dsimp only
  rw [State.modContext, ← hand_modCarriage, modCarriage_modCarriage, handStateChange]
  have hd (g : Carriage → Carriage) (a : Cause) : (hand (hand (s.modCarriage k g) .stateChange (some k) .absent a .absent)
      .stateChange (some k) .absent .unseen .absent).carriage k = some (g c) :=
    (State.carriage_congr ((hand_carriages ..).trans (hand_carriages ..)) k).trans (modCarriage_same hc g)
  rw [setReservation_none (hd _ _), ← hand_modCarriage, ← hand_modCarriage, modCarriage_modCarriage]
  rfl

/-- What SET-MEMBERSHIP to ISOLATED leaves of a carriage that is not EXCLUDED and goes on as it is (R27). -/
theorem membershipIsolated_still {s : State} {k : Nat} {c : Carriage} (hc : s.carriage k = some c) :
    setMembership (endHeld s k .notNormal .absent) k .isolated =
      hand
        ((tellEnd s k c.slot .notNormal).modCarriage k fun c =>
          { c with slot := none, virtualX := none, ctx := { c.ctx with membership := .isolated } })
        .stateChange (some k) .absent .isolated .absent := by
  have hd : (endHeld s k .notNormal .absent).carriage k = some c.unheld := by
    rw [State.carriage_modify_self (endHeld_carriages ..), hc]
    rfl
  rw [setMembership_eq hd (v := none) (by simp), endHeld_eq hc, modCarriage_modCarriage]
  rfl

/-- Settles O43: SET-MEMBERSHIP by the membership asked for, and by what the carriage is and does. -/
theorem membershipSet : Obligations.MembershipSet := by
  intro s src seq k membership h
  have hset : s.arrived.reports = [] := h.settled
  refine ⟨fun hk => live_request_unchanged h rfl (by simp) ?_, fun hk hm => live_request_unchanged h rfl (by simp) ?_,
    fun c hc => ?_⟩
  · rw [carryOut_membership]
    exact if_pos hk
  · have hk' : ¬s.arrived.carriages.length ≤ k.toNat := Nat.not_le.mpr hk
    rw [carryOut_membership, if_neg hk', Membership.ofCode_none hm]
    rfl
  have hc' : s.arrived.carriage k.toNat = some c := hc
  have hk : ¬s.arrived.carriages.length ≤ k.toNat := Nat.not_le.mpr (carriage_lt hc)
  have hco {m : Membership} (hm : m.code = membership.toNat) :
      carryOut s.arrived (s.requestFrame Kind.mgCommand src seq [0x01, k, membership]) =
        commandMembership s.arrived k.toNat m := by
    rw [carryOut_membership, if_neg hk, Membership.ofCode_of_toNat hm]
    rfl
  have hother {m : Membership} (hm : m.code = membership.toNat) (hn : c.ctx.membership.code ≠ membership.toNat) :
      c.ctx.membership ≠ m := fun hx => hn (hx ▸ hm)
  -- NORMAL and SHADOW are refused STATE from EXCLUDED and from a carriage that is not sound.
  have hworking {m : Membership} (hm : m.code = membership.toNat) (hw : m = .normal ∨ m = .shadow)
      (hn : c.ctx.membership ≠ m) :
      carryOut s.arrived (s.requestFrame Kind.mgCommand src seq [0x01, k, membership]) =
        membershipWorking s.arrived k.toNat c m := by
    rw [hco hm, commandMembership_other hc' hn]
    rcases hw with rfl | rfl <;> rfl
  have hcode : membership = 0 ∨ membership = 3 → ∃ m, Membership.code m = membership.toNat ∧ (m = .normal ∨ m = .shadow) := by
    rintro (rfl | rfl)
    · exact ⟨.normal, rfl, .inl rfl⟩
    · exact ⟨.shadow, rfl, .inr rfl⟩
  have hsound : (c.ctx.runState == .halted && c.ctx.sound) = true ↔
      c.ctx.runState = .halted ∧ c.ctx.fresh = true ∧ c.ctx.flags = {} ∧
        (∃ x, c.ctx.lastX = some x ∧ x.status.ready = true) ∧ ∃ z, c.ctx.lastZ = some z ∧ z.status.ready = true := by
    rw [Bool.and_eq_true, beq_iff_eq, Context.sound_iff]
  refine ⟨fun hm => ?_, fun hm hx => ?_, fun hm hw hs => ?_, ?_, ?_, ?_, ?_, ?_⟩
  · refine live_request_unchanged h rfl (by simp) ?_
    rw [hco hm, commandMembership_same hc']
    rfl
  · obtain ⟨m, hm, hw⟩ := hcode hm
    refine live_request_unchanged h rfl (by simp) ?_
    rw [hworking hm hw (by rcases hw with rfl | rfl <;> simp [hx]), membershipWorking, if_pos hx]
    rfl
  · obtain ⟨m, hm, hw'⟩ := hcode hm
    refine live_request_unchanged h rfl (by simp) ?_
    rw [hworking hm hw' (hother hm hw.2), membershipWorking, if_neg hw.1,
      if_pos (by rw [Bool.not_eq_true', Bool.eq_false_iff]; exact mt hsound.mp hs)]
    rfl
  · rintro rfl hw hs env henv
    have hm : Membership.code .normal = (0 : Byte).toNat := rfl
    have henv' : s.arrived.currentEnvelope k.toNat = some env := henv
    have hclear : ((s.arrived.closeNeighbours k.toNat env).isEmpty && s.arrived.clearOfFences env) = true ↔
        s.closeNeighbours k.toNat env = [] ∧
          ∀ f ∈ s.fences, f.state ≠ .off → env.apart s.gap (s.fenceSpan f) = true := by
      rw [Bool.and_eq_true, List.isEmpty_iff, clearOfFences_iff]
      exact Iff.rfl
    have ha : carryOut s.arrived (s.requestFrame Kind.mgCommand src seq [0x01, k, 0]) =
        if (s.arrived.closeNeighbours k.toNat env).isEmpty && s.arrived.clearOfFences env then
          accept (setMembership s.arrived k.toNat .normal)
        else refuseRequest s.arrived .overlap := by
      rw [hworking hm (.inl rfl) (hother hm hw.2), membershipWorking, if_neg hw.1, if_neg (by simpa using hsound.mpr hs),
        if_pos rfl, henv']
    refine ⟨fun hn => live_request_unchanged h rfl (by simp) ?_, fun hy => live_request_settled h rfl (by simp) ?_ ?_⟩
    · rw [ha, if_neg (mt hclear.mp hn)]
      rfl
    · rw [ha, if_pos (hclear.mpr hy), setMembership_eq hc' (v := none) (by simp)]
      rfl
    · rw [hand_reports]
      exact hset
  · rintro rfl hw hs
    have hm : Membership.code .shadow = (3 : Byte).toNat := rfl
    refine live_request_settled h rfl (by simp) ?_ ?_
    · rw [hworking hm (.inr rfl) (hother hm hw.2), membershipWorking, if_neg hw.1, if_neg (by simpa using hsound.mpr hs),
        if_neg (by simp), setMembership_eq hc' (if_pos rfl)]
      rfl
    · rw [hand_reports]
      exact hset
  · rintro rfl hw
    have hm : Membership.code .excluded = (2 : Byte).toNat := rfl
    have ha : carryOut s.arrived (s.requestFrame Kind.mgCommand src seq [0x01, k, 2]) =
        membershipExcluded s.arrived k.toNat c := by
      rw [hco hm, commandMembership_other hc' (hother hm hw.2)]
    refine ⟨fun hn => live_request_unchanged h rfl (by simp) (ha.trans ?_), fun park hp => ?_⟩
    · unfold membershipExcluded
      split
      · rename_i park occ hpark hocc
        refine if_pos ?_
        by_contra hx
        simp only [Bool.or_eq_true, decide_eq_true_eq, Bool.not_eq_true', not_or, not_not, Bool.not_eq_false,
          Interval.within, Bool.and_eq_true] at hx
        exact hn park ⟨hx.1, hpark, occ, hocc, hx.2⟩
      · rfl
    · obtain ⟨hr, hpark, occ, hocc, hlo, hhi⟩ := hp
      have hpark' : (s.arrived.record k.toNat).bind (·.park) = some park := hpark
      have hocc' : s.arrived.currentOccupancy k.toNat = some occ := hocc
      have hin : occ.within park = true := by simp [Interval.within, hlo, hhi]
      have hb : membershipExcluded s.arrived k.toNat c =
          if !(s.arrived.closeNeighbours k.toNat park).isEmpty then refuseRequest s.arrived .overlap
          else
            accept
              (setReservation ((setMembership s.arrived k.toNat .excluded).modContext k.toNat fun x =>
                { x with fresh := false }) k.toNat (some ⟨park, .park⟩)) := by
        simp only [membershipExcluded, hpark', hocc', hr, hin]
        rfl
      have hclose : (!(s.arrived.closeNeighbours k.toNat park).isEmpty) = true ↔ s.closeNeighbours k.toNat park ≠ [] := by
        rw [Bool.not_eq_true', Bool.eq_false_iff, ne_eq, List.isEmpty_iff]
        exact Iff.rfl
      refine ⟨fun hn => live_request_unchanged h rfl (by simp) (ha.trans (hb.trans (if_pos (hclose.mpr hn)))),
        fun hn hheld => ?_⟩
      refine (live_request_noHeld h rfl (by simp) (ha.trans (hb.trans (if_neg (mt hclose.mp (not_not.mpr hn)))))
        ?_ ?_).trans ?_
      rotate_left 2
      · rw [membershipExcluded_park hc', ← testFences_withReports]
        exact congrArg (fun t => Host.Outcome.next (State.replied (testFences t) src seq .ok []))
          (withReports_of_settled ((hand_reports ..).trans hset))
      · have hj : (setMembership s.arrived k.toNat .excluded).NoHeld :=
          State.NoHeld.of_modify (s := s.arrived) hheld (setMembership_carriages s.arrived k.toNat .excluded)
            fun _ hs => hs
        have hf : ((setMembership s.arrived k.toNat .excluded).modContext k.toNat fun x =>
            { x with fresh := false }).NoHeld :=
          hj.of_modify (State.modCarriage_carriages (setMembership s.arrived k.toNat .excluded) k.toNat _)
            fun _ hs => hs
        exact hf.of_modify (setReservation_carriages _ k.toNat (some ⟨park, .park⟩)) fun _ hs => hs
      · have hd : ((setMembership s.arrived k.toNat .excluded).modContext k.toNat fun x =>
            { x with fresh := false }).carriage k.toNat = some { c.joined .excluded with
              ctx := { (c.joined .excluded).ctx with fresh := false } } := by
          rw [State.carriage_modContext_self, State.carriage_modify_self (setMembership_carriages ..), hc']
          rfl
        rw [setReservation_reports hd, List.length_append]
        have h0 : ((setMembership s.arrived k.toNat .excluded).modContext k.toNat fun x =>
            { x with fresh := false }).reports = [] := (handStateChange_reports ..).trans hset
        rw [h0]
        exact (Nat.zero_add _).trans_le ((reservationReports_length_le ..).trans (by decide))
  · rintro rfl hx
    have hm : Membership.code .isolated = (1 : Byte).toNat := rfl
    refine live_request_settled h rfl (by simp) ?_ ?_
    · rw [hco hm, commandMembership_other hc' (by simp [hx])]
      dsimp only
      rw [membershipIsolated_excluded hc' hx]
      rfl
    · rw [testFences_reports, hand_reports, hand_reports]
      exact hset
  · rintro rfl hw
    have hm : Membership.code .isolated = (1 : Byte).toNat := rfl
    have ha : carryOut s.arrived (s.requestFrame Kind.mgCommand src seq [0x01, k, 1]) =
        accept (membershipIsolated s.arrived k.toNat c) := by
      rw [hco hm, commandMembership_other hc' (hother hm hw.2)]
    have hi : membershipIsolated s.arrived k.toNat c =
        if c.ctx.runState = .active ∧ (c.ctx.activeX.isSome ∨ c.ctx.activeZ.isSome) then
          haltCarriage (setMembership (endHeld s.arrived k.toNat .notNormal .absent) k.toNat .isolated) k.toNat .isolate none
        else setMembership (endHeld s.arrived k.toNat .notNormal .absent) k.toNat .isolated := by
      rw [membershipIsolated, if_neg hw.1]
    have hmove : (c.ctx.runState = .active ∧ (c.ctx.activeX.isSome ∨ c.ctx.activeZ.isSome)) ↔
        c.ctx.runState = .active ∧ (c.ctx.activeX ≠ none ∨ c.ctx.activeZ ≠ none) := by
      simp [Option.isSome_iff_ne_none]
    have hdone := membershipIsolated_still hc'
    have hd : (hand ((tellEnd s.arrived k.toNat c.slot .notNormal).modCarriage k.toNat fun c =>
        { c with slot := none, virtualX := none, ctx := { c.ctx with membership := .isolated } })
        .stateChange (some k.toNat) .absent .isolated .absent).carriage k.toNat =
          some { c with slot := none, virtualX := none, ctx := { c.ctx with membership := .isolated } } :=
      (State.carriage_congr (hand_carriages ..) _).trans (modCarriage_same ((State.carriage_congr
        (tellEnd_carriages ..) _).trans hc') _)
    refine ⟨fun hn => live_request_settled h rfl (by simp) (ha.trans ?_) ?_, fun hy =>
      live_request_settled h rfl (by simp) (ha.trans ?_) ?_⟩
    · rw [hi, if_neg (mt hmove.mp hn), hdone]
      cases c.slot <;> rfl
    · cases c.slot <;> simpa [State.changed] using hset
    · rw [hi, if_pos (hmove.mpr hy), hdone, haltCarriage_active_eq hd hy.1,
        modCarriage_congr (g := fun c =>
          { c with ctx := { c.ctx with runState := .stopping, stillX := false, stillZ := false } }) fun e he => by
          cases he.symm.trans hd
          rfl]
      cases c.slot <;> rfl
    · rw [hand_reports, requestStop_reports, requestStop_reports]
      cases c.slot <;> simpa [State.changed] using hset

end Sys2Proof.Machine
end

section
/-! PROOFS. Time: what a step does on an empty queue, and the arrival times that are forgotten. -/

namespace Sys2Proof.Machine

/-! Arrival times (R1). -/

theorem arrivalOld_iff (s : State) (r : Role) :
    s.arrivalOld r = true ↔ ∃ t, s.arrivalOf r = some t ∧ 2147483648 ≤ age s.lineClock t := by
  unfold State.arrivalOld
  cases s.arrivalOf r with
  | none => simp
  | some t => exact decide_eq_true_iff.trans ⟨fun h => ⟨t, rfl, h⟩, fun ⟨_, ht, h⟩ => Option.some.inj ht ▸ h⟩

theorem forgetArrival_reports (s : State) (r : Role) : (forgetArrival s r).reports = s.reports := by
  cases r <;> rfl

/-- Settles O34: an arrival time is forgotten exactly when it is old. -/
theorem arrivalTimeForgotten : Obligations.ArrivalTimeForgotten := by
  intro s h
  refine ⟨fun role hy => live_settled h (if_neg ?_) h.settled, fun role t ht ho => ?_⟩
  · rw [arrivalOld_iff]
    rintro ⟨t, ht, ho⟩
    exact absurd (hy t ht) (Nat.not_lt.mpr ho)
  · refine (live_settled h (if_pos ((arrivalOld_iff s role).mpr ⟨t, ht, ho⟩))
      ((forgetArrival_reports s role).trans h.settled)).trans ?_
    cases role <;> rfl

/-! The steps that are due (logs 1 and 2). -/

/-- The expiries, arrival times and blink points that are due, in the order in which they are taken. -/
def timedSteps (s : State) : List Instr :=
  (List.range 4).flatMap (dueExpiries s) ++ (arrivalRoles.filter s.arrivalOld).map .arrivalTimeAbsent ++
    ([Blink.blink1, Blink.blink2].filter fun b => s.lamps.points b < s.lamps.pointsDue b).map .blinkPeriod

theorem dueSteps_eq (s : State) : dueSteps s = duePins s ++ (dueRoom s ++ timedSteps s) := by
  simp [dueSteps, timedSteps]

/-- What it takes for a step of time to be due. -/
def State.Due (s : State) : Instr → Prop
  | .staleExpiry k => k < 4 ∧ s.isFresh k = true ∧ s.deadlineDue (s.staleDeadline k) = true
  | .lostExpiry k => k < 4 ∧ s.isFresh k = false ∧ s.deadlineDue (s.lostDeadline k) = true
  | .holdTimeout k => k < 4 ∧ s.holdDue k = true
  | .gripDeadline k => k < 4 ∧ s.loadDue k .gripping = true
  | .releaseDeadline k => k < 4 ∧ s.loadDue k .releasing = true
  | .arrivalTimeAbsent role => role ∈ arrivalRoles ∧ s.arrivalOld role = true
  | .blinkPeriod b => s.lamps.points b < s.lamps.pointsDue b
  | _ => False

theorem mem_dueExpiries_iff (s : State) (k : Nat) (i : Instr) :
    i ∈ dueExpiries s k ↔
      (i = .staleExpiry k ∧ s.isFresh k = true ∧ s.deadlineDue (s.staleDeadline k) = true) ∨
      (i = .lostExpiry k ∧ s.isFresh k = false ∧ s.deadlineDue (s.lostDeadline k) = true) ∨
      (i = .holdTimeout k ∧ s.holdDue k = true) ∨ (i = .gripDeadline k ∧ s.loadDue k .gripping = true) ∨
      (i = .releaseDeadline k ∧ s.loadDue k .releasing = true) := by
  simp [dueExpiries, and_comm]

theorem mem_timedSteps_iff (s : State) (i : Instr) : i ∈ timedSteps s ↔ s.Due i := by
  have hb (b : Blink) : b = .blink1 ∨ b = .blink2 := by cases b <;> simp
  simp only [timedSteps, List.mem_append, List.mem_flatMap, List.mem_range, mem_dueExpiries_iff, List.mem_map,
    List.mem_filter, List.mem_cons, List.not_mem_nil, or_false, decide_eq_true_eq]
  cases i <;> simp [State.Due, hb]

theorem isFresh_iff (s : State) (k : Nat) : s.isFresh k = true ↔ ∃ c, s.carriage k = some c ∧ c.ctx.fresh = true := by
  unfold State.isFresh
  cases s.carriage k <;> simp

theorem deadlineDue_iff (s : State) (d : Option Clock) :
    s.deadlineDue d = true ↔ ∃ t, d = some t ∧ reached s.lineClock t = true := by
  cases d <;> simp [State.deadlineDue]

theorem holdDue_iff (s : State) (k : Nat) :
    s.holdDue k = true ↔ ∃ h, (s.carriage k).bind (·.slot) = some h ∧ s.deadlineDue (some h.deadline) = true := by
  unfold State.holdDue State.held
  cases (s.carriage k).bind (·.slot) <;> simp [State.deadlineDue]

theorem loadDue_iff (s : State) (k : Nat) (phase : LoadPhase) :
    s.loadDue k phase = true ↔
      ∃ l, (s.carriage k).bind (·.load) = some l ∧ l.phase = phase ∧ s.deadlineDue l.deadline = true := by
  unfold State.loadDue State.load
  cases (s.carriage k).bind (·.load) with
  | none => simp
  | some l =>
    cases hd : l.deadline <;> simp [State.deadlineDue, hd]

/-- Only an installed carriage has a lost deadline. -/
theorem lostDue_iff (s : State) (k : Nat) :
    s.isFresh k = false ∧ s.deadlineDue (s.lostDeadline k) = true ↔
      (∃ c, s.carriage k = some c ∧ c.ctx.fresh = false) ∧ s.deadlineDue (s.lostDeadline k) = true := by
  cases hc : s.carriage k with
  | none => simp [State.lostDeadline, State.reportDeadline, hc, State.deadlineDue]
  | some c => simp [State.isFresh, hc]

theorem mem_arrivalRoles {s : State} {r : Role} {t : Clock} (h : s.arrivalOf r = some t) :
    r ∈ arrivalRoles ↔ r.inRange = true := by
  cases r with
  | controller => cases h
  | xDrive k => simp [arrivalRoles, Role.inRange]
  | zDrive k => simp [arrivalRoles, Role.inRange]
  | head k => simp [arrivalRoles, Role.inRange]
  | saw j => simp [arrivalRoles, Role.inRange]

/-! The sampled pins (R169). -/

theorem SampledPin.changes_iff (p : SampledPin) : p.changes = true ↔ p.sample = p.sampleBefore ∧ p.sample ≠ p.taken := by
  simp [SampledPin.changes]

/-- A step with no command waiting, RESET_N high. -/
theorem step_idle {s : State} (hp : s.pending = []) (hr : s.inputs.resetLow = false) :
    step s = (dueSteps s).head?.elim (.next (tick s)) (exec · s) := by
  unfold step nextDue
  rw [hp, hr]
  dsimp only [Bool.false_eq_true, if_false]
  cases (dueSteps s).head? <;> rfl

theorem duePins_settled {s : State} (hl : ¬s.inputs.lrstN.changes = true) (he : ¬s.inputs.estopN.changes = true) :
    dueSteps s = dueRoom s ++ timedSteps s := by
  rw [dueSteps_eq, duePins, if_neg hl, if_neg he]
  rfl

/-- Settles O1: a step is the front command, or else the first of what is due, or else one millisecond. -/
theorem stepRunsFrontCommand : Obligations.StepRunsFrontCommand := by
  refine ⟨fun s c rest h => ?_, fun s hp hr => ?_, fun s hp hr => ?_⟩
  · unfold step
    rw [h]
  · unfold step nextDue tick
    rw [hp, hr]
    rfl
  intro settles sampled passed due
  have hstep := step_idle hp hr
  have hdue (i : Instr) : i ∈ timedSteps s ↔ due i := by
    rw [mem_timedSteps_iff]
    cases i with
    | staleExpiry k => exact and_congr_right fun _ => and_congr (isFresh_iff s k) (deadlineDue_iff s _)
    | lostExpiry k =>
      exact and_congr_right fun _ => (lostDue_iff s k).trans (and_congr_right fun _ => deadlineDue_iff s _)
    | holdTimeout k =>
      exact and_congr_right fun _ => (holdDue_iff s k).trans
        (exists_congr fun m => and_congr_right fun _ => deadlineDue_iff s _)
    | gripDeadline k =>
      exact and_congr_right fun _ => (loadDue_iff s k _).trans
        (exists_congr fun l => and_congr_right fun _ => and_congr_right fun _ => deadlineDue_iff s _)
    | releaseDeadline k =>
      exact and_congr_right fun _ => (loadDue_iff s k _).trans
        (exists_congr fun l => and_congr_right fun _ => and_congr_right fun _ => deadlineDue_iff s _)
    | arrivalTimeAbsent role =>
      refine ⟨fun ⟨hm, ho⟩ => ?_, fun ⟨hm, t, ht, ho⟩ => ⟨(mem_arrivalRoles ht).mpr hm, (arrivalOld_iff s role).mpr ⟨t, ht, ho⟩⟩⟩
      obtain ⟨t, ht, ho⟩ := (arrivalOld_iff s role).mp ho
      exact ⟨(mem_arrivalRoles ht).mp hm, t, ht, ho⟩
    | _ => exact Iff.rfl
  refine ⟨fun hl => ?_, fun hl he => ?_, fun hl he => ⟨fun hroom => ?_, fun hroom hd => ?_, fun hroom hd => ?_⟩⟩
  · rw [hstep, dueSteps_eq, duePins, if_pos (s.inputs.lrstN.changes_iff.mpr hl)]
    rfl
  · rw [hstep, dueSteps_eq, duePins, if_neg (mt s.inputs.lrstN.changes_iff.mp hl),
      if_pos (s.inputs.estopN.changes_iff.mpr he)]
    rfl
  · rw [hstep, duePins_settled (mt s.inputs.lrstN.changes_iff.mp hl) (mt s.inputs.estopN.changes_iff.mp he), dueRoom,
      if_pos hroom]
    rfl
  · rw [hstep, duePins_settled (mt s.inputs.lrstN.changes_iff.mp hl) (mt s.inputs.estopN.changes_iff.mp he), dueRoom,
      if_neg (by omega), List.nil_append]
    obtain ⟨i, hi⟩ := hd
    cases hs : timedSteps s with
    | nil => exact absurd ((hdue i).mpr hi) (by simp [hs])
    | cons j rest => exact ⟨j, (hdue j).mp (by simp [hs]), rfl⟩
  · rw [hstep, duePins_settled (mt s.inputs.lrstN.changes_iff.mp hl) (mt s.inputs.estopN.changes_iff.mp he), dueRoom,
      if_neg (by omega), List.eq_nil_iff_forall_not_mem.mpr fun i hi => hd i ((hdue i).mp hi)]
    simp only [List.append_nil, List.head?_nil, Option.elim_none, tick, hr, Bool.false_eq_true, if_false, Inputs.advance]
    cases s.inputs.coming <;> rfl

end Sys2Proof.Machine
end

section
/-! PROOFS. What the operations of the Tracker keep and add: STOP entries and notices only come, no held move begins, few
reports are made, and the site, the bays and the saws stay. And what they make of each carriage. -/

namespace Sys2Proof.Machine

/-- What every operation of the Tracker does beside changing carriages and fences: STOP entries and notices only come, no
slot is filled, and at most `n` reports are made. -/
structure State.Keeps (n : Nat) (s t : State) : Prop where
  stops : ∀ e ∈ s.port.stops, e ∈ t.port.stops
  notices : ∀ m ∈ s.management.notices, m ∈ t.management.notices
  noHeld : s.NoHeld → t.NoHeld
  reports : t.reports.length ≤ s.reports.length + n
  site : t.site = s.site
  bays : t.bays = s.bays
  saws : t.saws = s.saws
  stamp : t.stampCounter = s.stampCounter

/-- The same, and no notice of a drive fault comes. -/
structure State.Follows (n : Nat) (s t : State) : Prop extends State.Keeps n s t where
  faults : ∀ m ∈ t.management.notices, m.kind = .fault → m.cause = .driveFault → m ∈ s.management.notices

/-- What the site, the bays and the saws show, a halt leaves alone. -/
theorem State.Keeps.outside {n : Nat} {s t : State} (h : s.Keeps n t) : s.Outside t where
  lineClock := congrArg (fun y : Site => y.anchor.lineClock) h.site
  inputs := congrArg (fun y : Site => y.anchor.inputs) h.site
  lamps := congrArg Site.lamps h.site
  rail := congrArg Site.rail h.site
  carriageRecords := congrArg Site.carriageRecords h.site
  headRecords := congrArg Site.headRecords h.site
  cupLayout := congrArg Site.cupLayout h.site
  stampCounter := h.stamp
  bays := h.bays
  saws := h.saws
  nodeMap := congrArg Site.nodeMap h.site
  ownAddress := congrArg (fun y : Site => y.anchor.ownAddress) h.site
  receivers :=
    ⟨congrArg (fun y : Site => y.anchor.receiverU) h.site, congrArg (fun y : Site => y.anchor.receiverD) h.site⟩
  transmitters := ⟨congrArg (fun y : Site => y.anchor.transmitterU) h.site, congrArg Site.transmitterD h.site⟩
  uForward := congrArg Site.uForward h.site
  counters := ⟨congrArg Site.countersU h.site, congrArg Site.countersD h.site⟩
  requests := congrArg (fun y : Site => y.anchor.requests) h.site
  replies := congrArg (fun y : Site => y.anchor.replies) h.site
  pending := congrArg (fun y : Site => y.anchor.pending) h.site

theorem State.Keeps.trans {m n : Nat} {s t u : State} (h : s.Keeps m t) (h' : t.Keeps n u) : s.Keeps (m + n) u where
  stops e he := h'.stops e (h.stops e he)
  notices e he := h'.notices e (h.notices e he)
  noHeld hs := h'.noHeld (h.noHeld hs)
  reports := by have := h.reports; have := h'.reports; omega
  site := h'.site.trans h.site
  bays := h'.bays.trans h.bays
  saws := h'.saws.trans h.saws
  stamp := h'.stamp.trans h.stamp

theorem State.Keeps.mono {m n : Nat} {s t : State} (h : s.Keeps m t) (hn : m ≤ n) : s.Keeps n t :=
  { h with reports := h.reports.trans (by omega) }

/-- Every role keeps its address. -/
theorem State.Keeps.addressOf {n : Nat} {s t : State} (h : s.Keeps n t) (r : Role) : t.addressOf r = s.addressOf r := by
  have : t.port.nodeMap = s.port.nodeMap := congrArg Site.nodeMap h.site
  simp [State.addressOf, this]

theorem State.Keeps.record {n : Nat} {s t : State} (h : s.Keeps n t) (k : Nat) : t.record k = s.record k := by
  have : t.carriageRecords = s.carriageRecords := congrArg Site.carriageRecords h.site
  simp [State.record, this]

theorem State.Keeps.lineClock {n : Nat} {s t : State} (h : s.Keeps n t) : t.lineClock = s.lineClock :=
  h.outside.lineClock

theorem State.Keeps.railLength {n : Nat} {s t : State} (h : s.Keeps n t) : t.railLength = s.railLength :=
  railLength_of_site h.site

namespace State.Follows

theorem refl (s : State) : s.Follows 0 s :=
  ⟨⟨fun _ h => h, fun _ h => h, fun h => h, Nat.le_refl _, rfl, rfl, rfl, rfl⟩, fun _ h _ _ => h⟩

theorem trans {m n : Nat} {s t u : State} (h : s.Follows m t) (h' : t.Follows n u) : s.Follows (m + n) u :=
  ⟨h.toKeeps.trans h'.toKeeps, fun e he hk hc => h.faults e (h'.faults e he hk hc) hk hc⟩

theorem mono {m n : Nat} {s t : State} (h : s.Follows m t) (hn : m ≤ n) : s.Follows n t := ⟨h.toKeeps.mono hn, h.faults⟩

/-- A change of one carriage that fills no slot. -/
theorem modCarriage (s : State) (k : Nat) {g : Carriage → Carriage} (hg : ∀ c, c.slot = none → (g c).slot = none) :
    s.Follows 0 (s.modCarriage k g) :=
  ⟨⟨fun _ h => h, fun _ h => h, fun h => h.of_modify (State.modCarriage_carriages s k g) hg, Nat.le_refl _,
    modCarriage_site s k g, rfl, rfl, rfl⟩, fun _ h _ _ => h⟩

theorem modContext (s : State) (k : Nat) (g : Context → Context) : s.Follows 0 (s.modContext k g) :=
  modCarriage s k fun _ h => h

end State.Follows

theorem Management.mem_handed {m : Management} {b : Bool} {n e : Notice} (h : e ∈ m.notices) :
    e ∈ (m.handed b n).notices := by
  unfold Management.handed
  split
  · split
    · exact List.mem_append_left _ h
    · exact h
  · exact h

theorem Management.handed_only {m : Management} {b : Bool} {n e : Notice} (h : e ∈ (m.handed b n).notices) :
    e ∈ m.notices ∨ e = n := by
  unfold Management.handed at h
  split at h
  · split at h
    · simpa using h
    · exact .inl h
  · exact .inl h

/-- A notice handed while there is room stands in the queue, where the map holds a CONTROLLER (R166). -/
theorem Management.handed_mem {m : Management} {n : Notice} (h : m.notices.length < 16) :
    n ∈ (m.handed true n).notices := by
  simp [Management.handed, Config.noticeRoom, h]

/-- A notice handed to the Management Agent. -/
theorem hand_keeps (s : State) (a : NoticeKind) (b : Option Nat) (c : Reference) (d : Cause) (e : Detail) :
    s.Keeps 0 (hand s a b c d e) where
  stops m h := by rwa [hand_eq]
  notices m h := by
    rw [hand_eq]
    exact Management.mem_handed h
  noHeld h := h.of_carriages (hand_carriages ..)
  reports := by simp
  site := by simp
  bays := by rw [hand_eq]; rfl
  saws := by rw [hand_eq]; rfl
  stamp := by rw [hand_eq]; rfl

theorem hand_follows (s : State) {a : NoticeKind} (b : Option Nat) (c : Reference) {d : Cause} (e : Detail)
    (h : ¬(a = .fault ∧ d = .driveFault)) : s.Follows 0 (hand s a b c d e) where
  toKeeps := hand_keeps ..
  faults m hm hk hc := by
    rw [hand_eq] at hm
    rcases Management.handed_only hm with hm | rfl
    · exact hm
    · exact absurd ⟨hk, hc⟩ h

theorem handStateChange_follows (s : State) (k : Nat) (c : Cause) : s.Follows 0 (handStateChange s k c) :=
  hand_follows _ _ _ _ (by simp)

theorem foldl_follows {α : Type} {f : State → α → State} (h : ∀ (s : State) (a : α), s.Follows 0 (f s a)) (l : List α) (s : State) :
    s.Follows 0 (l.foldl f s) := by
  induction l generalizing s with
  | nil => exact .refl s
  | cons a l ih => exact (h s a).trans (ih _)

theorem testFences_follows (s : State) : s.Follows 0 (testFences s) := by
  refine foldl_follows (fun s i => ?_) _ s
  unfold testFence
  split
  · exact .refl s
  · rename_i f _
    split
    · have hw : s.Follows 0 (s.withFences (s.fences.set i { f with state := .on })) :=
        ⟨⟨fun _ h => h, fun _ h => h, fun h => h, Nat.le_refl _, rfl, rfl, rfl, rfl⟩, fun _ h _ _ => h⟩
      exact hw.trans (hand_follows _ _ _ _ (by simp))
    · exact .refl s

/-- A reservation changed makes at most two reports (R43). -/
theorem setReservation_follows (s : State) (k : Nat) (r : Option Reservation) : s.Follows 2 (setReservation s k r) := by
  cases hc : s.carriage k with
  | none =>
    have : setReservation s k r = s := by simp [setReservation, hc]
    rw [this]
    exact (State.Follows.refl s).mono (by omega)
  | some c =>
    have hm := State.Follows.modCarriage s k (g := (·.reserved r)) fun _ h => h
    rw [setReservation_eq hc]
    have hw : s.Follows 2 ((s.modCarriage k (·.reserved r)).withReports
        (s.reports ++ reservationReports k c.reservation r)) :=
      ⟨⟨hm.stops, hm.notices, hm.noHeld, by
          rw [State.withReports_reports, List.length_append]
          exact Nat.add_le_add_left (reservationReports_length_le ..) _, hm.site, hm.bays, hm.saws, hm.stamp⟩, hm.faults⟩
    exact hw.trans (testFences_follows _)

/-! STOP requests (R126). -/

@[simp] theorem PortUnit.withdrawn_stops (p : PortUnit) (w : Bool) (n : Nat) : (p.withdrawn w n).stops = p.stops := by
  unfold PortUnit.withdrawn
  split <;> rfl

theorem PortUnit.mem_entered_iff {p : PortUnit} {n : Nat} {r : StopReason} {e : StopEntry} :
    e ∈ (p.entered n r).stops ↔
      e ∈ p.stops ∨
        (∀ x ∈ p.stops, x.node ≠ n) ∧ e = ⟨n, r, .part, BitVec.ofNat 8 p.ownAddress, p.ownSeq⟩ := by
  unfold PortUnit.entered
  split
  · rename_i h
    obtain ⟨x, hx, hn⟩ := List.any_eq_true.mp h
    exact ⟨.inl, fun h => h.resolve_right fun ⟨hne, _⟩ => hne x hx (by simpa using hn)⟩
  · rename_i h
    have hne : ∀ x ∈ p.stops, x.node ≠ n := by simpa using h
    simp only [List.mem_append, List.mem_singleton]
    exact or_congr_right ⟨fun h => ⟨hne, h⟩, And.right⟩

theorem PortUnit.mem_stopFor {p : PortUnit} {r : StopReason} {w : Bool} {node : Option Nat} {e : StopEntry}
    (h : e ∈ p.stops) : e ∈ (p.stopFor r w node).stops := by
  cases node with
  | none => exact h
  | some n => exact (PortUnit.withdrawn_stops ..).symm ▸ PortUnit.mem_entered_iff.mpr (.inl h)

/-- An entry that stands after a STOP request stood before, or has the reason given. -/
theorem PortUnit.stopFor_only {p : PortUnit} {r : StopReason} {w : Bool} {node : Option Nat} {e : StopEntry}
    (h : e ∈ (p.stopFor r w node).stops) : e ∈ p.stops ∨ e.reason = r := by
  cases node with
  | none => exact .inl h
  | some n =>
    rw [PortUnit.stopFor, PortUnit.withdrawn_stops, PortUnit.mem_entered_iff] at h
    exact h.imp_right fun ⟨_, he⟩ => he ▸ rfl

/-- After a STOP request an entry stands for the node (R126). -/
theorem PortUnit.stopFor_entry (p : PortUnit) (r : StopReason) (w : Bool) (n : Nat) :
    ∃ e ∈ (p.stopFor r w (some n)).stops, e.node = n := by
  simp only [PortUnit.stopFor, PortUnit.withdrawn_stops, PortUnit.mem_entered_iff]
  by_cases h : ∃ x ∈ p.stops, x.node = n
  · obtain ⟨x, hx, hn⟩ := h
    exact ⟨x, .inl hx, hn⟩
  · exact ⟨_, .inr ⟨fun x hx hn => h ⟨x, hx, hn⟩, rfl⟩, rfl⟩

theorem requestStop_follows (s : State) (k : Nat) (a : Axis) (r : StopReason) : s.Follows 0 (requestStop s k a r) where
  stops e h := by
    rw [requestStop_eq]
    exact PortUnit.mem_stopFor h
  notices m h := by rwa [requestStop_eq]
  noHeld h := h.of_modify (requestStop_carriages s k a r) fun c hc => (Carriage.clearAxis_slot a c).trans hc
  reports := by simp
  site := by simp
  bays := by rw [requestStop_eq]; rfl
  saws := by rw [requestStop_eq]; rfl
  stamp := by rw [requestStop_eq]; rfl
  faults m h _ _ := by rwa [requestStop_eq] at h

theorem requestStops_follows (s : State) (k : Nat) (r : StopReason) : s.Follows 0 (requestStops s k r) :=
  (requestStop_follows ..).trans (requestStop_follows ..)

/-- STOP entries stand in `t` for the drives of carriage `k`: those that stood in `s`, or new ones of the reason given. -/
def State.Stops (s t : State) (k : Nat) (r : StopReason) : Prop :=
  ∀ axis node, s.addressOf (driveRole k axis) = some node →
    ∃ e ∈ t.port.stops, e.node = node ∧ (e ∈ s.port.stops ∨ e.reason = r)

theorem State.Stops.node {s t : State} {k : Nat} {r : StopReason} (h : s.Stops t k r) {axis : Axis} {node : Nat}
    (hn : s.addressOf (driveRole k axis) = some node) : ∃ e ∈ t.port.stops, e.node = node := by
  obtain ⟨e, he, hn, -⟩ := h axis node hn
  exact ⟨e, he, hn⟩

/-- What follows keeps the entries. -/
theorem State.Stops.then {n : Nat} {s t u : State} {k : Nat} {r : StopReason} (h : s.Stops t k r) (h' : t.Keeps n u) :
    s.Stops u k r := by
  intro axis node hn
  obtain ⟨e, he, hx⟩ := h axis node hn
  exact ⟨e, h'.stops e he, hx⟩

/-- What comes before makes no entry. -/
theorem State.Stops.after {n : Nat} {s t u : State} {k : Nat} {r : StopReason} (h : t.Stops u k r) (h' : s.Keeps n t)
    (hs : t.port.stops = s.port.stops) : s.Stops u k r := by
  intro axis node hn
  rw [← h'.addressOf] at hn
  rw [← hs]
  exact h axis node hn

theorem requestStop_entry {s : State} {k : Nat} {a : Axis} {node : Nat} (h : s.addressOf (driveRole k a) = some node)
    (r : StopReason) : ∃ e ∈ (requestStop s k a r).port.stops, e.node = node := by
  rw [requestStop_eq, h]
  exact PortUnit.stopFor_entry ..

theorem requestStop_only {s : State} {k : Nat} {a : Axis} {r : StopReason} {e : StopEntry}
    (h : e ∈ (requestStop s k a r).port.stops) : e ∈ s.port.stops ∨ e.reason = r := by
  rw [requestStop_eq] at h
  exact PortUnit.stopFor_only h

theorem requestStops_stops (s : State) (k : Nat) (r : StopReason) : s.Stops (requestStops s k r) k r := by
  intro axis node hn
  have honly (e : StopEntry) (he : e ∈ (requestStops s k r).port.stops) : e ∈ s.port.stops ∨ e.reason = r :=
    (requestStop_only he).elim requestStop_only .inr
  have hentry : ∃ e ∈ (requestStops s k r).port.stops, e.node = node := by
    cases axis with
    | x =>
      obtain ⟨e, he, h⟩ := requestStop_entry hn r
      exact ⟨e, (requestStop_follows _ k .z r).stops e he, h⟩
    | z =>
      rw [← (requestStop_follows s k .x r).addressOf] at hn
      exact requestStop_entry hn r
  obtain ⟨e, he, h⟩ := hentry
  exact ⟨e, he, h, honly e he⟩

/-! Halts (R18). -/

theorem endHeld_follows (s : State) (k : Nat) (c : Cause) : s.Follows 0 (endHeld s k c .absent) := by
  cases hc : s.carriage k with
  | none =>
    rw [endHeld_empty (by simp [hc])]
    exact .refl s
  | some d =>
    rw [endHeld_eq hc]
    refine State.Follows.trans (m := 0) ?_ (.modCarriage _ k fun _ _ => rfl)
    cases d.slot with
    | none => exact .refl s
    | some m => exact hand_follows _ _ _ _ (by simp)

theorem raiseFlag_keeps (s : State) (k : Nat) (f : Flag) : s.Keeps 0 (raiseFlag s k f) := by
  unfold raiseFlag
  split
  · exact (State.Follows.refl s).toKeeps
  · split
    · exact (State.Follows.refl s).toKeeps
    · exact (State.Follows.modContext s k _).toKeeps.trans (hand_keeps ..)

theorem raiseFlag_follows (s : State) (k : Nat) {f : Flag} (hf : f ≠ .driveFault) : s.Follows 0 (raiseFlag s k f) := by
  unfold raiseFlag
  split
  · exact .refl s
  · split
    · exact .refl s
    · exact (State.Follows.modContext s k _).trans (hand_follows _ _ _ _ (by cases f <;> simp_all [Flag.cause]))

@[simp] theorem raiseFlag_stops (s : State) (k : Nat) (f : Flag) : (raiseFlag s k f).port.stops = s.port.stops := by
  unfold raiseFlag
  split
  · rfl
  · split
    · rfl
    · rw [hand_eq]
      rfl

theorem haltCarriage_none_follows (s : State) (k : Nat) (r : StopReason) : s.Follows 0 (haltCarriage s k r none) := by
  unfold haltCarriage
  dsimp only
  split
  · exact .refl s
  · exact (((endHeld_follows ..).trans (.modContext _ k _)).trans (requestStops_follows ..)).trans
      (handStateChange_follows ..)
  · exact .refl s
  · exact requestStops_follows ..
  · exact requestStops_follows ..
  · exact requestStops_follows ..

theorem haltCarriage_keeps (s : State) (k : Nat) (r : StopReason) (f : Option Flag) : s.Keeps 0 (haltCarriage s k r f) := by
  cases f with
  | none => exact (haltCarriage_none_follows ..).toKeeps
  | some f => exact (raiseFlag_keeps s k f).trans (haltCarriage_none_follows ..).toKeeps

theorem haltCarriage_some_follows (s : State) (k : Nat) (r : StopReason) {f : Flag} (hf : f ≠ .driveFault) :
    s.Follows 0 (haltCarriage s k r (some f)) := (raiseFlag_follows s k hf).trans (haltCarriage_none_follows ..)

theorem haltNeighbours_follows (s : State) (js : List Nat) : s.Follows 0 (haltNeighbours s js) :=
  foldl_follows (fun s j => haltCarriage_none_follows s j .excursion) js s

/-- A halt requests a STOP of both drives, but of a LOST carriage (R18). -/
theorem haltCarriage_stops {s : State} {k : Nat} {c : Carriage} (hc : s.carriage k = some c)
    (hl : c.ctx.runState ≠ .lost) (r : StopReason) : s.Stops (haltCarriage s k r none) k r := by
  by_cases ha : c.ctx.runState = .active
  · rw [haltCarriage_active_eq hc ha]
    have hb : s.Follows 0 ((tellEnd s k c.slot r.endCause).modCarriage k fun c => c.unheld.slowed) := by
      refine State.Follows.trans (m := 0) ?_ (.modCarriage _ k fun _ _ => rfl)
      cases c.slot with
      | none => exact .refl s
      | some m => exact hand_follows _ _ _ _ (by simp)
    have hp : ((tellEnd s k c.slot r.endCause).modCarriage k fun c => c.unheld.slowed).port.stops = s.port.stops := by
      cases c.slot with
      | none => rfl
      | some m =>
        simp only [tellEnd, hand_eq]
        rfl
    exact ((requestStops_stops _ _ _).after hb.toKeeps hp).then (hand_keeps ..)
  · rw [haltCarriage_still (runState_eq hc) ha hl]
    exact requestStops_stops _ _ _

/-- A halt with a flag requests the same STOPs. -/
theorem haltCarriage_some_stops {s : State} {k : Nat} {c : Carriage} (hc : s.carriage k = some c)
    (hl : c.ctx.runState ≠ .lost) (r : StopReason) (f : Flag) : s.Stops (haltCarriage s k r (some f)) k r := by
  have hf : (raiseFlag s k f).carriage k = some (c.flagged f) := by
    rw [State.carriage_modify_self (raiseFlag_carriages ..), hc]
    rfl
  exact (haltCarriage_stops hf hl r).after (raiseFlag_keeps ..) (raiseFlag_stops ..)

/-- A halt of a halted carriage changes nothing more of it. -/
theorem Carriage.halted_halted (c : Carriage) : c.halted.halted = c.halted := by
  cases h : c.ctx.runState <;> simp [Carriage.halted, h, Carriage.unheld, Carriage.slowed, Carriage.cleared]

/-- Carriages that are halted for closeness, and all others, which stay (R45). -/
theorem haltNeighbours_carriage (s : State) (js : List Nat) (j : Nat) :
    (haltNeighbours s js).carriage j = if j ∈ js then (s.carriage j).map (·.halted) else s.carriage j := by
  induction js generalizing s with
  | nil => simp [haltNeighbours]
  | cons i js ih =>
    have hs : haltNeighbours s (i :: js) = haltNeighbours (haltCarriage s i .excursion none) js := rfl
    rw [hs, ih]
    by_cases hi : j = i
    · subst hi
      rw [State.carriage_modify_self (haltCarriage_none_carriages ..)]
      cases s.carriage j <;> simp [Carriage.halted_halted]
    · rw [State.carriage_modify_ne (haltCarriage_none_carriages ..) hi]
      simp [hi]

/-- STOPs stand for the drives of every neighbour that is halted, but of a LOST one. -/
theorem haltNeighbours_stops {s : State} {js : List Nat} {j : Nat} (hj : j ∈ js) (hn : s.runState j ≠ some .lost)
    (hi : s.runState j ≠ none) {axis : Axis} {node : Nat} (h : s.addressOf (driveRole j axis) = some node) :
    ∃ e ∈ (haltNeighbours s js).port.stops, e.node = node := by
  induction js generalizing s with
  | nil => simp at hj
  | cons i js ih =>
    have hs : haltNeighbours s (i :: js) = haltNeighbours (haltCarriage s i .excursion none) js := rfl
    have hk := haltCarriage_keeps s i .excursion none
    rw [hs]
    by_cases hij : j = i
    · subst hij
      obtain ⟨c, hc⟩ : ∃ c, s.carriage j = some c := by
        cases hc : s.carriage j with
        | none => exact absurd (by simp [State.runState, hc]) hi
        | some c => exact ⟨c, rfl⟩
      have hl : c.ctx.runState ≠ .lost := fun hx => hn (hx ▸ runState_eq hc)
      exact ((haltCarriage_stops hc hl .excursion).then (haltNeighbours_follows _ js).toKeeps).node h
    · have hx := State.carriage_modify_ne (haltCarriage_none_carriages s i .excursion) hij
      have hr : (haltCarriage s i .excursion none).runState j = s.runState j := by simp [State.runState, hx]
      exact ih (by simpa [hij] using hj) (hr ▸ hn) (hr ▸ hi) (hk.addressOf _ ▸ h)

/-! The updates of a reservation (R44 to R47, R50). -/

theorem growReservation_follows (s : State) (k : Nat) (a b : Interval) (r : Reservation) :
    s.Follows 2 (growReservation s k a b r) := by
  have hs := setReservation_follows s k (some r)
  unfold growReservation
  dsimp only
  split
  · exact hs
  · exact (hs.trans (haltCarriage_some_follows _ k .excursion (by simp))).trans (haltNeighbours_follows ..)

theorem followCandidate_follows (s : State) (k : Nat) : s.Follows 2 (followCandidate s k) := by
  unfold followCandidate
  split
  · split
    · exact setReservation_follows ..
    · exact growReservation_follows ..
  · exact setReservation_follows ..
  · exact (State.Follows.refl s).mono (by omega)

theorem followStale_follows (s : State) (k : Nat) : s.Follows 2 (followStale s k) := by
  unfold followStale
  split
  · split
    · exact (State.Follows.refl s).mono (by omega)
    · exact growReservation_follows ..
  · exact (State.Follows.refl s).mono (by omega)

theorem updateReservation_follows (s : State) (k : Nat) : s.Follows 2 (updateReservation s k) := by
  unfold updateReservation
  split
  · split
    · split
      · exact followCandidate_follows ..
      · exact followStale_follows ..
    · exact (State.Follows.refl s).mono (by omega)
  · exact (State.Follows.refl s).mono (by omega)

theorem updateFor_follows (s : State) (k : Nat) (axis : Axis) : s.Follows 2 (updateFor s k axis) := by
  cases axis with
  | x => exact updateReservation_follows ..
  | z => exact (State.Follows.refl s).mono (by omega)

theorem unfreeze_follows (s : State) (k : Nat) (e : Interval) : s.Follows 2 (unfreeze s k e) := by
  have hs := setReservation_follows s k (some ⟨e, .plain⟩)
  unfold unfreeze
  dsimp only
  split
  · exact hs
  · split
    · exact hs
    · exact (hs.trans (haltCarriage_some_follows _ k .excursion (by simp))).trans (haltNeighbours_follows ..)

/-! The run-state rules (R13, R15, R17, R19, R20). -/

theorem unbiddenMotion_follows (s : State) (k : Nat) : s.Follows 0 (unbiddenMotion s k) := by
  unfold unbiddenMotion
  split
  · split
    · split
      · split
        · exact requestStops_follows ..
        · exact (raiseFlag_follows s k (by simp)).trans (requestStops_follows ..)
      · exact requestStops_follows ..
    · exact ((State.Follows.modContext s k _).trans (requestStops_follows ..)).trans (handStateChange_follows ..)
  · exact .refl s

theorem recover_follows (s : State) (k : Nat) (f : ReportFrom) : s.Follows 2 (recover s k f) := by
  unfold recover
  split
  · have ht := ((State.Follows.modContext s k fun c => { c with fresh := true, runState := .halted }).trans
      (handStateChange_follows _ k .halted)).trans (unfreeze_follows _ k ‹_›)
    dsimp only
    split
    · split
      · exact ht.trans (unbiddenMotion_follows ..)
      · exact ht
    · exact ht
  · exact (State.Follows.refl s).mono (by omega)

theorem returnToFresh_follows (s : State) (k : Nat) (f : ReportFrom) : s.Follows 2 (returnToFresh s k f) := by
  unfold returnToFresh
  split
  · split
    · have hs := State.Follows.modContext s k fun x => { x with fresh := true }
      dsimp only
      split
      · exact hs.mono (by omega)
      · exact hs.trans (followCandidate_follows ..)
    · exact (State.Follows.refl s).mono (by omega)
  · exact (State.Follows.refl s).mono (by omega)

theorem markStill_follows (s : State) (k : Nat) (axis : Axis) (v : Int) : s.Follows 0 (markStill s k axis v) := by
  cases hr : s.record k with
  | none =>
    have : markStill s k axis v = s := by simp [markStill, hr]
    rw [this]
    exact .refl s
  | some r =>
    have hm : s.Follows 0 (s.modCarriage k (·.marked axis (decide (v.natAbs ≤ r.vStill)))) :=
      .modCarriage s k fun c h => by cases axis <;> exact h
    cases hc : s.carriage k with
    | none => exact markStill_none hr hc axis v ▸ hm
    | some c =>
      rw [markStill_eq hr hc]
      split
      · exact (hm.trans (.modContext _ k _)).trans (handStateChange_follows ..)
      · exact hm

theorem applyVelocity_follows (s : State) (k : Nat) (b : RunState) (f : ReportFrom) :
    s.Follows 0 (applyVelocity s k b f) := by
  unfold applyVelocity
  split
  · exact .refl s
  · split
    · exact markStill_follows ..
    · split
      · exact .refl s
      · split
        · exact unbiddenMotion_follows ..
        · exact .refl s
    · exact .refl s

theorem firstData_follows (s : State) (k : Nat) : s.Follows 2 (firstData s k) := by
  by_cases h : ∃ c r x, s.carriage k = some c ∧ s.record k = some r ∧ c.ctx.lastX = some x
  · obtain ⟨c, r, x, hc, hr, hx⟩ := h
    rw [firstData_eq hc hr hx rfl rfl rfl]
    refine State.Follows.trans (m := 2) (n := 0) ?_ (haltNeighbours_follows ..)
    refine State.Follows.trans (m := 2) (n := 0) ?_ (handStateChange_follows ..)
    have hs (p : Nat) (env : Interval) (b : Bool) : s.Follows 2 (firstSet s k r p env b) :=
      (setReservation_follows ..).trans
        (.modCarriage _ k (g := (·.firstSeen r p b s.inputs.emergency)) fun _ hn => hn)
    split
    · exact (hs ..).trans (requestStops_follows ..)
    · exact hs ..
  · rw [firstData_none fun c r x hc hr hx => h ⟨c, r, x, hc, hr, hx⟩]
    exact (State.Follows.refl s).mono (by omega)

theorem runStateRules_follows (s : State) (k : Nat) (b : RunState) (f : ReportFrom) :
    s.Follows 2 (runStateRules s k b f) := by
  unfold runStateRules
  split
  · split
    · split
      · exact firstData_follows ..
      · exact (State.Follows.refl s).mono (by omega)
    · split
      · exact recover_follows ..
      · exact (State.Follows.refl s).mono (by omega)
    · exact (returnToFresh_follows ..).trans (applyVelocity_follows ..)
  · exact (State.Follows.refl s).mono (by omega)

theorem report_follows (s : State) (r : Report) : s.Follows 1 (s.report r) where
  stops _ h := h
  notices _ h := h
  noHeld h := h
  reports := by simp [State.report]
  site := rfl
  bays := rfl
  saws := rfl
  stamp := rfl
  faults _ h _ _ := h

theorem stateReports_follows (s : State) (k : Nat) (axis : Axis) : s.Follows 1 (stateReports s k axis) := by
  unfold stateReports
  split
  · split
    · split
      · exact report_follows ..
      · exact (State.Follows.refl s).mono (by omega)
    · split
      · exact (State.Follows.refl s).mono (by omega)
      · split
        · exact report_follows ..
        · exact (State.Follows.refl s).mono (by omega)
  · exact (State.Follows.refl s).mono (by omega)

end Sys2Proof.Machine
end

section
/-! PROOFS. A report from port D: the frame read by its blocks, then passed up (R146, R148); and SENSE_HEAD in any run state. -/

namespace Sys2Proof.Machine

/-- The Port Unit while a frame from port D is read: port D's receiver is BETWEEN (R139). -/
def PortUnit.between (p : PortUnit) : PortUnit := { p with receiverD := .between }

/-- The state in which a frame from port D is read. -/
def State.between (s : State) : State := s.withPort s.port.between

@[simp] theorem State.between_lineClock (s : State) : s.between.lineClock = s.lineClock := rfl

/-- The receiver's state is BETWEEN once a frame has been passed up, whatever it was before. -/
theorem State.passedUp_of_between {s t : State} (h : t = s.between) (f : Frame) : t.passedUp f = s.passedUp f := by
  rw [h]
  rfl

theorem hand_between (s : State) (a : NoticeKind) (b : Option Nat) (c : Reference) (d : Cause) (e : Detail) :
    hand s.between a b c d e = (hand s a b c d e).between := by
  simp only [hand_eq]
  rfl

theorem PortUnit.between_entered (p : PortUnit) (n : Nat) (r : StopReason) :
    p.between.entered n r = (p.entered n r).between := by
  rw [PortUnit.entered, PortUnit.entered, apply_ite PortUnit.between]
  rfl

theorem PortUnit.between_withdrawn (p : PortUnit) (w : Bool) (n : Nat) :
    p.between.withdrawn w n = (p.withdrawn w n).between := by
  rw [PortUnit.withdrawn, PortUnit.withdrawn, apply_ite PortUnit.between]
  rfl

/-- A STOP request does not see the receiver of port D. -/
theorem PortUnit.between_stopFor (p : PortUnit) (r : StopReason) (w : Bool) (node : Option Nat) :
    p.between.stopFor r w node = (p.stopFor r w node).between := by
  cases node with
  | none => rfl
  | some n => exact (congrArg (PortUnit.withdrawn · w n) (p.between_entered n r)).trans (PortUnit.between_withdrawn ..)

theorem requestStop_between (s : State) (k : Nat) (a : Axis) (r : StopReason) :
    requestStop s.between k a r = (requestStop s k a r).between := by
  simp only [requestStop_eq]
  exact congrArg (State.withPort (s.between.modCarriage k (·.clearAxis a))) (PortUnit.between_stopFor ..)

theorem testFences_between (s : State) : testFences s.between = (testFences s).between := by
  simp only [testFences_eq]
  rfl

@[simp] theorem State.passedUp_carriages (s : State) (f : Frame) : (s.passedUp f).carriages = s.carriages := by
  unfold State.passedUp
  split <;> rfl

@[simp] theorem State.passedUp_stops (s : State) (f : Frame) : (s.passedUp f).port.stops = s.port.stops := by
  unfold State.passedUp
  split <;> rfl

@[simp] theorem State.passedUp_management (s : State) (f : Frame) : (s.passedUp f).management = s.management := by
  unfold State.passedUp
  split <;> rfl

@[simp] theorem State.passedUp_reports (s : State) (f : Frame) : (s.passedUp f).reports = s.reports := by
  unfold State.passedUp
  split <;> rfl

@[simp] theorem State.passedUp_saws (s : State) (f : Frame) : (s.passedUp f).saws = s.saws := by
  unfold State.passedUp
  split <;> rfl

@[simp] theorem State.passedUp_bays (s : State) (f : Frame) : (s.passedUp f).bays = s.bays := by
  unfold State.passedUp
  split <;> rfl

@[simp] theorem State.passedUp_carriage (s : State) (f : Frame) (k : Nat) : (s.passedUp f).carriage k = s.carriage k :=
  State.carriage_congr (State.passedUp_carriages s f) k

theorem State.passedUp_withReports (s : State) (f : Frame) (rs : List Report) :
    (s.passedUp f).withReports rs = (s.withReports rs).passedUp f :=
  apply_ite (State.withReports · rs) _ _ _

/-- A report from port D, its frame for another node: read, passed up and counted (R142, R146, R148). -/
theorem receiveD_read {s t : State} {f : Frame} (ho : ¬s.Own f.dst) (hk : Kind.isManagement f.kind = false)
    (hp : f.payload.length ≤ 48) (ht : readReport s.between f = t) (hs : t.site = s.between.site) :
    receiveD s f = t.passedUp f := by
  have hown : s.between.isOwn f.dst = false := Bool.eq_false_iff.mpr (mt (isOwn_iff s f.dst).mp ho)
  have hrec : t.port.receiverD = .between := congrArg (fun y : Site => y.anchor.receiverD) hs
  have hroute : routeD (setReceiver s .d .between) f = passUp t f := by
    show (if (s.between.isOwn f.dst || Kind.isManagement f.kind) = true then _ else passUp (readReport s.between f) f) = _
    rw [hown, hk, ht]
    rfl
  rw [receiveD_eq hp (t := (passUp t f).1) (r := (passUp t f).2) hroute]
  unfold passUp State.passedUp
  rw [show Config.forwardRoom = 8 from rfl]
  split
  · show _ = State.tookD (State.sentUp t f) .good
    simp only [State.tookD, State.sentUp, ← hrec]
    rfl
  · simp only [State.tookD, ← hrec]
    rfl

/-- Addresses whose role is a drive of a carriage, by axis. -/
theorem readStateFrame_drive {s : State} {src : Byte} {k : Nat} {axis : Axis} {payload : List Byte} {rep : StateReport}
    (hs : s.roleOf src.toNat = some (driveRole k axis)) (hp : parseState payload = some rep) (dst kind seq : Byte) :
    readStateFrame s ⟨dst, src, kind, seq, payload⟩ = readState s k axis rep := by
  cases axis <;> simp [readStateFrame, hp, hs, driveRole]

theorem parseState_length {payload : List Byte} {rep : StateReport} (h : parseState payload = some rep) :
    payload.length = 8 := by
  unfold parseState at h
  split at h
  · assumption
  · cases h

theorem parseSenseHead_length {payload : List Byte} {rep : HeadReport} (h : parseSenseHead payload = some rep) :
    payload.length = 7 := by
  unfold parseSenseHead at h
  split at h
  · assumption
  · cases h

/-- A command while RESET_N is high: its effect, with its reports acted on. -/
theorem live_running {s t : State} (h : s.Running) {g : State → State} (hg : g s = t) :
    live s g = .next (finish t) := by
  simp only [live, h.running, Bool.false_eq_true, if_false, hg]

/-- A STATE of an installed carriage's drive: read, passed up, its reports acted on. -/
theorem exec_state {s : State} (h : s.Running) {dst src seq : Byte} {payload : List Byte} {rep : StateReport} {k : Nat}
    {axis : Axis} (ho : ¬s.Own dst) (hp : parseState payload = some rep)
    (hs : s.roleOf src.toNat = some (driveRole k axis)) :
    exec (.state dst src seq payload) s =
      .next (finish ((readState s.between k axis rep).passedUp ⟨dst, src, 0x20, seq, payload⟩)) := by
  have hr : receiveD s ⟨dst, src, Kind.state, seq, payload⟩ = _ :=
    receiveD_read ho rfl (by simp [parseState_length hp])
      (t := readState s.between k axis rep) (readStateFrame_drive (s := s.between) hs hp ..) (readState_site ..)
  exact live_running (g := fun s => receiveD s ⟨dst, src, Kind.state, seq, payload⟩) h hr

/-- A SENSE_HEAD of an installed carriage's head: read, passed up, its reports acted on. -/
theorem exec_senseHead {s : State} (h : s.Running) {dst src seq : Byte} {payload : List Byte} {rep : HeadReport} {k : Nat}
    {c : Carriage} (ho : ¬s.Own dst) (hp : parseSenseHead payload = some rep)
    (hs : s.roleOf src.toNat = some (.head k)) (hc : s.carriage k = some c) :
    exec (.senseHead dst src seq payload) s =
      .next (finish ((readHead (readHeadArrival s.between k) k rep).passedUp ⟨dst, src, 0x40, seq, payload⟩)) := by
  have hread : readReport s.between ⟨dst, src, Kind.senseHead, seq, payload⟩ =
      readHead (readHeadArrival s.between k) k rep := by
    have hs' : s.between.roleOf src.toNat = some (.head k) := hs
    have hc' : s.between.carriage k = some c := hc
    show readSenseHead s.between _ = _
    simp only [readSenseHead, hs', hp, hc']
  have hr : receiveD s ⟨dst, src, Kind.senseHead, seq, payload⟩ = _ :=
    receiveD_read ho rfl (by simp [parseSenseHead_length hp]) hread (by simp)
  exact live_running (g := fun s => receiveD s ⟨dst, src, Kind.senseHead, seq, payload⟩) h hr

/-- A read that leaves no report ends the step. -/
theorem finish_passedUp {t : State} (h : t.reports = []) (f : Frame) : finish (t.passedUp f) = t.passedUp f :=
  finish_of_settled ((State.passedUp_reports t f).trans h)

/-- A read that leaves no held move ends the step with its reports dropped. -/
theorem finish_passedUp_noHeld {t : State} (h : t.NoHeld) (hr : t.reports.length ≤ 64) (f : Frame) :
    finish (t.passedUp f) = (t.withReports []).passedUp f := by
  rw [finish_noHeld (h.of_carriages (State.passedUp_carriages t f)) (by simpa using hr), State.passedUp_withReports]

/-! SENSE_HEAD (R88, R98, R99). -/

/-- The module counts that a SENSE_HEAD leaves (R88). -/
theorem readHead_empty {s : State} {k : Nat} {c : Carriage} (hc : s.carriage k = some c) (hl : c.load = none)
    (rep : HeadReport) :
    readHead s k rep =
      s.modCarriage k fun c => { c with modulesReported := rep.modules, modulesInForce := rep.modules } := by
  have hm : setModules s k rep.modules =
      s.modCarriage k fun c => { c with modulesReported := rep.modules, modulesInForce := rep.modules } :=
    modCarriage_congr fun d hd => by
      cases hd.symm.trans hc
      simp [hl]
  have hn : (s.modCarriage k fun c => { c with modulesReported := rep.modules, modulesInForce := rep.modules }).load k =
      none := by
    simp [State.load, hc, hl]
  unfold readHead
  dsimp only
  rw [hm, hn]

/-- With a load, the reported count alone is set before the Head Unit goes on (R88). -/
theorem setModules_loaded {s : State} {k : Nat} {c : Carriage} {l : LoadRecord} (hc : s.carriage k = some c)
    (hl : c.load = some l) (n : Nat) : setModules s k n = s.modCarriage k fun c => { c with modulesReported := n } :=
  modCarriage_congr fun d hd => by
    cases hd.symm.trans hc
    simp [hl]

/-- In GRIPPING, vacuum on every commanded cup begins the sampling, and less leaves the load (R98, R99). -/
theorem readHead_gripping {s : State} {k : Nat} {c : Carriage} {l : LoadRecord} {h : HeadRecord}
    (hc : s.carriage k = some c) (hl : c.load = some l) (hh : s.head k = some h) (hph : l.phase = .gripping)
    (rep : HeadReport) :
    readHead s k rep =
      if rep.vacuum &&& l.mask = l.mask then
        setLoad (s.modCarriage k fun c => { c with modulesReported := rep.modules }) k
          { l with phase := .checking, sum := 0, count := 0, deadline := none }
      else s.modCarriage k fun c => { c with modulesReported := rep.modules } := by
  have hn : (s.modCarriage k fun c => { c with modulesReported := rep.modules }).load k = some l := by
    simp [State.load, hc, hl]
  have hx : (s.modCarriage k fun c => { c with modulesReported := rep.modules }).head k = some h := hh
  unfold readHead
  dsimp only
  rw [setModules_loaded hc hl, hn, hx]
  dsimp only
  rw [hph]

/-- In RELEASING, vacuum on any commanded cup leaves the load (R98). -/
theorem readHead_releasing {s : State} {k : Nat} {c : Carriage} {l : LoadRecord} {h : HeadRecord}
    (hc : s.carriage k = some c) (hl : c.load = some l) (hh : s.head k = some h) (hph : l.phase = .releasing)
    (rep : HeadReport) (hv : rep.vacuum &&& l.mask ≠ 0) :
    readHead s k rep = s.modCarriage k fun c => { c with modulesReported := rep.modules } := by
  have hn : (s.modCarriage k fun c => { c with modulesReported := rep.modules }).load k = some l := by
    simp [State.load, hc, hl]
  have hx : (s.modCarriage k fun c => { c with modulesReported := rep.modules }).head k = some h := hh
  unfold readHead
  dsimp only
  rw [setModules_loaded hc hl, hn, hx]
  dsimp only
  rw [hph]
  exact if_neg hv

/-- Settles O27: the arrival, then the Head Unit's reading by load and phase. -/
theorem senseHeadRead : Obligations.SenseHeadRead := by
  intro s k dst src seq payload rep c h ho hs hp hc ha read
  have harr : readHeadArrival s.between k = s.between.modContext k fun x => x.arrived s.lineClock .head :=
    readHeadArrival_only (s := s.between) hc ha
  have hd : (s.between.modContext k fun x => x.arrived s.lineClock .head).carriage k =
      some { c with ctx := c.ctx.arrived s.lineClock .head } := modCarriage_same hc _
  -- What is read in one change of the carriage is what the statement says.
  have hread {load : Option LoadRecord} {n : Nat} (g : Carriage → Carriage)
      (hx : readHead (s.between.modContext k fun x => x.arrived s.lineClock .head) k rep = s.between.modCarriage k g)
      (hg : g c =
        { c with
          load := load
          modulesReported := rep.modules
          modulesInForce := n
          ctx := { c.ctx with arrivalHead := some s.lineClock, inSetHead := true } }) : read load n := by
    refine (exec_senseHead h ho hp hs hc).trans ?_
    rw [harr, hx, finish_passedUp (t := s.between.modCarriage k g) h.settled]
    refine congrArg Host.Outcome.next (State.passedUp_of_between ?_ _)
    exact modCarriage_congr (s := s.between) fun d hd => by
      cases hd.symm.trans hc
      exact hg
  refine ⟨fun hl => hread _ ((readHead_empty hd hl rep).trans (modCarriage_modCarriage ..)) (by simp [hl, Context.arrived]),
    fun l hr hl hh => ?_⟩
  let counted (c : Carriage) : Carriage :=
    { c with modulesReported := rep.modules, ctx := c.ctx.arrived s.lineClock .head }
  let checking : LoadRecord := { l with phase := .checking, sum := 0, count := 0, deadline := none }
  refine ⟨fun hph hv => hread (fun c => { counted c with load := some checking }) ?_ ?_,
    fun hph hv => hread counted ?_ ?_, fun hph hv => hread counted ?_ ?_⟩
  · rw [readHead_gripping hd hl (h := hr) hh hph, if_pos hv, setLoad, State.modContext, modCarriage_modCarriage]
    exact modCarriage_modCarriage ..
  · simp [counted, checking, Context.arrived]
  · rw [readHead_gripping hd hl (h := hr) hh hph, if_neg hv]
    exact modCarriage_modCarriage ..
  · simp [counted, Context.arrived, hl]
  · rw [readHead_releasing hd hl (h := hr) hh hph rep hv]
    exact modCarriage_modCarriage ..
  · simp [counted, Context.arrived, hl]

end Sys2Proof.Machine
end

section
/-! PROOFS. The Span Table's questions, which a change of the carriage itself does not touch; the candidate of a reservation
and what its update makes of each carriage (R44 to R47). -/

namespace Sys2Proof.Machine

/-! Neighbours and closeness (R34, R45). -/

/-- A carriage is no neighbour of its own. -/
theorem ne_of_mem_neighbours {s : State} {j k : Nat} (h : j ∈ s.neighbours k) : j ≠ k := by
  rintro rfl
  unfold State.neighbours at h
  rcases List.mem_append.mp h with h | h <;> split at h <;> simp at h
  omega

/-- A neighbour is installed, where the carriage is. -/
theorem lt_of_mem_neighbours {s : State} {j k : Nat} (hk : k < s.carriages.length) (h : j ∈ s.neighbours k) :
    j < s.carriages.length := by
  unfold State.neighbours at h
  rcases List.mem_append.mp h with h | h <;> split at h <;> simp at h <;> omega

theorem mem_closeNeighbours_iff {s : State} {j k : Nat} {span : Interval} :
    j ∈ s.closeNeighbours k span ↔ j ∈ s.neighbours k ∧ s.apartFrom k j span = false := by
  simp [State.closeNeighbours]

theorem mem_offended_iff {s : State} {j k : Nat} {parts : List Interval} :
    j ∈ s.offended k parts ↔ j ∈ s.neighbours k ∧ ∃ p ∈ parts, s.apartFrom k j p = false := by
  simp [State.offended]

section
variable {s t : State} {k : Nat} {g : Carriage → Carriage} (hc : t.carriages = s.carriages.modify k g)
  (hr : t.rail = s.rail)
include hc

theorem neighbours_of_modify (j : Nat) : t.neighbours j = s.neighbours j := by
  simp [State.neighbours, hc]

include hr

/-- What carriage `k` is does not tell how close its neighbours are. -/
theorem apartFrom_of_modify {j : Nat} (hj : j ≠ k) (span : Interval) : t.apartFrom k j span = s.apartFrom k j span := by
  have hs : t.span j = s.span j := by simp [State.span, State.carriage_modify_ne hc hj]
  have hg : t.gap = s.gap := by simp [State.gap, hr]
  simp [State.apartFrom, hs, hg]

theorem closeNeighbours_of_modify (span : Interval) : t.closeNeighbours k span = s.closeNeighbours k span := by
  rw [State.closeNeighbours, State.closeNeighbours, neighbours_of_modify hc]
  exact List.filter_congr fun j hj => by rw [apartFrom_of_modify hc hr (ne_of_mem_neighbours hj)]

theorem offended_of_modify (parts : List Interval) : t.offended k parts = s.offended k parts := by
  rw [State.offended, State.offended, neighbours_of_modify hc]
  exact List.filter_congr fun j hj => by simp only [apartFrom_of_modify hc hr (ne_of_mem_neighbours hj)]

end

/-! Fences (R34, R84). -/

/-- The test of the fences makes none stand or fall. -/
theorem testFences_standing (s : State) :
    (testFences s).fences.map (fun f => (f.span, f.standing)) = s.fences.map fun f => (f.span, f.standing) := by
  refine foldl_keeps (fun s => s.fences.map fun f => (f.span, f.standing)) testFence (fun s i => ?_) _ s
  unfold testFence
  split
  · rfl
  · rename_i f hf
    split
    · rename_i hp
      have hfs : ((s.fences.set i { f with state := .on }).map fun f => (f.span, f.standing)) =
          s.fences.map fun f => (f.span, f.standing) := by
        obtain ⟨hi, he⟩ := List.getElem?_eq_some_iff.mp hf
        rw [List.map_set]
        have : ((s.fences.map fun f => (f.span, f.standing))[i]'(by simpa using hi)) = (f.span, true) := by
          simp [he, Fence.standing, hp.1]
        exact this ▸ List.set_getElem_self _
      rw [hand_eq]
      exact hfs
    · rfl

/-- A span is near a fence by the fences' spans and whether they stand. -/
theorem nearFence_congr {s t : State} (hr : t.rail = s.rail)
    (hf : t.fences.map (fun f => (f.span, f.standing)) = s.fences.map fun f => (f.span, f.standing))
    (span occ : Interval) : t.nearFence span occ = s.nearFence span occ := by
  have hg : t.gap = s.gap := by simp [State.gap, hr]
  have hl : t.railLength = s.railLength := by simp [State.railLength, hr]
  have key (u : State) : u.nearFence span occ =
      (u.fences.map fun f => (f.span, f.standing)).any fun p =>
        p.2 && !(clampSpan u.railLength p.1.lo p.1.hi).intersects occ &&
          !span.apart u.gap (clampSpan u.railLength p.1.lo p.1.hi) := by
    rw [List.any_map]
    rfl
  rw [key, key, hf, hg, hl]

/-- The occupancy of a carriage is that of its last X position (R32). -/
theorem currentOccupancy_eq {s : State} {k : Nat} {c : Carriage} {r : CarriageRecord} {x : AxisReport}
    (hc : s.carriage k = some c) (hr : s.record k = some r) (hx : c.ctx.lastX = some x) :
    s.currentOccupancy k = some (occupancy r s.railLength x.position) := by
  simp [State.currentOccupancy, hc, hr, hx]

/-- The occupancy depends on the carriage's last X position, its record and the rail. -/
theorem currentOccupancy_congr {s t : State} {k : Nat}
    (hx : (t.carriage k).map (·.ctx.lastX) = (s.carriage k).map (·.ctx.lastX)) (hr : t.record k = s.record k)
    (hl : t.railLength = s.railLength) : t.currentOccupancy k = s.currentOccupancy k := by
  unfold State.currentOccupancy
  rw [hr, hl]
  cases hs : s.carriage k <;> cases ht : t.carriage k <;> simp_all; cases s.record k <;> simp_all

theorem nearFenceOf_congr {s t : State} {k : Nat}
    (hx : (t.carriage k).map (·.ctx.lastX) = (s.carriage k).map (·.ctx.lastX)) (hr : t.record k = s.record k)
    (hl : t.rail = s.rail)
    (hf : t.fences.map (fun f => (f.span, f.standing)) = s.fences.map fun f => (f.span, f.standing))
    (span : Interval) : t.nearFenceOf k span = s.nearFenceOf k span := by
  have hlen : t.railLength = s.railLength := by simp [State.railLength, hl]
  unfold State.nearFenceOf
  rw [currentOccupancy_congr hx hr hlen]
  cases s.currentOccupancy k with
  | none => rfl
  | some occ => exact nearFence_congr hl hf span occ

/-! A reservation stored, and the test of the PENDING fences. -/

/-- A change that leaves a carriage's reservation does not move a fence. -/
theorem testFences_modCarriage (s : State) (k : Nat) {g : Carriage → Carriage}
    (hg : ∀ c, (g c).reservation = c.reservation) :
    testFences (s.modCarriage k g) = (testFences s).modCarriage k g := by
  have hh : (s.modCarriage k g).fenceHeld = s.fenceHeld := by
    funext f
    have key (u : State) : u.fenceHeld f = (u.carriages.map (·.reservation)).any fun r =>
        match r with
        | none => false
        | some r => r.span.intersects (u.fenceSpan f) := by
      rw [List.any_map]
      rfl
    have hm : ((s.carriages.modify k g).map (·.reservation)) = s.carriages.map (·.reservation) := by
      apply List.ext_getElem?
      intro i
      simp only [List.getElem?_map, List.getElem?_modify]
      cases s.carriages[i]? with
      | none => rfl
      | some c => by_cases hi : k = i <;> simp [hi, hg]
    rw [key, key, State.modCarriage_carriages, hm]
    rfl
  have hswept : (s.modCarriage k g).swept = s.swept := by
    rw [State.swept, State.swept, hh]
    rfl
  have hswap (fs : List Fence) (m : Management) :
      ((s.modCarriage k g).withFences fs).withManagement m = ((s.withFences fs).withManagement m).modCarriage k g := rfl
  rw [testFences_eq, testFences_eq, hswept]
  exact hswap ..

/-! The update of a reservation by a candidate that may reach beyond it (R45). -/

/-- A candidate beyond the stored span that lies closer than G to a neighbour or a fence: an excursion (R45). -/
def State.Strays (s : State) (k : Nat) (stored cand : Interval) : Prop :=
  (∃ j, j ∈ s.offended k (grownParts stored cand)) ∨ (grownParts stored cand).any (s.nearFenceOf k) = true

/-- A candidate within the stored span has no grown part. -/
theorem grownParts_of_within {stored cand : Interval} (h : cand.within stored = true) : grownParts stored cand = [] := by
  simp only [Interval.within, Bool.and_eq_true, decide_eq_true_eq] at h
  simp [grownParts, Nat.not_lt.mpr h.1, Nat.not_lt.mpr h.2]

theorem State.not_strays_of_within {s : State} {k : Nat} {stored cand : Interval} (h : cand.within stored = true) :
    ¬s.Strays k stored cand := by
  simp [State.Strays, grownParts_of_within h, State.offended]

theorem growReservation_silent {s : State} {k : Nat} {stored cand : Interval} (h : ¬s.Strays k stored cand)
    (new : Reservation) : growReservation s k stored cand new = setReservation s k (some new) := by
  obtain ⟨ho, hf⟩ := not_or.mp h
  have ho : s.offended k (grownParts stored cand) = [] := List.eq_nil_iff_forall_not_mem.mpr fun j hj => ho ⟨j, hj⟩
  have hf : (grownParts stored cand).any (s.nearFenceOf k) = false := Bool.eq_false_iff.mpr hf
  simp [growReservation, ho, hf]

theorem growReservation_strays {s : State} {k : Nat} {stored cand : Interval} (h : s.Strays k stored cand)
    (new : Reservation) :
    growReservation s k stored cand new =
      haltNeighbours (haltCarriage (setReservation s k (some new)) k .excursion (some .excursion))
        (s.offended k (grownParts stored cand)) := by
  have hx : ¬((s.offended k (grownParts stored cand)).isEmpty &&
      !(grownParts stored cand).any (s.nearFenceOf k)) = true := by
    rw [Bool.and_eq_true, List.isEmpty_iff, Bool.not_eq_true']
    rintro ⟨ho, hf⟩
    rcases h with ⟨j, hj⟩ | hn
    · exact absurd (ho ▸ hj) (by simp)
    · exact absurd (hf.symm.trans hn) (by decide)
  exact if_neg hx

/-- The carriage after an excursion: its new reservation, the flag, and a halt. -/
def Carriage.strayed (r : Option Reservation) (c : Carriage) : Carriage := ((c.reserved r).flagged .excursion).halted

section
variable {s : State} {k : Nat} {c : Carriage} {stored cand : Interval} (hc : s.carriage k = some c) (new : Reservation)

theorem growReservation_carriages_silent (h : ¬s.Strays k stored cand) :
    (growReservation s k stored cand new).carriages = s.carriages.modify k (·.reserved (some new)) := by
  rw [growReservation_silent h, setReservation_carriages]

/-- Each carriage after an excursion (R45): the carriage itself, the offended neighbours halted, all others as they were. -/
theorem growReservation_carriage_strays (h : s.Strays k stored cand) (j : Nat) :
    (growReservation s k stored cand new).carriage j =
      if j = k then (s.carriage k).map (·.strayed (some new))
      else if j ∈ s.offended k (grownParts stored cand) then (s.carriage j).map (·.halted)
      else s.carriage j := by
  have hh : (haltCarriage (setReservation s k (some new)) k .excursion (some .excursion)).carriages =
      s.carriages.modify k (·.strayed (some new)) := by
    rw [haltCarriage_some_carriages, setReservation_carriages, List.modify_modify_eq]
    rfl
  rw [growReservation_strays h, haltNeighbours_carriage]
  by_cases hj : j = k
  · subst hj
    have hn : j ∉ s.offended j (grownParts stored cand) := fun hm =>
      ne_of_mem_neighbours (mem_offended_iff.mp hm).1 rfl
    rw [if_neg hn, if_pos rfl, State.carriage_modify_self hh]
  · rw [State.carriage_modify_ne hh hj, if_neg hj]

include hc

/-- STOPs stand for the drives of a carriage after its excursion, but where it was LOST. -/
theorem growReservation_stops (h : s.Strays k stored cand) (hl : c.ctx.runState ≠ .lost) :
    s.Stops (growReservation s k stored cand new) k .excursion := by
  have hd : (setReservation s k (some new)).carriage k = some (c.reserved (some new)) := by
    rw [State.carriage_modify_self (setReservation_carriages ..), hc]
    rfl
  rw [growReservation_strays h]
  have hk := setReservation_follows s k (some new)
  have hs : (setReservation s k (some new)).port.stops = s.port.stops := by
    simp [setReservation_eq hc, testFences_eq]
  exact ((haltCarriage_some_stops hd hl .excursion .excursion).after hk.toKeeps hs).then
    (haltNeighbours_follows ..).toKeeps

/-- STOPs stand for the drives of every offended neighbour, but of a LOST one. -/
theorem growReservation_stops_neighbour (h : s.Strays k stored cand) {j : Nat}
    (hj : j ∈ s.offended k (grownParts stored cand)) (hn : s.runState j ≠ some .lost) {axis : Axis} {node : Nat}
    (hnode : s.addressOf (driveRole j axis) = some node) :
    ∃ e ∈ (growReservation s k stored cand new).port.stops, e.node = node := by
  rw [growReservation_strays h]
  have hnb := (mem_offended_iff.mp hj).1
  have hcs : (haltCarriage (setReservation s k (some new)) k .excursion (some .excursion)).carriages =
      s.carriages.modify k (·.strayed (some new)) := by
    rw [haltCarriage_some_carriages, setReservation_carriages, List.modify_modify_eq]
    rfl
  have hk := (setReservation_follows s k (some new)).toKeeps.trans (haltCarriage_keeps _ k .excursion (some .excursion))
  have hr : (haltCarriage (setReservation s k (some new)) k .excursion (some .excursion)).runState j = s.runState j := by
    simp [State.runState, State.carriage_modify_ne hcs (ne_of_mem_neighbours hnb)]
  obtain ⟨d, hd⟩ : ∃ d, s.carriage j = some d :=
    ⟨_, List.getElem?_eq_getElem (lt_of_mem_neighbours (List.getElem?_eq_some_iff.mp hc).1 hnb)⟩
  have hi : s.runState j ≠ none := by simp [State.runState, hd]
  refine haltNeighbours_stops hj (hr ▸ hn) (hr ▸ hi) (axis := axis) ?_
  rw [hk.addressOf]
  exact hnode

end

/-! Candidates (R44). -/

/-- The candidate of R44 from an X report and the active X move. -/
def candidateFor (r : CarriageRecord) (rail : Nat) (x : AxisReport) (active : Option ActiveMove) : Interval :=
  match active with
  | none => envelope r rail x.position x.velocity
  | some m => (envelope r rail x.position x.velocity).hull (occupancy r rail m.target)

section
variable {s : State} {k : Nat} {c : Carriage} {r : CarriageRecord} {x : AxisReport} {stored : Reservation}
  (hc : s.carriage k = some c) (hr : s.record k = some r) (hx : c.ctx.lastX = some x)
include hc hr hx

theorem candidate_eq : s.candidate k = some (candidateFor r s.railLength x c.ctx.activeX) := by
  simp only [State.candidate, hc, hr, currentEnvelope_eq hc hr hx, candidateFor]
  cases c.ctx.activeX <;> rfl

/-- A reservation follows the candidate: in both cases a growth, whose grown parts are none within the stored span. -/
theorem followCandidate_eq (hv : c.reservation = some stored) :
    followCandidate s k =
      growReservation s k stored.span (candidateFor r s.railLength x c.ctx.activeX)
        ⟨candidateFor r s.railLength x c.ctx.activeX, .plain⟩ := by
  unfold followCandidate
  rw [candidate_eq hc hr hx, hc, Option.bind_some, hv]
  dsimp only
  split
  · rename_i hw
    rw [growReservation_silent (State.not_strays_of_within hw)]
  · rfl

theorem followStale_eq (hv : c.reservation = some stored) :
    followStale s k =
      if (candidateFor r s.railLength x c.ctx.activeX).within stored.span then s
      else
        growReservation s k stored.span (candidateFor r s.railLength x c.ctx.activeX)
          ⟨stored.span.hull (candidateFor r s.railLength x c.ctx.activeX), .widened⟩ := by
  unfold followStale
  rw [candidate_eq hc hr hx, hc, Option.bind_some, hv]

/-- The fence part of an excursion, by the fences that the occupancy does not intersect (R45). -/
theorem strays_iff {cand : Interval} :
    s.Strays k stored.span cand ↔
      (∃ j, j ∈ s.neighbours k ∧ ∃ p ∈ grownParts stored.span cand, s.apartFrom k j p = false) ∨
      ∃ p ∈ grownParts stored.span cand, ∃ e ∈ s.fences, e.state ≠ .off ∧
        (s.fenceSpan e).intersects (occupancy r s.railLength x.position) = false ∧
          p.apart s.gap (s.fenceSpan e) = false := by
  unfold State.Strays
  refine or_congr (exists_congr fun j => mem_offended_iff) ?_
  simp only [State.nearFenceOf, currentOccupancy_eq hc hr hx, List.any_eq_true, State.nearFence, Bool.and_eq_true,
    Bool.not_eq_true', Fence.standing_iff, and_assoc]

end

/-! When a report moves the reservation (R10 step 3, R44, R46). -/

section
variable {s : State} {k : Nat} {c : Carriage} {r : CarriageRecord} (hc : s.carriage k = some c) (hr : s.record k = some r)
include hc hr

theorem updateReservation_fresh (ht : c.ctx.runState.tracked = true) (hm : c.ctx.membership ≠ .excluded)
    (hf : c.ctx.fresh = true ∨ c.ctx.allYoung s.lineClock r.w = true) : updateReservation s k = followCandidate s k := by
  unfold updateReservation
  rw [hc, hr]
  dsimp only
  rw [if_pos (by simp [ht, hm]), if_pos (by simpa using hf)]

theorem updateReservation_stale (ht : c.ctx.runState.tracked = true) (hm : c.ctx.membership ≠ .excluded)
    (hf : c.ctx.fresh = false) (hy : c.ctx.allYoung s.lineClock r.w = false) :
    updateReservation s k = followStale s k := by
  unfold updateReservation
  rw [hc, hr]
  dsimp only
  rw [if_pos (by simp [ht, hm]), if_neg (by simp [hf, hy])]

theorem updateReservation_idle (h : c.ctx.runState.tracked = false ∨ c.ctx.membership = .excluded) :
    updateReservation s k = s := by
  unfold updateReservation
  rw [hc, hr]
  exact if_neg (by rcases h with h | h <;> simp [h])

theorem returnToFresh_idle (h : c.ctx.membership = .excluded ∨ c.ctx.fresh = true ∨ c.ctx.allYoung s.lineClock r.w = false)
    (f : ReportFrom) : returnToFresh s k f = s := by
  unfold returnToFresh
  rw [hc, hr]
  exact if_neg (by rcases h with h | h | h <;> simp [h])

/-- A carriage that an X STATE makes FRESH keeps the reservation that its update has set (R15). -/
theorem returnToFresh_x (hm : c.ctx.membership ≠ .excluded) (hf : c.ctx.fresh = false)
    (hy : c.ctx.allYoung s.lineClock r.w = true) (v : Int) :
    returnToFresh s k (.drive .x v) = s.modContext k fun x => { x with fresh := true } := by
  unfold returnToFresh
  rw [hc, hr]
  exact if_pos (by simp [hm, hf, hy])

/-- A carriage that another report makes FRESH follows its candidate (R15, R47). -/
theorem returnToFresh_other (hm : c.ctx.membership ≠ .excluded) (hf : c.ctx.fresh = false)
    (hy : c.ctx.allYoung s.lineClock r.w = true) {f : ReportFrom} (hfrom : f = .head ∨ ∃ v, f = .drive .z v) :
    returnToFresh s k f = followCandidate (s.modContext k fun x => { x with fresh := true }) k := by
  have hcond : (c.ctx.membership != .excluded && !c.ctx.fresh && c.ctx.allYoung s.lineClock r.w) = true := by
    simp [hm, hf, hy]
  unfold returnToFresh
  rw [hc, hr]
  rcases hfrom with rfl | ⟨v, rfl⟩ <;> exact if_pos hcond

/-- In ACTIVE, STOPPING and HALTED a report may make the carriage FRESH, and then its velocity is looked at (R10 step 4). -/
theorem runStateRules_tracked {before : RunState} (ht : before.tracked = true) (f : ReportFrom) :
    runStateRules s k before f = applyVelocity (returnToFresh s k f) k before f := by
  unfold runStateRules
  rw [hc, hr]
  cases before <;> simp_all [RunState.tracked]

theorem runStateRules_unseen (f : ReportFrom) :
    runStateRules s k .unseen f = if c.ctx.freshSet s.lineClock r.w then firstData s k else s := by
  unfold runStateRules
  rw [hc, hr]

theorem runStateRules_lost (f : ReportFrom) :
    runStateRules s k .lost f = if c.ctx.freshSet s.lineClock r.w then recover s k f else s := by
  unfold runStateRules
  rw [hc, hr]

end

end Sys2Proof.Machine
end

section
/-! PROOFS. What a STATE leaves, without held moves; and of a STOPPING or HALTED carriage: still marks, unbidden motion and
drive faults (R11, R19, R20). -/

namespace Sys2Proof.Machine

/-! The reading of a STATE, up to its reports. -/

/-- A carriage with a STATE of one of its drives recorded (R9, R10 step 1). -/
def Carriage.recorded (now : Clock) (axis : Axis) (rep : StateReport) (c : Carriage) : Carriage :=
  { c with ctx := (c.ctx.arrived now (driveNode axis)).reported rep axis }

theorem recordState_eq (s : State) (k : Nat) (axis : Axis) (rep : StateReport) :
    recordState s k axis rep = s.modCarriage k (·.recorded s.lineClock axis rep) := rfl

theorem recordState_carriage {s : State} {k : Nat} {c : Carriage} (hc : s.carriage k = some c) (axis : Axis)
    (rep : StateReport) :
    (recordState s k axis rep).carriage k = some (c.recorded s.lineClock axis rep) := modCarriage_same hc _

theorem recordState_follows (s : State) (k : Nat) (axis : Axis) (rep : StateReport) :
    s.Follows 0 (recordState s k axis rep) := .modCarriage s k fun _ h => h

/-- A STATE read, but for the reports to held moves: fields, drive fault, reservation, run state (R10). -/
def ruleState (s : State) (k : Nat) (axis : Axis) (rep : StateReport) (before : RunState) : State :=
  runStateRules (updateFor (faultState (recordState s k axis rep) k rep) k axis) k before (.drive axis rep.axis.velocity)

theorem faultState_fault {rep : StateReport} (h : rep.axis.status.fault = true) (s : State) (k : Nat) :
    faultState s k rep = haltCarriage s k .driveFault (some .driveFault) := if_pos h

theorem faultState_none {rep : StateReport} (h : rep.axis.status.fault = false) (s : State) (k : Nat) :
    faultState s k rep = s := if_neg (by simp [h])

theorem faultState_keeps (s : State) (k : Nat) (rep : StateReport) : s.Keeps 0 (faultState s k rep) := by
  unfold faultState
  split
  · exact haltCarriage_keeps ..
  · exact (State.Follows.refl s).toKeeps

theorem ruleState_keeps (s : State) (k : Nat) (axis : Axis) (rep : StateReport) (before : RunState) :
    s.Keeps 4 (ruleState s k axis rep before) :=
  (((recordState_follows s k axis rep).toKeeps.trans (faultState_keeps _ k rep)).trans
    (updateFor_follows _ k axis).toKeeps).trans (runStateRules_follows _ k before _).toKeeps

/-- What is left of a report from port D: carriages, STOP entries, notices, saws and bays as the reading left them. -/
structure State.Shows (t u : State) : Prop where
  carriages : t.carriages = u.carriages
  stops : t.port.stops = u.port.stops
  management : t.management = u.management
  saws : t.saws = u.saws
  bays : t.bays = u.bays

theorem State.Shows.carriage {t u : State} (h : t.Shows u) (k : Nat) : t.carriage k = u.carriage k :=
  State.carriage_congr h.carriages k

theorem State.passedUp_shows (u : State) (f : Frame) : ((u.withReports []).passedUp f).Shows u := by
  constructor <;> simp

/-- STOP entries seen after a report are those that the reading left. -/
theorem State.Stops.shown {s t u : State} {k : Nat} {r : StopReason} (h : s.Stops u k r) (ht : t.Shows u) : s.Stops t k r := by
  intro axis node hn
  rw [ht.stops]
  exact h axis node hn

theorem stateReports_withReports (s : State) (k : Nat) (axis : Axis) :
    (stateReports s k axis).withReports [] = s.withReports [] := by
  unfold stateReports
  split
  · split
    · split <;> rfl
    · split
      · rfl
      · split <;> rfl
  · rfl

/-- The step of a STATE that finds no held move. -/
theorem exec_state_noHeld {s : State} (h : s.Running) (hh : s.NoHeld) {dst src seq : Byte} {payload : List Byte}
    {rep : StateReport} {k : Nat} {axis : Axis} {before : RunState} (ho : ¬s.Own dst)
    (hp : parseState payload = some rep) (hs : s.roleOf src.toNat = some (driveRole k axis))
    (hb : s.runState k = some before) :
    exec (.state dst src seq payload) s =
      .next (((ruleState s.between k axis rep before).withReports []).passedUp ⟨dst, src, 0x20, seq, payload⟩) := by
  have hk := (ruleState_keeps s.between k axis rep before).trans (stateReports_follows _ k axis).toKeeps
  have hreports : s.between.reports = [] := h.settled
  have hlen := hk.reports
  rw [hreports] at hlen
  have hread : readState s.between k axis rep = stateReports (ruleState s.between k axis rep before) k axis :=
    readState_eq (s := s.between) hb axis rep
  rw [exec_state h ho hp hs, hread, finish_passedUp_noHeld (hk.noHeld hh) (hlen.trans (by decide)),
    stateReports_withReports]

/-- The step of a STATE that finds no held move, by what is seen afterwards. -/
theorem exec_state_shows {s : State} (h : s.Running) (hh : s.NoHeld) {dst src seq : Byte} {payload : List Byte}
    {rep : StateReport} {k : Nat} {axis : Axis} {before : RunState} (ho : ¬s.Own dst)
    (hp : parseState payload = some rep) (hs : s.roleOf src.toNat = some (driveRole k axis))
    (hb : s.runState k = some before) :
    ∃ t, exec (.state dst src seq payload) s = .next t ∧ t.Shows (ruleState s.between k axis rep before) :=
  ⟨_, exec_state_noHeld h hh ho hp hs hb, State.passedUp_shows ..⟩

/-- The step of a STATE that finds no held move, as one change of the state. -/
theorem exec_state_exact {s u : State} (h : s.Running) (hh : s.NoHeld) {dst src seq : Byte} {payload : List Byte}
    {rep : StateReport} {k : Nat} {axis : Axis} {before : RunState} (ho : ¬s.Own dst)
    (hp : parseState payload = some rep) (hs : s.roleOf src.toNat = some (driveRole k axis))
    (hb : s.runState k = some before) (hu : (ruleState s.between k axis rep before).withReports [] = u.between) :
    exec (.state dst src seq payload) s = .next (u.passedUp ⟨dst, src, 0x20, seq, payload⟩) := by
  rw [exec_state_noHeld h hh ho hp hs hb]
  exact congrArg Host.Outcome.next (State.passedUp_of_between hu _)

/-! A carriage that is not ACTIVE, through the update of its reservation. -/

/-- Run state, still marks, membership, last positions and the drive fault stay; an active move may only go. -/
structure Carriage.SameRun (c d : Carriage) : Prop where
  runState : d.ctx.runState = c.ctx.runState
  stillX : d.ctx.stillX = c.ctx.stillX
  stillZ : d.ctx.stillZ = c.ctx.stillZ
  membership : d.ctx.membership = c.ctx.membership
  driveFault : d.ctx.flags.driveFault = c.ctx.flags.driveFault
  activeX : c.ctx.activeX = none → d.ctx.activeX = none
  activeZ : c.ctx.activeZ = none → d.ctx.activeZ = none

namespace Carriage.SameRun

theorem refl (c : Carriage) : c.SameRun c := ⟨rfl, rfl, rfl, rfl, rfl, id, id⟩

theorem trans {c d e : Carriage} (h : c.SameRun d) (h' : d.SameRun e) : c.SameRun e where
  runState := h'.runState.trans h.runState
  stillX := h'.stillX.trans h.stillX
  stillZ := h'.stillZ.trans h.stillZ
  membership := h'.membership.trans h.membership
  driveFault := h'.driveFault.trans h.driveFault
  activeX hx := h'.activeX (h.activeX hx)
  activeZ hz := h'.activeZ (h.activeZ hz)

theorem reserved (r : Option Reservation) (c : Carriage) : c.SameRun (c.reserved r) := ⟨rfl, rfl, rfl, rfl, rfl, id, id⟩

theorem freshened (c : Carriage) : c.SameRun { c with ctx := { c.ctx with fresh := true } } :=
  ⟨rfl, rfl, rfl, rfl, rfl, id, id⟩

theorem strayed {c : Carriage} (h : c.ctx.runState ≠ .active) (r : Option Reservation) : c.SameRun (c.strayed r) := by
  unfold Carriage.strayed
  by_cases hl : c.ctx.runState = .lost
  · rw [Carriage.halted_of_lost (c := (c.reserved r).flagged .excursion) hl]
    exact ⟨rfl, rfl, rfl, rfl, rfl, id, id⟩
  · rw [Carriage.halted_of_still (c := (c.reserved r).flagged .excursion) h hl]
    exact ⟨rfl, rfl, rfl, rfl, rfl, fun _ => rfl, fun _ => rfl⟩

end Carriage.SameRun

section
variable {s : State} {k : Nat} {c : Carriage} (hc : s.carriage k = some c) (ha : c.ctx.runState ≠ .active)
include hc

theorem setReservation_sameRun (r : Option Reservation) :
    ∃ d, (setReservation s k r).carriage k = some d ∧ c.SameRun d := by
  refine ⟨c.reserved r, ?_, .reserved r c⟩
  rw [State.carriage_modify_self (setReservation_carriages ..), hc]
  rfl

include ha

theorem growReservation_sameRun (a b : Interval) (r : Reservation) :
    ∃ d, (growReservation s k a b r).carriage k = some d ∧ c.SameRun d := by
  by_cases hs : s.Strays k a b
  · refine ⟨c.strayed (some r), ?_, .strayed ha _⟩
    rw [growReservation_carriage_strays r hs, if_pos rfl, hc]
    rfl
  · rw [growReservation_silent hs]
    exact setReservation_sameRun hc _

theorem followCandidate_sameRun : ∃ d, (followCandidate s k).carriage k = some d ∧ c.SameRun d := by
  unfold followCandidate
  split
  · split
    · exact setReservation_sameRun hc _
    · exact growReservation_sameRun hc ha _ _ _
  · exact setReservation_sameRun hc _
  · exact ⟨c, hc, .refl c⟩

theorem updateFor_sameRun (axis : Axis) : ∃ d, (updateFor s k axis).carriage k = some d ∧ c.SameRun d := by
  cases axis with
  | z => exact ⟨c, hc, .refl c⟩
  | x =>
    unfold updateFor updateReservation
    dsimp only
    split
    · split
      · split
        · exact followCandidate_sameRun hc ha
        · unfold followStale
          split
          · split
            · exact ⟨c, hc, .refl c⟩
            · exact growReservation_sameRun hc ha _ _ _
          · exact ⟨c, hc, .refl c⟩
      · exact ⟨c, hc, .refl c⟩
    · exact ⟨c, hc, .refl c⟩

theorem returnToFresh_sameRun (f : ReportFrom) : ∃ d, (returnToFresh s k f).carriage k = some d ∧ c.SameRun d := by
  have hm : (s.modContext k fun x => { x with fresh := true }).carriage k =
      some { c with ctx := { c.ctx with fresh := true } } := modCarriage_same hc _
  unfold returnToFresh
  split
  · split
    · dsimp only
      split
      · exact ⟨_, hm, .freshened c⟩
      · obtain ⟨d, hd, hs⟩ := followCandidate_sameRun hm ha
        exact ⟨d, hd, (Carriage.SameRun.freshened c).trans hs⟩
    · exact ⟨c, hc, .refl c⟩
  · exact ⟨c, hc, .refl c⟩

end

/-! Still marks (R19). -/

/-- A carriage after the velocity of a STATE in STOPPING: its mark set, and HALTED with both marks yes. -/
def Carriage.stilled (axis : Axis) (still : Bool) (c : Carriage) : Carriage :=
  if (c.marked axis still).ctx.runState = .stopping ∧ (c.marked axis still).ctx.stillX ∧ (c.marked axis still).ctx.stillZ
  then { c.marked axis still with ctx := { (c.marked axis still).ctx with runState := .halted } }
  else c.marked axis still

section
variable {s : State} {k : Nat} {c : Carriage} {r : CarriageRecord} (hc : s.carriage k = some c) (hr : s.record k = some r)
include hc hr

theorem markStill_carriage (axis : Axis) (v : Int) :
    (markStill s k axis v).carriage k = some (c.stilled axis (decide (v.natAbs ≤ r.vStill))) := by
  have hm := modCarriage_same hc (·.marked axis (decide (v.natAbs ≤ r.vStill)))
  rw [markStill_eq hr hc, Carriage.stilled]
  split
  · rw [State.carriage_congr (handStateChange_carriages ..), State.carriage_modContext_self, hm]
    rfl
  · exact hm

/-! Unbidden motion (R20). -/

theorem unbiddenMotion_working (hm : c.ctx.membership ≠ .excluded) :
    unbiddenMotion s k = handStateChange (requestStops (enterStopping s k) k .halt) k .stopping := by
  unfold unbiddenMotion
  rw [hc, hr]
  exact if_neg hm

theorem unbiddenMotion_excluded (hm : c.ctx.membership = .excluded) {x : AxisReport} {park : Interval}
    (hx : c.ctx.lastX = some x) (hp : r.park = some park) :
    unbiddenMotion s k =
      if (occupancy r s.railLength x.position).within park then requestStops s k .halt
      else requestStops (raiseFlag s k .excursion) k .excursion := by
  unfold unbiddenMotion
  rw [hc, hr]
  dsimp only
  rw [if_pos hm, currentOccupancy_eq hc hr hx, hp]

/-- An EXCLUDED carriage keeps its run state in unbidden motion. -/
theorem unbiddenMotion_excluded_carriages (hm : c.ctx.membership = .excluded) :
    (unbiddenMotion s k).carriages = s.carriages.modify k (·.cleared) ∨
      (unbiddenMotion s k).carriages = s.carriages.modify k fun c => (c.flagged .excursion).cleared := by
  unfold unbiddenMotion
  rw [hc, hr]
  dsimp only
  rw [if_pos hm]
  split
  · split
    · exact .inl (requestStops_carriages ..)
    · refine .inr ?_
      rw [requestStops_carriages, raiseFlag_carriages, List.modify_modify_eq]
      rfl
  · exact .inl (requestStops_carriages ..)

/-- A carriage in unbidden motion that is not EXCLUDED becomes STOPPING. -/
theorem unbiddenMotion_working_carriages (hm : c.ctx.membership ≠ .excluded) :
    (unbiddenMotion s k).carriages = s.carriages.modify k fun c => c.slowed.cleared := by
  rw [unbiddenMotion_working hc hr hm, handStateChange_carriages, requestStops_carriages, enterStopping_carriages,
    List.modify_modify_eq]
  rfl

/-- STOPs stand for the drives of a carriage in unbidden motion. -/
theorem unbiddenMotion_working_stops (hm : c.ctx.membership ≠ .excluded) : s.Stops (unbiddenMotion s k) k .halt := by
  rw [unbiddenMotion_working hc hr hm]
  exact ((requestStops_stops (enterStopping s k) k .halt).after (State.Follows.modContext s k _).toKeeps rfl).then
    (handStateChange_follows ..).toKeeps

end

theorem applyVelocity_stopping (s : State) (k : Nat) (axis : Axis) (v : Int) :
    applyVelocity s k .stopping (.drive axis v) = markStill s k axis v := rfl

theorem applyVelocity_halted {s : State} {k : Nat} {r : CarriageRecord} (hr : s.record k = some r) (axis : Axis)
    (v : Int) :
    applyVelocity s k .halted (.drive axis v) = if r.vStill < v.natAbs then unbiddenMotion s k else s := by
  unfold applyVelocity
  dsimp only
  rw [hr]

/-! Drive faults (R11). -/

/-- A carriage after the drive fault of a STATE: the flag, and a halt. -/
def Carriage.broken (c : Carriage) : Carriage := (c.flagged .driveFault).halted

theorem haltCarriage_driveFault_carriage {s : State} {k : Nat} {c : Carriage} (hc : s.carriage k = some c) :
    (haltCarriage s k .driveFault (some .driveFault)).carriage k = some c.broken := by
  rw [State.carriage_modify_self (haltCarriage_some_carriages ..), hc]
  rfl

/-- The FAULT notice of a flag that was clear stands in the queue, where there is room and a CONTROLLER. -/
theorem raiseFlag_notice {s : State} {k : Nat} {c : Carriage} (hc : s.carriage k = some c) {f : Flag}
    (hf : c.ctx.flags.has f = false) (hm : s.addressOf .controller ≠ none) (hroom : s.management.notices.length < 16) :
    (⟨.fault, some k, .absent, f.cause, .absent, s.lineClock⟩ : Notice) ∈ (raiseFlag s k f).management.notices := by
  have hsome : (s.addressOf .controller).isSome = true := Option.isSome_iff_ne_none.mpr hm
  rw [raiseFlag_clear hc hf, hand_eq]
  show _ ∈ (s.management.handed (s.addressOf .controller).isSome _).notices
  rw [hsome]
  exact Management.handed_mem hroom

end Sys2Proof.Machine
end

section
/-! PROOFS. STATE of a STOPPING or HALTED carriage (R11, R19, R20): the reservation and the freshness first, then the velocity. -/

namespace Sys2Proof.Machine

/-! The velocity is looked at last. -/

section
variable {s : State} {k : Nat} {c : Carriage} {r : CarriageRecord} {before : RunState} (hc : s.carriage k = some c)
  (hr : s.record k = some r) (ht : before.tracked = true)
include hc hr ht

/-- A carriage that is not ACTIVE comes to its velocity with run state, marks and flags as they were, but for an
EXCURSION. -/
theorem runStateRules_settles (ha : c.ctx.runState ≠ .active) (axis : Axis) (v : Int) :
    ∃ t d, runStateRules (updateFor s k axis) k before (.drive axis v) = applyVelocity t k before (.drive axis v) ∧
      s.Follows 4 t ∧ t.carriage k = some d ∧ c.SameRun d := by
  obtain ⟨d, hd, hcd⟩ := updateFor_sameRun hc ha axis
  have hu := updateFor_follows s k axis
  have hrd : (updateFor s k axis).record k = some r := (hu.record k).trans hr
  obtain ⟨e, he, hde⟩ := returnToFresh_sameRun hd (hcd.runState.trans_ne ha) (.drive axis v)
  exact ⟨_, e, runStateRules_tracked hd hrd ht _, hu.trans (returnToFresh_follows ..), he, hcd.trans hde⟩

/-- A Z STATE of a FRESH carriage, and any STATE of an EXCLUDED one, comes to its velocity at once. -/
theorem runStateRules_at_once {axis : Axis} (h : axis = .z ∧ c.ctx.fresh = true ∨ c.ctx.membership = .excluded) (v : Int) :
    runStateRules (updateFor s k axis) k before (.drive axis v) = applyVelocity s k before (.drive axis v) := by
  have hu : updateFor s k axis = s := by
    rcases h with ⟨rfl, _⟩ | h
    · rfl
    · cases axis with
      | x => exact updateReservation_idle hc hr (.inr h)
      | z => rfl
  have hi : c.ctx.membership = .excluded ∨ c.ctx.fresh = true ∨ c.ctx.allYoung s.lineClock r.w = false := by
    rcases h with ⟨_, h⟩ | h
    · exact .inr (.inl h)
    · exact .inl h
  rw [hu, runStateRules_tracked hc hr ht, returnToFresh_idle hc hr hi]

end

/-! A carriage after its velocity in STOPPING. -/

theorem Carriage.stilled_stillX (axis : Axis) (b : Bool) (c : Carriage) :
    (c.stilled axis b).ctx.stillX = if axis = .x then b else c.ctx.stillX := by
  unfold Carriage.stilled
  cases axis <;> split <;> rfl

theorem Carriage.stilled_stillZ (axis : Axis) (b : Bool) (c : Carriage) :
    (c.stilled axis b).ctx.stillZ = if axis = .z then b else c.ctx.stillZ := by
  unfold Carriage.stilled
  cases axis <;> split <;> rfl

theorem Carriage.stilled_runState {c : Carriage} (h : c.ctx.runState = .stopping) (axis : Axis) (b : Bool) :
    (c.stilled axis b).ctx.runState =
      if (c.stilled axis b).ctx.stillX = true ∧ (c.stilled axis b).ctx.stillZ = true then .halted else .stopping := by
  have hm : (c.marked axis b).ctx.runState = .stopping := by cases axis <;> exact h
  rw [Carriage.stilled_stillX, Carriage.stilled_stillZ]
  unfold Carriage.stilled
  cases axis with
  | x =>
    simp only [Carriage.marked, h, true_and, if_true, reduceCtorEq, if_false]
    split <;> rfl
  | z =>
    simp only [Carriage.marked, h, true_and, if_true, reduceCtorEq, if_false]
    split <;> rfl

/-- The mark, and the run state, are all that the velocity changes. -/
theorem Carriage.stilled_rest (axis : Axis) (b : Bool) (c : Carriage) :
    (c.stilled axis b).ctx.flags = c.ctx.flags ∧ (c.stilled axis b).ctx.activeX = c.ctx.activeX ∧
      (c.stilled axis b).ctx.activeZ = c.ctx.activeZ ∧ (c.stilled axis b).reservation = c.reservation := by
  unfold Carriage.stilled
  cases axis <;> split <;> exact ⟨rfl, rfl, rfl, rfl⟩

/-- Carriages other than the one whose velocity is looked at stay. -/
theorem applyVelocity_ne {s : State} {j k : Nat} {c : Carriage} {r : CarriageRecord} (hc : s.carriage k = some c)
    (hr : s.record k = some r) (hj : j ≠ k) (b : RunState) (f : ReportFrom) :
    (applyVelocity s k b f).carriage j = s.carriage j := by
  have hu : (unbiddenMotion s k).carriage j = s.carriage j := by
    by_cases hm : c.ctx.membership = .excluded
    · rcases unbiddenMotion_excluded_carriages hc hr hm with h | h <;> exact State.carriage_modify_ne h hj
    · exact State.carriage_modify_ne (unbiddenMotion_working_carriages hc hr hm) hj
  cases f with
  | head => rfl
  | drive axis v =>
    cases b with
    | stopping =>
      rw [applyVelocity_stopping, markStill_eq hr hc]
      have hmod (g : Carriage → Carriage) := State.carriage_modify_ne (State.modCarriage_carriages s k g) hj
      split
      · rw [State.carriage_congr (handStateChange_carriages ..), State.carriage_modContext_ne _ (Ne.symm hj), hmod]
      · exact hmod _
    | halted =>
      rw [applyVelocity_halted hr]
      split
      · exact hu
      · rfl
    | _ => rfl

/-- A report in HALTED leaves the carriage HALTED, or STOPPING where it moves and is not EXCLUDED (R20). -/
theorem applyVelocity_halted_carriage {s : State} {k : Nat} {c : Carriage} {r : CarriageRecord}
    (hc : s.carriage k = some c) (hr : s.record k = some r) (hh : c.ctx.runState = .halted) (axis : Axis) (v : Int) :
    ∃ d, (applyVelocity s k .halted (.drive axis v)).carriage k = some d ∧
      d.ctx.runState = (if c.ctx.membership ≠ .excluded ∧ r.vStill < v.natAbs then .stopping else .halted) ∧
      d.ctx.flags.driveFault = c.ctx.flags.driveFault ∧ (c.ctx.activeX = none → d.ctx.activeX = none) ∧
      (c.ctx.activeZ = none → d.ctx.activeZ = none) ∧ d.reservation = c.reservation ∧
      (c.ctx.membership ≠ .excluded → d.ctx.flags = c.ctx.flags) := by
  have hself {g : Carriage → Carriage} (h : (unbiddenMotion s k).carriages = s.carriages.modify k g) :
      (unbiddenMotion s k).carriage k = some (g c) := by
    rw [State.carriage_modify_self h, hc]
    rfl
  rw [applyVelocity_halted hr]
  by_cases hv : r.vStill < v.natAbs
  · rw [if_pos hv]
    by_cases hm : c.ctx.membership = .excluded
    · rcases unbiddenMotion_excluded_carriages hc hr hm with h | h
      · exact ⟨_, hself h, by simp [hm, Carriage.cleared, hh], rfl, fun _ => rfl, fun _ => rfl, rfl, fun _ => rfl⟩
      · exact ⟨_, hself h, by simp [hm, Carriage.cleared, Carriage.flagged, hh], rfl, fun _ => rfl, fun _ => rfl, rfl,
          fun hn => absurd hm hn⟩
    · exact ⟨_, hself (unbiddenMotion_working_carriages hc hr hm), by simp [hm, hv, Carriage.cleared, Carriage.slowed],
        rfl, fun _ => rfl, fun _ => rfl, rfl, fun _ => rfl⟩
  · rw [if_neg hv]
    exact ⟨c, hc, by simp [hv, hh], rfl, id, id, rfl, fun _ => rfl⟩

/-! The drive fault of a carriage that is not ACTIVE (R11). -/

theorem Carriage.recorded_flags (now : Clock) (axis : Axis) (rep : StateReport) (c : Carriage) :
    (c.recorded now axis rep).ctx.flags = c.ctx.flags := by
  cases axis <;> rfl

theorem faultState_ne {s : State} {j k : Nat} {axis : Axis} {rep : StateReport} (hf : rep.axis.status.fault = true)
    (hj : j ≠ k) :
    (faultState (recordState s k axis rep) k rep).carriage j = s.carriage j := by
  rw [faultState_fault hf, State.carriage_modify_ne (haltCarriage_some_carriages ..) hj, recordState_eq,
    State.carriage_modify_ne (State.modCarriage_carriages ..) hj]

section
variable {s : State} {k : Nat} {c : Carriage} {axis : Axis} {rep : StateReport} (hc : s.carriage k = some c)
  (hf : rep.axis.status.fault = true)
include hc hf

theorem faultState_carriage :
    (faultState (recordState s k axis rep) k rep).carriage k = some (c.recorded s.lineClock axis rep).broken := by
  rw [faultState_fault hf]
  exact haltCarriage_driveFault_carriage (recordState_carriage hc axis rep)

theorem faultState_stops (hl : c.ctx.runState ≠ .lost) :
    s.Stops (faultState (recordState s k axis rep) k rep) k .driveFault := by
  rw [faultState_fault hf]
  have hl' : (c.recorded s.lineClock axis rep).ctx.runState ≠ .lost := by cases axis <;> exact hl
  exact (haltCarriage_some_stops (recordState_carriage hc axis rep) hl' .driveFault .driveFault).after
    (recordState_follows s k axis rep).toKeeps rfl

theorem faultState_notice (hn : c.ctx.flags.driveFault = false) (hm : s.addressOf .controller ≠ none)
    (hroom : s.management.notices.length < 16) :
    (⟨.fault, some k, .absent, .driveFault, .absent, s.lineClock⟩ : Notice) ∈
      (faultState (recordState s k axis rep) k rep).management.notices := by
  have hflag : (c.recorded s.lineClock axis rep).ctx.flags.has .driveFault = false := by cases axis <;> exact hn
  rw [faultState_fault hf, haltCarriage_flag]
  exact (haltCarriage_none_follows ..).notices _
    (raiseFlag_notice (recordState_carriage hc axis rep) hflag (s := recordState s k axis rep) hm hroom)

/-- A drive fault that is known hands no FAULT notice. -/
theorem faultState_follows (hn : c.ctx.flags.driveFault = true) :
    s.Follows 0 (faultState (recordState s k axis rep) k rep) := by
  have hflag : (c.recorded s.lineClock axis rep).ctx.flags.has .driveFault = true := by cases axis <;> exact hn
  rw [faultState_fault hf, haltCarriage_flag, raiseFlag_set (recordState_carriage hc axis rep) hflag]
  exact (recordState_follows ..).trans (haltCarriage_none_follows ..)

end

/-- What the drive fault leaves of a STOPPING or HALTED carriage: the flag, and no active move (R11, R126). -/
theorem Carriage.broken_recorded {c : Carriage} (h : c.ctx.runState = .stopping ∨ c.ctx.runState = .halted) (now : Clock)
    (axis : Axis) (rep : StateReport) :
    (c.recorded now axis rep).broken = ((c.recorded now axis rep).flagged .driveFault).cleared := by
  rw [Carriage.broken, Carriage.halted_of_still] <;> cases axis <;> rcases h with h | h <;>
    simp [Carriage.recorded, Carriage.flagged, Context.reported, Context.arrived, driveNode, h]

section
variable {s : State} {k : Nat} {c : Carriage} {r : CarriageRecord} {rep : StateReport} (hc : s.carriage k = some c)
  (hr : s.record k = some r) (hf : rep.axis.status.fault = true)
include hc hf

theorem ruleState_fault_notice (hn : c.ctx.flags.driveFault = false) (hm : s.addressOf .controller ≠ none)
    (hroom : s.management.notices.length < 16) (axis : Axis) :
    (⟨.fault, some k, .absent, .driveFault, .absent, s.lineClock⟩ : Notice) ∈
      (ruleState s k axis rep c.ctx.runState).management.notices :=
  ((updateFor_follows _ k axis).trans (runStateRules_follows _ k c.ctx.runState _)).notices _
    (faultState_notice hc hf hn hm hroom)

theorem ruleState_fault_known (hn : c.ctx.flags.driveFault = true) (axis : Axis) :
    s.Follows 4 (ruleState s k axis rep c.ctx.runState) :=
  ((faultState_follows hc hf hn).trans (updateFor_follows _ k axis)).trans (runStateRules_follows _ k _ _)

variable (hst : c.ctx.runState = .stopping ∨ c.ctx.runState = .halted)
include hst

theorem ruleState_fault_stops (axis : Axis) : s.Stops (ruleState s k axis rep c.ctx.runState) k .driveFault := by
  have hl : c.ctx.runState ≠ .lost := by rcases hst with h | h <;> simp [h]
  exact ((faultState_stops hc hf hl).then (updateFor_follows _ k axis).toKeeps).then
    (runStateRules_follows _ k c.ctx.runState _).toKeeps

include hr

/-- The carriage after a drive fault: run state and marks as without it, the flag, no active move (R11, R19, R20). -/
theorem ruleState_fault_carriage (axis : Axis) :
    ∃ d, (ruleState s k axis rep c.ctx.runState).carriage k = some d ∧ d.ctx.flags.driveFault = true ∧
      d.ctx.activeX = none ∧ d.ctx.activeZ = none ∧
      (c.ctx.runState = .stopping →
        d.ctx.stillX = (if axis = .x then decide (rep.axis.velocity.natAbs ≤ r.vStill) else c.ctx.stillX) ∧
          d.ctx.stillZ = (if axis = .z then decide (rep.axis.velocity.natAbs ≤ r.vStill) else c.ctx.stillZ) ∧
          d.ctx.runState = if d.ctx.stillX = true ∧ d.ctx.stillZ = true then .halted else .stopping) ∧
      (c.ctx.runState = .halted →
        d.ctx.runState =
          if c.ctx.membership ≠ .excluded ∧ r.vStill < rep.axis.velocity.natAbs then .stopping else .halted) := by
  have hb := faultState_carriage (axis := axis) hc hf
  have hbk := (recordState_follows s k axis rep).toKeeps.trans (faultState_keeps _ k rep)
  have hbr : (faultState (recordState s k axis rep) k rep).record k = some r := (hbk.record k).trans hr
  rw [Carriage.broken_recorded hst] at hb
  have hrun : ((c.recorded s.lineClock axis rep).flagged .driveFault).cleared.ctx.runState = c.ctx.runState := by
    cases axis <;> rfl
  obtain ⟨t, d, ht, hfol, hd, hsame⟩ := runStateRules_settles hb hbr (before := c.ctx.runState)
    (by rcases hst with h | h <;> simp [h, RunState.tracked])
    (by rw [hrun]; rcases hst with h | h <;> simp [h]) axis rep.axis.velocity
  have htr : t.record k = some r := (hfol.record k).trans hbr
  have hdf : d.ctx.flags.driveFault = true := hsame.driveFault
  have hm : d.ctx.membership = c.ctx.membership := hsame.membership.trans (by cases axis <;> rfl)
  have hdr : d.ctx.runState = c.ctx.runState := hsame.runState.trans hrun
  have hx : d.ctx.stillX = c.ctx.stillX := hsame.stillX.trans (by cases axis <;> rfl)
  have hz : d.ctx.stillZ = c.ctx.stillZ := hsame.stillZ.trans (by cases axis <;> rfl)
  have hrule : ruleState s k axis rep c.ctx.runState = applyVelocity t k c.ctx.runState (.drive axis rep.axis.velocity) := ht
  rw [hrule]
  rcases hst with h | h
  · obtain ⟨hfl, hax, haz, -⟩ := d.stilled_rest axis (decide (rep.axis.velocity.natAbs ≤ r.vStill))
    rw [h]
    refine ⟨_, markStill_carriage hd htr axis _, (congrArg (·.driveFault) hfl).trans hdf, hax.trans (hsame.activeX rfl),
      haz.trans (hsame.activeZ rfl), fun _ => ⟨?_, ?_, Carriage.stilled_runState (hdr.trans h) ..⟩, fun hx => nomatch hx⟩
    · rw [Carriage.stilled_stillX, hx]
    · rw [Carriage.stilled_stillZ, hz]
  · obtain ⟨e, he, hrs, hef, hax, haz, -, -⟩ := applyVelocity_halted_carriage hd htr (hdr.trans h) axis rep.axis.velocity
    rw [h]
    exact ⟨e, he, hef.trans hdf, hax (hsame.activeX rfl), haz (hsame.activeZ rfl), (fun hx => nomatch hx),
      fun _ => hm ▸ hrs⟩

/-- On a Z STATE of a FRESH carriage the drive fault moves no reservation and no other carriage. -/
theorem ruleState_fault_z (hfr : c.ctx.fresh = true) :
    ∃ d, (ruleState s k .z rep c.ctx.runState).carriage k = some d ∧ d.reservation = c.reservation ∧
      (c.ctx.membership ≠ .excluded → d.ctx.flags = { c.ctx.flags with driveFault := true }) ∧
      ∀ j, j ≠ k → (ruleState s k .z rep c.ctx.runState).carriage j = s.carriage j := by
  have hb := faultState_carriage (axis := .z) hc hf
  have hbk := (recordState_follows s k .z rep).toKeeps.trans (faultState_keeps _ k rep)
  have hbr : (faultState (recordState s k .z rep) k rep).record k = some r := (hbk.record k).trans hr
  rw [Carriage.broken_recorded hst] at hb
  have hrule : ruleState s k .z rep c.ctx.runState =
      applyVelocity (faultState (recordState s k .z rep) k rep) k c.ctx.runState (.drive .z rep.axis.velocity) :=
    runStateRules_at_once hb hbr (by rcases hst with h | h <;> simp [h, RunState.tracked]) (.inl ⟨rfl, hfr⟩) _
  have hne (j : Nat) (hj : j ≠ k) : (ruleState s k .z rep c.ctx.runState).carriage j = s.carriage j := by
    rw [hrule, applyVelocity_ne hb hbr hj, faultState_ne hf hj]
  rw [hrule] at hne ⊢
  rcases hst with h | h
  · rw [h] at hne ⊢
    obtain ⟨hfl, -, -, hres⟩ := Carriage.stilled_rest .z (decide (rep.axis.velocity.natAbs ≤ r.vStill))
      ((c.recorded s.lineClock .z rep).flagged .driveFault).cleared
    exact ⟨_, markStill_carriage hb hbr .z _, hres, fun _ => hfl, hne⟩
  · obtain ⟨e, he, -, -, -, -, hres, hfl⟩ := applyVelocity_halted_carriage hb hbr h .z rep.axis.velocity
    rw [h] at hne ⊢
    exact ⟨e, he, hres, hfl, hne⟩

end

/-- Settles O26: by the fault, the run state and the axis of the STATE. -/
theorem stillMarksSet : Obligations.StillMarksSet := by
  intro s k dst src seq payload rep c r h hh ho hp hc hr run still stopped
  have hc' : s.between.carriage k = some c := hc
  have hr' : s.between.record k = some r := hr
  -- What a STATE without fault comes to in STOPPING or HALTED.
  have hplain (hnf : rep.axis.status.fault = false) (axis : Axis) (before : RunState) :
      ruleState s.between k axis rep before =
        runStateRules (updateFor (recordState s.between k axis rep) k axis) k before
          (.drive axis rep.axis.velocity) := by
    rw [ruleState, faultState_none hnf]
  have hrec (axis : Axis) : (recordState s.between k axis rep).carriage k = some (c.recorded s.lineClock axis rep) :=
    recordState_carriage hc' axis rep
  have hrr (axis : Axis) : (recordState s.between k axis rep).record k = some r := hr
  have hrs (axis : Axis) : (c.recorded s.lineClock axis rep).ctx.runState = c.ctx.runState := by cases axis <;> rfl
  refine ⟨fun hnf => ⟨fun hst => ⟨fun hs => ?_, fun hs hfr => ?_⟩, fun hst hm hv => ⟨fun hs => ?_, fun hs hfr => ?_⟩,
    fun hst hm hv axis x park hs hpk hxx hxz => ?_⟩, fun hft hst axis hs => ?_⟩
  · obtain ⟨t, ht, hsh⟩ := exec_state_shows h hh ho hp (axis := .x) hs (hst ▸ runState_eq hc)
    obtain ⟨u, d, hu, hfol, hd, hsame⟩ := runStateRules_settles (hrec .x) (hrr .x) (before := .stopping) rfl
      (by simp [hrs, hst]) .x rep.axis.velocity
    have hdst : d.ctx.runState = .stopping := hsame.runState.trans ((hrs .x).trans hst)
    have hcar : t.carriage k = some (d.stilled .x still) := by
      rw [hsh.carriage, hplain hnf, hu, applyVelocity_stopping]
      exact markStill_carriage hd ((hfol.record k).trans (hrr .x)) _ _
    have hz : d.ctx.stillZ = c.ctx.stillZ := hsame.stillZ
    refine ⟨t, _, ht, hcar, d.stilled_stillX .x still, (d.stilled_stillZ .x still).trans hz, ?_⟩
    rw [Carriage.stilled_runState hdst, Carriage.stilled_stillX, Carriage.stilled_stillZ, if_pos rfl,
      if_neg (show ¬Axis.x = Axis.z by decide), hz]
  · have hmark := markStill_eq (hrr .z) (hrec .z) .z rep.axis.velocity
    have hrule : ruleState s.between k .z rep .stopping = markStill (recordState s.between k .z rep) k .z rep.axis.velocity := by
      rw [hplain hnf, runStateRules_at_once (hrec .z) (hrr .z) rfl (.inl ⟨rfl, hfr⟩)]
      rfl
    refine exec_state_exact h hh ho hp (axis := .z) hs (hst ▸ runState_eq hc) ?_
    have hcond : ((c.recorded s.lineClock .z rep).marked .z still).ctx.runState = .stopping ∧
        ((c.recorded s.lineClock .z rep).marked .z still).ctx.stillX ∧
        ((c.recorded s.lineClock .z rep).marked .z still).ctx.stillZ ↔ (still && c.ctx.stillX) = true := by
      rw [Bool.and_eq_true, and_comm (a := still = true)]
      exact and_iff_right hst
    rw [hrule, hmark]
    by_cases hx : (still && c.ctx.stillX) = true
    · rw [if_pos (hcond.mpr hx), if_pos hx, ← hand_between]
      refine (withReports_of_settled ?_).trans ?_
      · exact (handStateChange_reports ..).trans h.settled
      rw [handStateChange, recordState_eq, State.modContext, modCarriage_modCarriage, modCarriage_modCarriage]
      refine congrArg (hand · ..) (modCarriage_congr (s := s.between) fun d hd => ?_)
      cases hd.symm.trans hc'
      rw [if_pos hx]
      rfl
    · rw [if_neg (mt hcond.mp hx), if_neg hx, recordState_eq, modCarriage_modCarriage]
      refine (withReports_of_settled (s := s.between.modCarriage k _) h.settled).trans
        (modCarriage_congr (s := s.between) fun d hd => ?_)
      cases hd.symm.trans hc'
      rw [if_neg hx, ← hst]
      rfl
  · obtain ⟨t, ht, hsh⟩ := exec_state_shows h hh ho hp (axis := .x) hs (hst ▸ runState_eq hc)
    obtain ⟨u, d, hu, hfol, hd, hsame⟩ := runStateRules_settles (hrec .x) (hrr .x) (before := .halted) rfl
      (by simp [hrs, hst]) .x rep.axis.velocity
    have hur : u.record k = some r := (hfol.record k).trans (hrr .x)
    have hdm : d.ctx.membership ≠ .excluded := hsame.membership.trans_ne hm
    have hrule : ruleState s.between k .x rep .halted = unbiddenMotion u k := by
      rw [hplain hnf, hu, applyVelocity_halted hur, if_pos hv]
    rw [hrule] at hsh
    refine ⟨t, d.slowed.cleared, ht, ?_, rfl, rfl, rfl, fun axis node hn => ?_⟩
    · rw [hsh.carriage, State.carriage_modify_self (unbiddenMotion_working_carriages hd hur hdm), hd]
      rfl
    · rw [hsh.stops]
      refine (unbiddenMotion_working_stops hd hur hdm).node (axis := axis) ?_
      rw [hfol.addressOf]
      exact hn
  · obtain ⟨t, ht, hsh⟩ := exec_state_shows h hh ho hp (axis := .z) hs (hst ▸ runState_eq hc)
    have hdm : (c.recorded s.lineClock .z rep).ctx.membership ≠ .excluded := hm
    have hrule : ruleState s.between k .z rep .halted = unbiddenMotion (recordState s.between k .z rep) k := by
      rw [hplain hnf, runStateRules_at_once (hrec .z) (hrr .z) rfl (.inl ⟨rfl, hfr⟩), applyVelocity_halted (hrr .z),
        if_pos hv]
    rw [hrule] at hsh
    refine ⟨t, (c.recorded s.lineClock .z rep).slowed.cleared, ht, ?_, rfl, rfl, rfl, rfl, rfl, ?_, fun j hj => ?_⟩
    · rw [hsh.carriage, State.carriage_modify_self (unbiddenMotion_working_carriages (hrec .z) (hrr .z) hdm), hrec]
      rfl
    · exact ((unbiddenMotion_working_stops (hrec .z) (hrr .z) hdm).after
        (recordState_follows s.between k .z rep).toKeeps rfl).shown hsh
    · rw [hsh.carriage, State.carriage_modify_ne (unbiddenMotion_working_carriages (hrec .z) (hrr .z) hdm) hj,
        recordState_eq, State.carriage_modify_ne (State.modCarriage_carriages ..) hj]
      rfl
  · obtain ⟨t, ht, hsh⟩ := exec_state_shows h hh ho hp hs (hst ▸ runState_eq hc)
    have hdm : (c.recorded s.lineClock axis rep).ctx.membership = .excluded := by cases axis <;> exact hm
    have hlast : (c.recorded s.lineClock axis rep).ctx.lastX = some x := by
      cases axis with
      | x => exact congrArg some (hxx rfl).symm
      | z => exact hxz rfl
    have hrule : ruleState s.between k axis rep .halted =
        if (occupancy r s.railLength x.position).within park then requestStops (recordState s.between k axis rep) k .halt
        else requestStops (raiseFlag (recordState s.between k axis rep) k .excursion) k .excursion := by
      rw [hplain hnf, runStateRules_at_once (hrec axis) (hrr axis) rfl (.inr hdm), applyVelocity_halted (hrr axis),
        if_pos hv, unbiddenMotion_excluded (hrec axis) (hrr axis) hdm hlast hpk]
      rfl
    have hparked : (occupancy r s.railLength x.position).within park = true ↔
        park.lo ≤ (occupancy r s.railLength x.position).lo ∧ (occupancy r s.railLength x.position).hi ≤ park.hi := by
      simp [Interval.within]
    have hrk := (recordState_follows s.between k axis rep).toKeeps
    intro parked
    by_cases hin : parked
    · rw [hrule, if_pos (hparked.mpr hin)] at hsh
      have hcs : t.carriages = s.carriages.modify k fun c => (c.recorded s.lineClock axis rep).cleared := by
        rw [hsh.carriages, requestStops_carriages, recordState_eq, State.modCarriage_carriages, List.modify_modify_eq]
        rfl
      refine ⟨t, _, ht, (State.carriage_modify_self hcs).trans (congrArg _ hc), by cases axis <;> exact hst,
        by cases axis <;> rfl, fun _ => ⟨by cases axis <;> rfl, ?_⟩, fun hn => absurd hin hn, fun j hj =>
        State.carriage_modify_ne hcs hj⟩
      exact ((requestStops_stops _ k .halt).after hrk rfl).shown hsh
    · rw [hrule, if_neg (mt hparked.mp hin)] at hsh
      have hcs : t.carriages = s.carriages.modify k fun c =>
          ((c.recorded s.lineClock axis rep).flagged .excursion).cleared := by
        rw [hsh.carriages, requestStops_carriages, raiseFlag_carriages, recordState_eq, State.modCarriage_carriages,
          List.modify_modify_eq, List.modify_modify_eq]
        rfl
      refine ⟨t, _, ht, (State.carriage_modify_self hcs).trans (congrArg _ hc), by cases axis <;> exact hst,
        by cases axis <;> rfl, fun hn => absurd hn hin, fun _ => ⟨by cases axis <;> rfl, ?_⟩, fun j hj =>
        State.carriage_modify_ne hcs hj⟩
      exact ((requestStops_stops _ k .excursion).after (hrk.trans (raiseFlag_keeps ..))
        (raiseFlag_stops ..)).shown hsh
  · obtain ⟨t, ht, hsh⟩ := exec_state_shows h hh ho hp hs (runState_eq hc)
    obtain ⟨d, hd, hdf, hax, haz, hstop, hhalt⟩ := ruleState_fault_carriage hc' hr' hft hst axis
    refine ⟨t, d, ht, (hsh.carriage k).trans hd, hdf, hax, haz, (ruleState_fault_stops hc' hft hst axis).shown hsh, ?_, ?_,
      hstop, hhalt, ?_⟩
    · intro hn hm hroom
      rw [hsh.management]
      exact ruleState_fault_notice (s := s.between) hc' hft hn hm hroom axis
    · intro hn n hmem hk hcause
      rw [hsh.management] at hmem
      exact (ruleState_fault_known hc' hft hn axis).faults n hmem hk hcause
    · rintro rfl hfr
      obtain ⟨e, he, hres, hfl, hne⟩ := ruleState_fault_z hc' hr' hft hst hfr
      obtain rfl : e = d := Option.some.inj (he.symm.trans hd)
      exact ⟨hres, hfl, fun j hj => (hsh.carriage j).trans (hne j hj)⟩

end Sys2Proof.Machine
end

section
/-! PROOFS. First data (R13), by a STATE or a SENSE_HEAD; and a drive fault in UNSEEN (R11). -/

namespace Sys2Proof.Machine

/-! Arrival sets (R9). -/

/-- A node of the arrival set whose arrival is less than `w` ms old. -/
def Young (now : Clock) (w : Nat) (t : Option Clock) : Prop := ∃ a, t = some a ∧ age now a < w

theorem allYoung_iff (c : Context) (now : Clock) (w : Nat) :
    c.allYoung now w = true ↔ Young now w c.arrivalX ∧ Young now w c.arrivalZ ∧ Young now w c.arrivalHead := by
  unfold Context.allYoung Young
  cases c.arrivalX <;> cases c.arrivalZ <;> cases c.arrivalHead <;> simp [and_assoc]

theorem freshSet_iff (c : Context) (now : Clock) (w : Nat) :
    c.freshSet now w = true ↔
      (c.inSetX = true ∧ Young now w c.arrivalX) ∧ (c.inSetZ = true ∧ Young now w c.arrivalZ) ∧
        (c.inSetHead = true ∧ Young now w c.arrivalHead) := by
  rw [Context.freshSet, Bool.and_eq_true, Bool.and_eq_true, Bool.and_eq_true, allYoung_iff]
  constructor
  · rintro ⟨⟨⟨hx, hz⟩, hh⟩, yx, yz, yh⟩
    exact ⟨⟨hx, yx⟩, ⟨hz, yz⟩, hh, yh⟩
  · rintro ⟨⟨hx, yx⟩, ⟨hz, yz⟩, hh, yh⟩
    exact ⟨⟨⟨hx, hz⟩, hh⟩, yx, yz, yh⟩

/-- An arrival at this very millisecond is young. -/
theorem young_now {now : Clock} {w : Nat} (h : 0 < w) : Young now w (some now) := ⟨now, rfl, by simpa [age] using h⟩

/-! A reservation set, its reports set aside. -/

theorem hand_withReports (s : State) (rs : List Report) (a : NoticeKind) (b : Option Nat) (c : Reference) (d : Cause)
    (e : Detail) : hand (s.withReports rs) a b c d e = (hand s a b c d e).withReports rs := by
  simp only [hand_eq]
  rfl

theorem modCarriage_withReports (s : State) (rs : List Report) (k : Nat) (g : Carriage → Carriage) :
    (s.withReports rs).modCarriage k g = (s.modCarriage k g).withReports rs := rfl

theorem withReports_withReports (s : State) (rs ss : List Report) :
    (s.withReports rs).withReports ss = s.withReports ss := rfl

theorem setReservation_tested {s : State} {k : Nat} {c : Carriage} (hc : s.carriage k = some c)
    (r : Option Reservation) :
    setReservation s k r =
      (testFences (s.modCarriage k (·.reserved r))).withReports (s.reports ++ reservationReports k c.reservation r) := by
  rw [setReservation_eq hc, testFences_withReports]
  rfl

@[simp] theorem setReservation_stops (s : State) (k : Nat) (r : Option Reservation) :
    (setReservation s k r).port.stops = s.port.stops := by
  cases hc : s.carriage k with
  | none => simp [setReservation, hc]
  | some c =>
    rw [setReservation_tested hc, testFences_eq]
    rfl

theorem hand_stops (s : State) (a : NoticeKind) (b : Option Nat) (c : Reference) (d : Cause) (e : Detail) :
    (hand s a b c d e).port.stops = s.port.stops := by
  rw [hand_eq]
  rfl

/-! First data (R13, R67). -/

theorem firstRunState_eq (c : Context) (r : CarriageRecord) (emergency : Bool) :
    firstRunState c r emergency =
      if c.unseenOrigin = some .powerOn ∨ r.startHeld = true ∨ c.flags.any = true ∨ emergency = true then .halted
      else .active := by
  simp [firstRunState, or_assoc]

theorem firstSet_carriages (s : State) (k : Nat) (r : CarriageRecord) (p : Nat) (env : Interval) (stopping : Bool) :
    (firstSet s k r p env stopping).carriages =
      s.carriages.modify k fun c =>
        (c.reserved (some ⟨env, .plain⟩)).firstSeen r p stopping s.inputs.emergency := by
  rw [firstSet, State.modCarriage_carriages, setReservation_carriages, List.modify_modify_eq]
  rfl

/-- First data in one change of the carriage, its reports set aside. -/
theorem firstSet_tested {s : State} {k : Nat} {c : Carriage} (hc : s.carriage k = some c) (r : CarriageRecord) (p : Nat)
    (env : Interval) (stopping : Bool) :
    firstSet s k r p env stopping =
      (testFences
        (s.modCarriage k fun c =>
          (c.reserved (some ⟨env, .plain⟩)).firstSeen r p stopping s.inputs.emergency)).withReports
        (s.reports ++ reservationReports k c.reservation (some ⟨env, .plain⟩)) := by
  have hm (u : State) : (testFences u).modCarriage k (·.firstSeen r p stopping s.inputs.emergency) =
      testFences (u.modCarriage k (·.firstSeen r p stopping s.inputs.emergency)) :=
    (testFences_modCarriage u k (g := (·.firstSeen r p stopping s.inputs.emergency)) fun _ => rfl).symm
  rw [firstSet, setReservation_tested hc, modCarriage_withReports, hm, modCarriage_modCarriage]
  exact congrArg (fun u => (testFences u).withReports _) rfl

section
variable {s : State} {k : Nat} {c : Carriage} {r : CarriageRecord} {x : AxisReport} {env : Interval} {close : List Nat}
  (hc : s.carriage k = some c) (hr : s.record k = some r) (hx : c.ctx.lastX = some x)
  (he : envelope r s.railLength x.position x.velocity = env) (hn : s.closeNeighbours k env = close)
include hc hr hx he hn

/-- First data of a standing carriage, clear of its neighbours. -/
theorem firstData_stands (hv : ¬r.vStill < x.velocity.natAbs) (hclose : close = []) :
    firstData s k =
      handStateChange (firstSet s k r x.position env false) k (firstRunState c.ctx r s.inputs.emergency).cause := by
  subst hclose
  rw [firstData_eq hc hr hx he hn (stopping := false) (by simp [hv])]
  rfl

/-- First data of a carriage that moves, or lies too close to a neighbour. -/
theorem firstData_stops (hv : r.vStill < x.velocity.natAbs ∨ close ≠ []) :
    firstData s k =
      haltNeighbours
        (handStateChange
          (requestStops (firstSet s k r x.position env true) k (if close.isEmpty then .halt else .excursion)) k .stopping)
        close := by
  rw [firstData_eq hc hr hx he hn (stopping := true) (by simpa using hv)]
  rfl

/-- What first data leaves of each carriage it touches, and of the STOP entries (R13, R45, R67). -/
theorem firstData_taken :
    ∃ d, (firstData s k).carriage k = some d ∧ d.reservation = some ⟨env, .plain⟩ ∧ d.ctx.fresh = true ∧
      d.ctx.unseenOrigin = none ∧ d.ctx.flags = c.ctx.flags ∧ d.ctx.lastX = some x ∧
      d.virtualX = (if c.ctx.membership = .shadow then some x.position else c.virtualX) ∧ d.load = c.load ∧
      (¬(r.vStill < x.velocity.natAbs ∨ close ≠ []) →
        d.ctx.runState = firstRunState c.ctx r s.inputs.emergency ∧ (firstData s k).port.stops = s.port.stops) ∧
      (r.vStill < x.velocity.natAbs ∨ close ≠ [] →
        d.ctx.runState = .stopping ∧ d.ctx.stillX = false ∧ d.ctx.stillZ = false ∧
          s.Stops (firstData s k) k (if close = [] then .halt else .excursion)) ∧
      ∀ j ∈ close, ∃ e, (firstData s k).carriage j = some e ∧ e.ctx.runState ≠ .active ∧
        (s.carriage j).map (·.ctx.flags) = some e.ctx.flags := by
  have hset (stopping : Bool) := firstSet_carriages s k r x.position env stopping
  by_cases hv : r.vStill < x.velocity.natAbs ∨ close ≠ []
  · rw [firstData_stops hc hr hx he hn hv]
    have hcs : (handStateChange (requestStops (firstSet s k r x.position env true) k
        (if close.isEmpty then .halt else .excursion)) k .stopping).carriages = s.carriages.modify k fun c =>
          ((c.reserved (some ⟨env, .plain⟩)).firstSeen r x.position true s.inputs.emergency).cleared := by
      rw [handStateChange_carriages, requestStops_carriages, hset, List.modify_modify_eq]
      rfl
    have hk : k ∉ close := fun hm => ne_of_mem_neighbours (mem_closeNeighbours_iff.mp (hn ▸ hm)).1 rfl
    have hcar : (handStateChange (requestStops (firstSet s k r x.position env true) k
        (if close.isEmpty then .halt else .excursion)) k .stopping).carriage k =
          some ((c.reserved (some ⟨env, .plain⟩)).firstSeen r x.position true s.inputs.emergency).cleared := by
      rw [State.carriage_modify_self hcs, hc]
      rfl
    refine ⟨((c.reserved (some ⟨env, .plain⟩)).firstSeen r x.position true s.inputs.emergency).cleared, ?_, rfl, rfl, rfl,
      rfl, hx, rfl, rfl, fun h => absurd hv h, fun _ => ⟨rfl, rfl, rfl, ?_⟩, fun j hj => ?_⟩
    · rw [haltNeighbours_carriage, if_neg hk, hcar]
    · have hfol : s.Follows 2 (firstSet s k r x.position env true) :=
        (setReservation_follows ..).trans
          (.modCarriage _ k (g := (·.firstSeen r x.position true s.inputs.emergency)) fun _ hn => hn)
      have hreason : (if close.isEmpty then StopReason.halt else .excursion) = if close = [] then .halt else .excursion := by
        cases close <;> rfl
      rw [hreason]
      exact (((requestStops_stops _ k _).after hfol.toKeeps (setReservation_stops ..)).then
        (handStateChange_follows ..).toKeeps).then (haltNeighbours_follows ..).toKeeps
    · have hjn := (mem_closeNeighbours_iff.mp (hn ▸ hj)).1
      have hjk := ne_of_mem_neighbours hjn
      obtain ⟨d, hd⟩ : ∃ d, s.carriage j = some d :=
        ⟨_, List.getElem?_eq_getElem (lt_of_mem_neighbours (carriage_lt hc) hjn)⟩
      refine ⟨d.halted, ?_, d.halted_not_active, by rw [hd, Carriage.halted_flags]; rfl⟩
      rw [haltNeighbours_carriage, if_pos hj, State.carriage_modify_ne hcs hjk, hd]
      rfl
  · obtain ⟨hm, hclose⟩ := not_or.mp hv
    rw [not_not] at hclose
    rw [firstData_stands hc hr hx he hn hm hclose]
    refine ⟨(c.reserved (some ⟨env, .plain⟩)).firstSeen r x.position false s.inputs.emergency, ?_, rfl, rfl, rfl, rfl, hx,
      rfl, rfl, fun _ => ⟨rfl, ?_⟩, fun h => absurd h hv, fun j hj => ?_⟩
    · rw [State.carriage_congr (handStateChange_carriages ..), State.carriage_modify_self (hset false), hc]
      rfl
    · exact (hand_stops ..).trans (setReservation_stops ..)
    · simp [hclose] at hj

end

/-! A SENSE_HEAD that finds an EMPTY load (R12, R88). -/

/-- A carriage with its head's arrival recorded (R9). -/
def Carriage.heard (now : Clock) (c : Carriage) : Carriage := { c with ctx := c.ctx.arrived now .head }

/-- A carriage with both module counts set (R88). -/
def Carriage.counted (modules : Nat) (c : Carriage) : Carriage :=
  { c with modulesReported := modules, modulesInForce := modules }

theorem readHeadArrival_eq {s : State} {k : Nat} {c : Carriage} (hc : s.carriage k = some c) :
    readHeadArrival s k = runStateRules (s.modCarriage k (·.heard s.lineClock)) k c.ctx.runState .head := by
  unfold readHeadArrival
  rw [runState_eq hc]
  rfl

theorem readHeadArrival_follows (s : State) (k : Nat) : s.Follows 2 (readHeadArrival s k) := by
  cases hc : s.carriage k with
  | none =>
    have : readHeadArrival s k = s := by simp [readHeadArrival, State.runState, hc]
    rw [this]
    exact (State.Follows.refl s).mono (by omega)
  | some c =>
    rw [readHeadArrival_eq hc]
    exact (State.Follows.modCarriage s k (g := (·.heard s.lineClock)) fun _ h => h).trans (runStateRules_follows ..)

section
variable {s : State} (h : s.Running) (hh : s.NoHeld) {dst src seq : Byte} {payload : List Byte} {rep : HeadReport}
  {k : Nat} {c d : Carriage} (ho : ¬s.Own dst) (hp : parseSenseHead payload = some rep)
  (hs : s.roleOf src.toNat = some (.head k)) (hc : s.carriage k = some c)
  (hd : (readHeadArrival s.between k).carriage k = some d) (hl : d.load = none)
include h hh ho hp hs hc hd hl

/-- The step of a SENSE_HEAD that finds no held move and leaves the load EMPTY. -/
theorem exec_senseHead_noHeld :
    exec (.senseHead dst src seq payload) s =
      .next
        ((((readHeadArrival s.between k).modCarriage k (·.counted rep.modules)).withReports []).passedUp
          ⟨dst, src, 0x40, seq, payload⟩) := by
  have hread : readHead (readHeadArrival s.between k) k rep =
      (readHeadArrival s.between k).modCarriage k (·.counted rep.modules) := readHead_empty hd hl rep
  have hk := (readHeadArrival_follows s.between k).trans
    (.modCarriage (readHeadArrival s.between k) k (g := (·.counted rep.modules)) fun _ hn => hn)
  have hreports : s.between.reports = [] := h.settled
  have hlen := hk.reports
  rw [hreports] at hlen
  rw [exec_senseHead h ho hp hs hc, hread, finish_passedUp_noHeld (hk.noHeld hh) (hlen.trans (by decide))]

/-- The same, by what is seen afterwards. -/
theorem exec_senseHead_shows :
    ∃ t, exec (.senseHead dst src seq payload) s = .next t ∧
      t.Shows ((readHeadArrival s.between k).modCarriage k (·.counted rep.modules)) :=
  ⟨_, exec_senseHead_noHeld h hh ho hp hs hc hd hl, State.passedUp_shows ..⟩

/-- The same, as one change of the state. -/
theorem exec_senseHead_exact {u : State}
    (hu : ((readHeadArrival s.between k).modCarriage k (·.counted rep.modules)).withReports [] = u.between) :
    exec (.senseHead dst src seq payload) s = .next (u.passedUp ⟨dst, src, 0x40, seq, payload⟩) := by
  rw [exec_senseHead_noHeld h hh ho hp hs hc hd hl]
  exact congrArg Host.Outcome.next (State.passedUp_of_between hu _)

end

end Sys2Proof.Machine
end

section
/-! PROOFS. First data settled (R13): the report completes the arrival set, or shows a drive fault while it is incomplete. -/

namespace Sys2Proof.Machine

/-! STOP requests for both drives (R126). -/

theorem requestStops_eq (s : State) (k : Nat) (r : StopReason) :
    requestStops s k r =
      (s.modCarriage k (·.cleared)).withPort
        ((s.port.stopFor r s.someWaits (s.addressOf (driveRole k .x))).stopFor r s.someWaits
          (s.addressOf (driveRole k .z))) := by
  have hmod : (s.modCarriage k (·.clearAxis .x)).modCarriage k (·.clearAxis .z) = s.modCarriage k (·.cleared) :=
    modCarriage_modCarriage ..
  have hw : ((s.modCarriage k (·.clearAxis .x)).withPort
      (s.port.stopFor r s.someWaits (s.addressOf (driveRole k .x)))).someWaits = s.someWaits :=
    someWaits_modCarriage s k (Carriage.clearAxis_slot .x)
  have ha : (requestStop s k .x r).addressOf (driveRole k .z) = s.addressOf (driveRole k .z) :=
    (requestStop_follows s k .x r).addressOf _
  rw [requestStop_eq] at ha
  rw [requestStops, requestStop_eq s, requestStop_eq, hw, ha, ← hmod]
  rfl

/-- Two changes of a carriage that differ in its active moves alone are the same once both drives are stopped. -/
theorem requestStops_modCarriage_congr {s : State} {k : Nat} {f g : Carriage → Carriage}
    (hf : ∀ c, (f c).slot = c.slot) (hg : ∀ c, (g c).slot = c.slot)
    (h : ∀ c, s.carriage k = some c → (f c).cleared = (g c).cleared) (r : StopReason) :
    requestStops (s.modCarriage k f) k r = requestStops (s.modCarriage k g) k r := by
  have hmod : (s.modCarriage k f).modCarriage k (·.cleared) = (s.modCarriage k g).modCarriage k (·.cleared) := by
    rw [modCarriage_modCarriage, modCarriage_modCarriage]
    exact modCarriage_congr h
  rw [requestStops_eq, requestStops_eq, someWaits_modCarriage s k hf, someWaits_modCarriage s k hg, hmod]
  rfl

/-- A flag that is set is added without effect. -/
theorem Carriage.flagged_of_has {c : Carriage} {f : Flag} (h : c.ctx.flags.has f = true) : c.flagged f = c := by
  rw [Carriage.flagged, FaultFlags.add_of_has h]

/-! The drive fault of an UNSEEN carriage (R11): flag and STOPs, and nothing of its run state. -/

/-- An UNSEEN carriage after a STATE and its drive fault, if any. -/
def Carriage.seen (now : Clock) (axis : Axis) (rep : StateReport) (c : Carriage) : Carriage :=
  if rep.axis.status.fault then ((c.recorded now axis rep).flagged .driveFault).cleared else c.recorded now axis rep

theorem Carriage.seen_kept (now : Clock) (axis : Axis) (rep : StateReport) (c : Carriage) :
    (c.seen now axis rep).ctx.unseenOrigin = c.ctx.unseenOrigin ∧
      (c.seen now axis rep).ctx.membership = c.ctx.membership ∧ (c.seen now axis rep).virtualX = c.virtualX ∧
      (c.seen now axis rep).ctx.lastX = if axis = .x then some rep.axis else c.ctx.lastX := by
  unfold Carriage.seen
  cases axis <;> split <;> exact ⟨rfl, rfl, rfl, rfl⟩

theorem Carriage.seen_flags (now : Clock) (axis : Axis) (rep : StateReport) (c : Carriage) :
    (c.seen now axis rep).ctx.flags =
      if rep.axis.status.fault then { c.ctx.flags with driveFault := true } else c.ctx.flags := by
  unfold Carriage.seen
  cases axis <;> split <;> rfl

/-- A change of the carriage, told with a FAULT notice where the drive fault is new (R11, R29). -/
def tellFault (s : State) (k : Nat) (c : Carriage) (g : Carriage → Carriage) : State :=
  if c.ctx.flags.driveFault then s.changed k g
  else hand (s.changed k g) .fault (some k) .absent .driveFault .absent

theorem tellFault_between (s : State) (k : Nat) (c : Carriage) (g : Carriage → Carriage) :
    tellFault s.between k c g = (tellFault s k c g).between := by
  unfold tellFault
  rw [apply_ite State.between, ← hand_between]
  rfl

@[simp] theorem tellFault_reports (s : State) (k : Nat) (c : Carriage) (g : Carriage → Carriage) :
    (tellFault s k c g).reports = s.reports := by
  unfold tellFault
  split
  · rfl
  · exact hand_reports ..

section
variable {s : State} {k : Nat} {c : Carriage} {rep : StateReport} (hc : s.carriage k = some c)
include hc

/-- The drive fault of an UNSEEN carriage, step by step. -/
theorem faultState_unseen (hu : c.ctx.runState = .unseen) (hf : rep.axis.status.fault = true) (axis : Axis) :
    faultState (recordState s k axis rep) k rep =
      requestStops (raiseFlag (recordState s k axis rep) k .driveFault) k .driveFault := by
  have hd := recordState_carriage hc axis rep
  have hr : (raiseFlag (recordState s k axis rep) k .driveFault).runState k = some .unseen := by
    have hx : (raiseFlag (recordState s k axis rep) k .driveFault).carriage k =
        some ((c.recorded s.lineClock axis rep).flagged .driveFault) := by
      rw [State.carriage_modify_self (raiseFlag_carriages ..), hd]
      rfl
    rw [runState_eq hx]
    cases axis <;> exact congrArg some hu
  rw [faultState_fault hf, haltCarriage_flag, haltCarriage_still hr (by decide) (by decide)]

/-- A flag raised right after a STATE has been recorded, in one change of the carriage. -/
theorem raiseFlag_recordState (f : Flag) (axis : Axis) :
    raiseFlag (recordState s k axis rep) k f =
      if c.ctx.flags.has f then s.modCarriage k fun c => (c.recorded s.lineClock axis rep).flagged f
      else
        hand (s.modCarriage k fun c => (c.recorded s.lineClock axis rep).flagged f) .fault (some k) .absent f.cause
          .absent := by
  have hd := recordState_carriage hc axis rep
  have hfl : (c.recorded s.lineClock axis rep).ctx.flags = c.ctx.flags := Carriage.recorded_flags ..
  split
  · rename_i hf
    rw [raiseFlag_set hd (hfl ▸ hf), recordState_eq]
    refine modCarriage_congr fun d hd => ?_
    cases hd.symm.trans hc
    exact (Carriage.flagged_of_has (hfl ▸ hf)).symm
  · rename_i hf
    rw [raiseFlag_clear hd (hfl ▸ Bool.eq_false_iff.mpr hf), recordState_eq, State.modContext, modCarriage_modCarriage]
    rfl

theorem faultState_unseen_carriages (hu : c.ctx.runState = .unseen) (axis : Axis) :
    (faultState (recordState s k axis rep) k rep).carriages = s.carriages.modify k (·.seen s.lineClock axis rep) := by
  by_cases hf : rep.axis.status.fault = true
  · rw [faultState_unseen hc hu hf, requestStops_carriages, raiseFlag_carriages, recordState_eq,
      State.modCarriage_carriages, List.modify_modify_eq, List.modify_modify_eq]
    exact modify_congr_of fun d _ => (if_pos hf).symm
  · rw [faultState_none (Bool.eq_false_iff.mpr hf), recordState_eq, State.modCarriage_carriages]
    exact modify_congr_of fun d _ => (if_neg hf).symm

/-- The drive fault of an UNSEEN carriage, whatever change of it `g` differs from the recorded one in its active moves. -/
theorem faultState_unseen_eq (hu : c.ctx.runState = .unseen) (hf : rep.axis.status.fault = true) (axis : Axis)
    {g : Carriage → Carriage} (hslot : ∀ d, (g d).slot = d.slot)
    (hg : ((c.recorded s.lineClock axis rep).flagged .driveFault).cleared = (g c).cleared) :
    faultState (recordState s k axis rep) k rep = requestStops (tellFault s k c g) k .driveFault := by
  have hstop (u : State) (hcs : u.carriages = s.carriages) :
      requestStops (u.modCarriage k fun c => (c.recorded s.lineClock axis rep).flagged .driveFault) k .driveFault =
        requestStops (u.modCarriage k g) k .driveFault := by
    refine requestStops_modCarriage_congr (f := fun c => (c.recorded s.lineClock axis rep).flagged .driveFault)
      (fun _ => rfl) hslot (fun d hd => ?_) _
    have hcd : c = d := Option.some.inj (hc.symm.trans ((State.carriage_congr hcs k).symm.trans hd))
    exact hcd ▸ hg
  rw [faultState_unseen hc hu hf, raiseFlag_recordState hc, tellFault]
  by_cases hd : c.ctx.flags.driveFault = true
  · rw [if_pos (show c.ctx.flags.has .driveFault = true from hd), if_pos hd]
    exact hstop s rfl
  · rw [if_neg (show ¬c.ctx.flags.has .driveFault = true from hd), if_neg hd, hand_modCarriage, hstop _ (hand_carriages ..)]
    exact congrArg (requestStops · k _) (hand_modCarriage s k g ..).symm

/-- In UNSEEN a STATE moves no reservation, and first data is taken once the arrival set is fresh (R10, R13). -/
theorem ruleState_unseen {r : CarriageRecord} (hr : s.record k = some r) (hu : c.ctx.runState = .unseen) (axis : Axis) :
    ruleState s k axis rep .unseen =
      if (c.recorded s.lineClock axis rep).ctx.freshSet s.lineClock r.w then
        firstData (faultState (recordState s k axis rep) k rep) k
      else faultState (recordState s k axis rep) k rep := by
  have hk := (recordState_follows s k axis rep).toKeeps.trans (faultState_keeps _ k rep)
  have hd : (faultState (recordState s k axis rep) k rep).carriage k = some (c.seen s.lineClock axis rep) := by
    rw [State.carriage_modify_self (faultState_unseen_carriages hc hu axis), hc]
    rfl
  have hdr := (hk.record k).trans hr
  have hrun : (c.seen s.lineClock axis rep).ctx.runState = .unseen := by
    unfold Carriage.seen
    split <;> cases axis <;> exact hu
  have hset (w : Nat) : (c.seen s.lineClock axis rep).ctx.freshSet s.lineClock w =
      (c.recorded s.lineClock axis rep).ctx.freshSet s.lineClock w := by
    unfold Carriage.seen
    split <;> rfl
  have hupd : updateFor (faultState (recordState s k axis rep) k rep) k axis = faultState (recordState s k axis rep) k rep := by
    cases axis with
    | x => exact updateReservation_idle hd hdr (.inl (by rw [hrun]; rfl))
    | z => rfl
  rw [ruleState, hupd, runStateRules_unseen hd hdr, hk.lineClock, hset]

end

/-- First data of a standing carriage by a SENSE_HEAD, clear of its neighbours, as one change of the carriage. -/
theorem firstData_heard {s : State} {k : Nat} {c : Carriage} {r : CarriageRecord} {x : AxisReport} {env : Interval}
    (hc : s.carriage k = some c) (hr : s.record k = some r) (hx : c.ctx.lastX = some x)
    (he : envelope r s.railLength x.position x.velocity = env) (hn : s.closeNeighbours k env = [])
    (hv : ¬r.vStill < x.velocity.natAbs) (hreports : s.reports = []) (n : Nat) {g : Carriage → Carriage}
    (hg : (((c.heard s.lineClock).reserved (some ⟨env, .plain⟩)).firstSeen r x.position false
      s.inputs.emergency).counted n = g c) :
    ((firstData (s.modCarriage k (·.heard s.lineClock)) k).modCarriage k (·.counted n)).withReports [] =
      hand (testFences (s.changed k g)) .stateChange (some k) .absent
        (firstRunState c.ctx r s.inputs.emergency).cause .absent := by
  have hheard : (s.modCarriage k (·.heard s.lineClock)).carriage k = some (c.heard s.lineClock) := modCarriage_same hc _
  have hclose : (s.modCarriage k (·.heard s.lineClock)).closeNeighbours k env = [] :=
    (closeNeighbours_of_modify (s := s) (t := s.modCarriage k (·.heard s.lineClock)) (g := (·.heard s.lineClock)) rfl rfl
      env).trans hn
  have hcount (u : State) : (testFences u).modCarriage k (·.counted n) =
      testFences (u.modCarriage k (·.counted n)) :=
    (testFences_modCarriage u k (g := (·.counted n)) fun _ => rfl).symm
  have hdrop (f : Carriage → Carriage) (run : Cause) :
      (hand (testFences (s.modCarriage k f)) .stateChange (some k) .absent run .absent).withReports [] =
        hand (testFences (s.modCarriage k f)) .stateChange (some k) .absent run .absent :=
    withReports_of_settled ((hand_reports ..).trans ((testFences_reports _).trans hreports))
  have hsame : (s.modCarriage k fun c => (((c.heard s.lineClock).reserved (some ⟨env, .plain⟩)).firstSeen r x.position
      false s.inputs.emergency).counted n) = s.changed k g :=
    modCarriage_congr fun d hd => by
      cases hd.symm.trans hc
      exact hg
  rw [firstData_stands hheard hr hx he hclose hv rfl, handStateChange, firstSet_tested hheard, hand_withReports,
    modCarriage_withReports, ← hand_modCarriage, hcount, modCarriage_modCarriage, modCarriage_modCarriage, ← hsame,
    withReports_withReports, hdrop]
  exact congrArg (fun u => hand (testFences u) ..) rfl

/-- Settles O25: the report that completes the set, by where it comes from; and a drive fault before that. -/
theorem firstDataTaken : Obligations.FirstDataTaken := by
  intro s k dst src seq payload c r h hh ho hc hr hu young next taken
  have hc' : s.between.carriage k = some c := hc
  -- First data after a change `g` of the carriage that leaves its unseen origin, membership and virtual position.
  have htaken {o : Host.Outcome State Fault Refusal} {x : AxisReport} {fault : Bool} {t u : State} {d : Carriage} {n : Nat}
      {g f : Carriage → Carriage} (hot : o = .next t) (hku : s.between.Keeps n u)
      (hug : u.carriages = s.carriages.modify k g) (hd : g c = d) (hx : d.ctx.lastX = some x)
      (hkept : d.ctx.unseenOrigin = c.ctx.unseenOrigin ∧ d.ctx.membership = c.ctx.membership ∧ d.virtualX = c.virtualX)
      (hflags : d.ctx.flags = if fault then { c.ctx.flags with driveFault := true } else c.ctx.flags)
      (hstops : if fault then s.Stops u k .driveFault else u.port.stops = s.port.stops)
      (htu : t.carriages = (firstData u k).carriages.modify k f) (hts : t.port.stops = (firstData u k).port.stops)
      (hf : ∀ e, (f e).ctx = e.ctx ∧ (f e).reservation = e.reservation ∧ (f e).virtualX = e.virtualX) :
      taken o x fault := by
    have hud : u.carriage k = some d := by
      rw [State.carriage_modify_self (s := s) hug, hc]
      exact congrArg some hd
    have hclose (span : Interval) : u.closeNeighbours k span = s.closeNeighbours k span :=
      closeNeighbours_of_modify hug hku.outside.rail span
    obtain ⟨e, he, hres, hfr, hor, hfl, hlx, hvx, -, hstand, hstop, hnb⟩ :=
      firstData_taken hud ((hku.record k).trans hr) hx
        (env := envelope r s.railLength x.position x.velocity) (by rw [hku.railLength]; rfl) (hclose _)
    obtain ⟨hctx, hfres, hfvx⟩ := hf e
    obtain ⟨hou, hmu, hvu⟩ := hkept
    have hnext : firstRunState d.ctx r u.inputs.emergency = if fault then .halted else next := by
      have hin : u.inputs = s.inputs := hku.outside.inputs
      rw [firstRunState_eq, hou, hflags, hin]
      cases fault with
      | false => rfl
      | true => simp [FaultFlags.any]
    refine ⟨t, f e, hot, ?_, hfres.trans hres, hctx ▸ hfr, hctx ▸ hor, hctx ▸ hfl.trans hflags, hctx ▸ hlx, ?_, ?_, ?_, ?_, ?_⟩
    · rw [State.carriage_modify_self htu, he]
      rfl
    · rw [hfvx, hvx, hmu, hvu]
    · intro hn
      obtain ⟨hrun, hst⟩ := hstand hn
      refine ⟨hctx ▸ hrun.trans hnext, ?_⟩
      rintro rfl
      rw [hts, hst]
      exact hstops
    · intro hn
      obtain ⟨hrun, hsx, hsz, -⟩ := hstop hn
      exact hctx ▸ ⟨hrun, hsx, hsz⟩
    · intro hn
      have hfol := (firstData_follows u k).toKeeps
      cases fault with
      | true =>
        intro axis node hnode
        rw [hts]
        exact (State.Stops.then hstops hfol) axis node hnode
      | false =>
        obtain ⟨-, -, -, hst⟩ := hstop (hn.resolve_right (by decide))
        intro axis node hnode
        rw [hts]
        exact (hst.after hku hstops) axis node hnode
    · intro j hj
      obtain ⟨e, he, hna, hfj⟩ := hnb j hj
      have hjk : j ≠ k := ne_of_mem_neighbours (mem_closeNeighbours_iff.mp hj).1
      refine ⟨e, (State.carriage_modify_ne htu hjk).trans he, hna, ?_⟩
      rw [← hfj, State.carriage_modify_ne (s := s) hug hjk]
  -- A STATE that completes the set.
  have hstate {rep : StateReport} {axis : Axis} {x : AxisReport} (hp : parseState payload = some rep)
      (hs : s.roleOf src.toNat = some (driveRole k axis)) (hx : (c.seen s.lineClock axis rep).ctx.lastX = some x)
      (hset : (c.recorded s.lineClock axis rep).ctx.freshSet s.lineClock r.w = true) :
      taken (exec (.state dst src seq payload) s) x rep.axis.status.fault := by
    obtain ⟨t, ht, hsh⟩ := exec_state_shows h hh ho hp hs (hu ▸ runState_eq hc)
    rw [ruleState_unseen hc' hr hu, State.between_lineClock, if_pos hset] at hsh
    have hku := (recordState_follows s.between k axis rep).toKeeps.trans (faultState_keeps _ k rep)
    obtain ⟨hor, hm, hv, -⟩ := c.seen_kept s.lineClock axis rep
    refine htaken ht hku (faultState_unseen_carriages hc' hu axis) rfl hx ⟨hor, hm, hv⟩
      (c.seen_flags s.lineClock axis rep) ?_ (f := id) ?_ hsh.stops fun e => ⟨rfl, rfl, rfl⟩
    · split
      · rename_i hf
        exact faultState_stops hc' hf (by simp [hu])
      · rename_i hf
        rw [faultState_none (Bool.eq_false_iff.mpr hf)]
        rfl
    · rw [List.modify_id]
      exact hsh.carriages
  -- A drive fault while the set is incomplete.
  have hfault {rep : StateReport} {axis : Axis} {g : Carriage → Carriage} (hp : parseState payload = some rep)
      (hf : rep.axis.status.fault = true) (hs : s.roleOf src.toNat = some (driveRole k axis))
      (hset : ¬(c.recorded s.lineClock axis rep).ctx.freshSet s.lineClock r.w = true) (hslot : ∀ d, (g d).slot = d.slot)
      (hg : ((c.recorded s.lineClock axis rep).flagged .driveFault).cleared = (g c).cleared) :
      exec (.state dst src seq payload) s =
        .next
          ((requestStop (requestStop (tellFault s k c g) k .x .driveFault) k .z .driveFault).passedUp
            ⟨dst, src, 0x20, seq, payload⟩) := by
    refine exec_state_exact h hh ho hp hs (hu ▸ runState_eq hc) ?_
    rw [ruleState_unseen hc' hr hu, State.between_lineClock, if_neg hset, faultState_unseen_eq hc' hu hf axis hslot hg,
      requestStops, tellFault_between, requestStop_between, requestStop_between]
    refine withReports_of_settled ?_
    exact (requestStop_reports ..).trans ((requestStop_reports ..).trans ((tellFault_reports ..).trans h.settled))
  refine ⟨fun rep x hs hp hl hx yx yz hw => ?_, fun rep hp => ⟨fun hw yh => ⟨fun hs yz => ?_, fun hs yx x hx => ?_⟩,
    fun hf => ⟨fun hs hn => ?_, fun hs hn => ?_⟩⟩⟩
  · have hheard : (s.between.modCarriage k (·.heard s.lineClock)).carriage k = some (c.heard s.lineClock) :=
      modCarriage_same hc' _
    have hclose (span : Interval) : (s.between.modCarriage k (·.heard s.lineClock)).closeNeighbours k span =
        s.closeNeighbours k span :=
      closeNeighbours_of_modify (s := s.between) (t := s.between.modCarriage k (·.heard s.lineClock))
        (g := (·.heard s.lineClock)) rfl rfl span
    have harr : readHeadArrival s.between k = firstData (s.between.modCarriage k (·.heard s.lineClock)) k := by
      rw [readHeadArrival_eq hc', State.between_lineClock, hu, runStateRules_unseen hheard hr]
      exact if_pos ((freshSet_iff (c.heard s.lineClock).ctx s.lineClock r.w).mpr ⟨yx, yz, rfl, young_now hw⟩)
    have hfirst := firstData_taken hheard (r := r) hr (x := x) hx rfl (hclose _)
    obtain ⟨d, hd, -, -, -, -, -, -, hld, -⟩ := hfirst
    refine ⟨?_, fun hcl hv => ?_⟩
    · obtain ⟨t, ht, hsh⟩ := exec_senseHead_shows h hh ho hp hs hc (harr ▸ hd) (hld.trans hl)
      rw [harr] at hsh
      exact htaken ht (State.Follows.modCarriage s.between k (g := (·.heard s.lineClock)) fun _ hn => hn).toKeeps
        (g := (·.heard s.lineClock)) rfl rfl hx ⟨rfl, rfl, rfl⟩ rfl rfl (f := (·.counted rep.modules)) hsh.carriages
        hsh.stops fun e => ⟨rfl, rfl, rfl⟩
    · refine exec_senseHead_exact h hh ho hp hs hc (harr ▸ hd) (hld.trans hl) ?_
      have hnext : firstRunState (c.heard s.lineClock).ctx r s.inputs.emergency = next := firstRunState_eq ..
      rw [harr, ← hnext, ← hand_between, ← testFences_between]
      refine firstData_heard (s := s.between) hc' hr hx rfl hcl (Nat.not_lt.mpr hv) h.settled rep.modules ?_
      rfl
  · exact hstate hp (axis := .x) hs (c.seen_kept s.lineClock .x rep).2.2.2
      ((freshSet_iff _ _ _).mpr ⟨⟨rfl, young_now hw⟩, yz, yh⟩)
  · exact hstate hp (axis := .z) hs ((c.seen_kept s.lineClock .z rep).2.2.2.trans hx)
      ((freshSet_iff _ _ _).mpr ⟨yx, ⟨rfl, young_now hw⟩, yh⟩)
  · exact hfault hp hf (axis := .x) (g := fun c =>
      { c with
        ctx :=
          { c.ctx with
            lastX := some rep.axis
            arrivalX := some s.lineClock
            inSetX := true
            flags := { c.ctx.flags with driveFault := true } } }) hs
      (fun hy => hn ((freshSet_iff _ _ _).mp hy).2) (fun _ => rfl) rfl
  · exact hfault hp hf (axis := .z) (g := fun c =>
      { c with
        ctx :=
          { c.ctx with
            lastZ := some rep.axis
            arrivalZ := some s.lineClock
            inSetZ := true
            flags := { c.ctx.flags with driveFault := true } } }) hs
      (fun hy => hn ⟨((freshSet_iff _ _ _).mp hy).1, ((freshSet_iff _ _ _).mp hy).2.2⟩) (fun _ => rfl) rfl

end Sys2Proof.Machine
end

section
/-! PROOFS. The stale expiry, and the return of a STALE carriage to FRESH (R14, R15, R46 to R48). -/

namespace Sys2Proof.Machine

/-! What a halt and an excursion leave of a carriage. -/

/-- Of the context a halt changes run state, still marks and active moves alone. -/
theorem Carriage.halted_kept (c : Carriage) :
    c.halted.ctx.fresh = c.ctx.fresh ∧ c.halted.ctx.membership = c.ctx.membership ∧
      c.halted.ctx.lastX = c.ctx.lastX ∧ (∀ now w, c.halted.ctx.allYoung now w = c.ctx.allYoung now w) ∧
      c.halted.load = c.load := by
  unfold Carriage.halted
  split <;> exact ⟨rfl, rfl, rfl, fun _ _ => rfl, rfl⟩

/-- A halt leaves no active move, but in LOST. -/
theorem Carriage.halted_moves {c : Carriage} (h : c.ctx.runState ≠ .lost) :
    c.halted.ctx.activeX = none ∧ c.halted.ctx.activeZ = none := by
  unfold Carriage.halted
  split
  · exact ⟨rfl, rfl⟩
  · rename_i hl
    exact absurd hl h
  · exact ⟨rfl, rfl⟩
  · exact ⟨rfl, rfl⟩
  · exact ⟨rfl, rfl⟩

/-- The carriage after a growth of its reservation: stored, or an excursion. -/
theorem growReservation_carriage {s : State} {k : Nat} {c : Carriage} (hc : s.carriage k = some c) (a b : Interval)
    (new : Reservation) :
    (growReservation s k a b new).carriage k = some (c.reserved (some new)) ∨
      (growReservation s k a b new).carriage k = some (c.strayed (some new)) := by
  by_cases hs : s.Strays k a b
  · refine .inr ?_
    rw [growReservation_carriage_strays new hs, if_pos rfl, hc]
    rfl
  · refine .inl ?_
    rw [State.carriage_modify_self (growReservation_carriages_silent new hs), hc]
    rfl

/-- Freshness, membership, last position, arrivals and load of a carriage stay through a growth of its reservation. -/
theorem growReservation_kept {s : State} {k : Nat} {c : Carriage} (hc : s.carriage k = some c) (a b : Interval)
    (new : Reservation) :
    ∃ d, (growReservation s k a b new).carriage k = some d ∧ d.reservation = some new ∧ d.ctx.fresh = c.ctx.fresh ∧
      d.ctx.membership = c.ctx.membership ∧ (∀ now w, d.ctx.allYoung now w = c.ctx.allYoung now w) ∧ d.load = c.load ∧
      (c.ctx.runState ≠ .active → c.SameRun d) := by
  rcases growReservation_carriage hc a b new with h | h
  · exact ⟨_, h, rfl, rfl, rfl, fun _ _ => rfl, rfl, fun _ => .reserved _ c⟩
  · obtain ⟨hf, hm, -, hy, hl⟩ := ((c.reserved (some new)).flagged .excursion).halted_kept
    exact ⟨_, h, Carriage.halted_reservation _, hf, hm, hy, hl, fun ha => .strayed ha _⟩

/-- The velocity of a STATE moves no reservation, and makes no carriage FRESH, STALE or ACTIVE (R19, R20). -/
theorem applyVelocity_kept {s : State} {k : Nat} {c : Carriage} {r : CarriageRecord} (hc : s.carriage k = some c)
    (hr : s.record k = some r) (hm : c.ctx.membership ≠ .excluded) (before : RunState) (f : ReportFrom) :
    ∃ d, (applyVelocity s k before f).carriage k = some d ∧ d.reservation = c.reservation ∧
      d.ctx.fresh = c.ctx.fresh ∧ d.ctx.flags = c.ctx.flags ∧
      (c.ctx.runState ≠ .active → d.ctx.runState ≠ .active) ∧ (c.ctx.activeX = none → d.ctx.activeX = none) ∧
      (c.ctx.activeZ = none → d.ctx.activeZ = none) := by
  have hsame : ∃ d, s.carriage k = some d ∧ d.reservation = c.reservation ∧
      d.ctx.fresh = c.ctx.fresh ∧ d.ctx.flags = c.ctx.flags ∧
      (c.ctx.runState ≠ .active → d.ctx.runState ≠ .active) ∧ (c.ctx.activeX = none → d.ctx.activeX = none) ∧
      (c.ctx.activeZ = none → d.ctx.activeZ = none) := ⟨c, hc, rfl, rfl, rfl, id, id, id⟩
  cases f with
  | head => exact hsame
  | drive axis v =>
    cases before with
    | stopping =>
      refine ⟨_, markStill_carriage hc hr axis v, ?_⟩
      unfold Carriage.stilled
      split
      · cases axis <;> exact ⟨rfl, rfl, rfl, fun _ => by simp, id, id⟩
      · cases axis <;> exact ⟨rfl, rfl, rfl, id, id, id⟩
    | halted =>
      rw [applyVelocity_halted hr]
      split
      · refine ⟨c.slowed.cleared, ?_, rfl, rfl, rfl, fun _ => by simp [Carriage.slowed, Carriage.cleared], fun _ => rfl,
          fun _ => rfl⟩
        rw [State.carriage_modify_self (unbiddenMotion_working_carriages hc hr hm), hc]
        rfl
      · exact hsame
    | _ => exact hsame

/-! The stale expiry (R14, R48). -/

/-- A context changed in place is the changed context. -/
theorem modContext_same {s : State} {k : Nat} {c : Carriage} (hc : s.carriage k = some c) (g : Context → Context) :
    (s.modContext k g).carriage k = some { c with ctx := g c.ctx } := modCarriage_same hc _

section
variable {s : State} {k : Nat} {c : Carriage} {r : CarriageRecord} {held : Reservation} (hc : s.carriage k = some c)
  (hv : c.reservation = some held)
include hc hv

theorem enterStale_eq :
    enterStale s k r =
      setReservation (s.modContext k fun x => { x with fresh := false }) k
        (some ⟨held.span.widen s.railLength (dStale r), .widened⟩) := by
  have hb : ((s.modContext k fun x => { x with fresh := false }).carriage k).bind (·.reservation) = some held := by
    rw [State.carriage_modContext_self, hc]
    exact hv
  unfold enterStale widenReservation
  rw [hb]
  rfl

theorem enterStale_carriages :
    (enterStale s k r).carriages =
      s.carriages.modify k fun c =>
        { c with
          reservation := some ⟨held.span.widen s.railLength (dStale r), .widened⟩
          ctx := { c.ctx with fresh := false } } := by
  rw [enterStale_eq hc hv, setReservation_carriages, State.modContext, State.modCarriage_carriages,
    List.modify_modify_eq]
  rfl

theorem enterStale_follows : s.Follows 2 (enterStale s k r) := by
  rw [enterStale_eq hc hv]
  exact (State.Follows.modContext ..).trans (setReservation_follows ..)

theorem enterStale_standing :
    (enterStale s k r).fences.map (fun f => (f.span, f.standing)) = s.fences.map fun f => (f.span, f.standing) := by
  rw [enterStale_eq hc hv, setReservation_eq (modContext_same hc _), testFences_standing]
  rfl

/-- The stale expiry by the state before it: the new reservation, and a halt where it is too close (R14). -/
theorem takeStale_eq {d : Clock} (hr : s.record k = some r) (hd : s.staleDeadline k = some d) (hf : c.ctx.fresh = true)
    (hx : reached s.lineClock d = true) {span : Interval} (hs : held.span.widen s.railLength (dStale r) = span) :
    takeStale s k =
      if s.closeNeighbours k span = [] ∧ s.nearFenceOf k span = false then enterStale s k r
      else haltNeighbours (haltCarriage (enterStale s k r) k .excursion none) (s.closeNeighbours k span) := by
  have hcs := enterStale_carriages (r := r) hc hv
  have hk := (enterStale_follows (r := r) hc hv).toKeeps
  have hspan : (enterStale s k r).span k = some span := by
    rw [State.span, State.carriage_modify_self hcs, hc, ← hs]
    rfl
  have hclose : (enterStale s k r).closeNeighbours k span = s.closeNeighbours k span :=
    closeNeighbours_of_modify hcs hk.outside.rail span
  have hnear : (enterStale s k r).nearFenceOf k span = s.nearFenceOf k span :=
    nearFenceOf_congr (by rw [State.carriage_modify_self hcs, hc]; rfl) (hk.record k) hk.outside.rail
      (enterStale_standing hc hv) span
  rw [takeStale_due hc hr hd hf hx, hspan]
  dsimp only
  rw [hclose, hnear]
  simp [List.isEmpty_iff]

end

/-- The stale expiry settled: on a carriage that is not due, silent, and with a halt (R14, R48). -/
theorem staleExpiry_taken {s : State} {k : Nat} (h : s.Running) (hh : s.NoHeld) {c : Carriage} {r : CarriageRecord}
    {d : Clock} {held : Reservation} (hc : s.carriage k = some c) (hr : s.record k = some r)
    (hd : s.staleDeadline k = some d) (hf : c.ctx.fresh = true) (hx : reached s.lineClock d = true)
    (hv : c.reservation = some held) {span : Interval} (hs : held.span.widen s.railLength (dStale r) = span) :
    (s.closeNeighbours k span = [] → s.nearFenceOf k span = false →
      exec (.staleExpiry k) s =
        .next
          (testFences
            (s.changed k fun c =>
              { c with reservation := some ⟨span, .widened⟩, ctx := { c.ctx with fresh := false } }))) ∧
    ∃ t e, exec (.staleExpiry k) s = .next t ∧ t.carriage k = some e ∧ e.reservation = some ⟨span, .widened⟩ ∧
      e.ctx.fresh = false ∧ e.ctx.flags = c.ctx.flags ∧
      ((s.closeNeighbours k span ≠ [] ∨ s.nearFenceOf k span = true) →
        e.ctx.runState ≠ .active ∧ ∀ j ∈ s.closeNeighbours k span, t.runState j ≠ some .active) := by
  subst hs
  have hcs := enterStale_carriages (r := r) hc hv
  have hE := enterStale_follows (r := r) hc hv
  have htake := takeStale_eq hc hv hr hd hf hx rfl
  have hrun (t : State) (ht : takeStale s k = t) (hfol : s.Follows 2 t) :
      exec (.staleExpiry k) s = .next (t.withReports []) := by
    have hlen : t.reports.length ≤ s.reports.length + 2 := hfol.reports
    rw [h.settled] at hlen
    exact live_noHeld h (g := fun s => takeStale s k) (ht ▸ hfol.noHeld hh) (ht ▸ hlen.trans (by decide))
      (congrArg (State.withReports · []) ht)
  have hEk : (enterStale s k r).carriage k =
      some { c with
        reservation := some ⟨held.span.widen s.railLength (dStale r), .widened⟩
        ctx := { c.ctx with fresh := false } } := by
    rw [State.carriage_modify_self hcs, hc]
    rfl
  by_cases hq : s.closeNeighbours k (held.span.widen s.railLength (dStale r)) = [] ∧
      s.nearFenceOf k (held.span.widen s.railLength (dStale r)) = false
  · rw [if_pos hq] at htake
    refine ⟨fun _ _ => ?_, _, _, hrun _ htake hE, hEk, rfl, rfl, rfl, fun hn => ?_⟩
    · rw [hrun _ htake hE, enterStale_eq hc hv, setReservation_tested (modContext_same hc _), withReports_withReports,
        State.modContext, modCarriage_modCarriage]
      exact congrArg Host.Outcome.next (withReports_of_settled ((testFences_reports _).trans h.settled))
    · rcases hn with hn | hn
      · exact absurd hq.1 hn
      · exact absurd (hq.2.symm.trans hn) (by decide)
  · rw [if_neg hq] at htake
    have hk : k ∉ s.closeNeighbours k (held.span.widen s.railLength (dStale r)) := fun hm =>
      ne_of_mem_neighbours (mem_closeNeighbours_iff.mp hm).1 rfl
    have hfol := (hE.trans (haltCarriage_none_follows _ k .excursion)).trans
      (haltNeighbours_follows _ (s.closeNeighbours k (held.span.widen s.railLength (dStale r))))
    refine ⟨fun h1 h2 => absurd ⟨h1, h2⟩ hq, _, Carriage.halted
      { c with
        reservation := some ⟨held.span.widen s.railLength (dStale r), .widened⟩
        ctx := { c.ctx with fresh := false } }, hrun _ htake hfol, ?_, Carriage.halted_reservation _,
      (Carriage.halted_kept _).1, Carriage.halted_flags _, fun _ => ⟨Carriage.halted_not_active _, fun j hj => ?_⟩⟩
    · show (haltNeighbours _ _).carriage k = _
      rw [haltNeighbours_carriage, if_neg hk, State.carriage_modify_self (haltCarriage_none_carriages ..), hEk]
      rfl
    · show (haltNeighbours _ _).runState j ≠ _
      rw [State.runState, haltNeighbours_carriage, if_pos hj]
      cases (haltCarriage (enterStale s k r) k .excursion none).carriage j with
      | none => simp
      | some e => simpa using e.halted_not_active

/-! The return to FRESH (R15, R44, R46, R47). -/

section
variable {s : State} {k : Nat} {c : Carriage} {r : CarriageRecord} {held : Reservation} (hc : s.carriage k = some c)
  (hr : s.record k = some r) (ht : c.ctx.runState.tracked = true)
include hc hr ht

/-- A head's report that finds another arrival old is recorded, and that is all. -/
theorem readHeadArrival_old (h : ¬(Young s.lineClock r.w c.ctx.arrivalX ∧ Young s.lineClock r.w c.ctx.arrivalZ)) :
    readHeadArrival s k = s.modCarriage k (·.heard s.lineClock) := by
  have hd : (s.modCarriage k (·.heard s.lineClock)).carriage k = some (c.heard s.lineClock) := modCarriage_same hc _
  have hold : (c.heard s.lineClock).ctx.allYoung s.lineClock r.w = false :=
    Bool.eq_false_iff.mpr fun hy =>
      have hy := (allYoung_iff (c.heard s.lineClock).ctx s.lineClock r.w).mp hy
      h ⟨hy.1, hy.2.1⟩
  rw [readHeadArrival_eq hc, runStateRules_tracked hd hr ht, returnToFresh_idle hd hr (.inr (.inr hold))]
  rfl

variable (hm : c.ctx.membership ≠ .excluded) (hf : c.ctx.fresh = false)
include hm hf

/-- A head's report that finds the other arrivals young makes the carriage FRESH, and its reservation follows (R15, R47). -/
theorem readHeadArrival_young {x : AxisReport} (hv : c.reservation = some held) (hx : c.ctx.lastX = some x) (hw : 0 < r.w)
    (yx : Young s.lineClock r.w c.ctx.arrivalX) (yz : Young s.lineClock r.w c.ctx.arrivalZ) :
    readHeadArrival s k =
      growReservation ((s.modCarriage k (·.heard s.lineClock)).modContext k fun x => { x with fresh := true }) k held.span
        (candidateFor r s.railLength x c.ctx.activeX) ⟨candidateFor r s.railLength x c.ctx.activeX, .plain⟩ := by
  have hd : (s.modCarriage k (·.heard s.lineClock)).carriage k = some (c.heard s.lineClock) := modCarriage_same hc _
  have hyoung : (c.heard s.lineClock).ctx.allYoung s.lineClock r.w = true :=
    (allYoung_iff (c.heard s.lineClock).ctx s.lineClock r.w).mpr ⟨yx, yz, young_now hw⟩
  rw [readHeadArrival_eq hc, runStateRules_tracked hd hr ht, returnToFresh_other hd hr hm hf hyoung (.inl rfl)]
  have hfollow := followCandidate_eq (modContext_same hd fun x => { x with fresh := true }) hr hx hv
  exact hfollow

variable {rep : StateReport} (hnf : rep.axis.status.fault = false)
include hnf

/-- An X STATE that finds the other arrivals young: the reservation follows, then the carriage is FRESH (R15, R44). -/
theorem ruleState_x_young (hv : c.reservation = some held) (hw : 0 < r.w)
    (yz : Young s.lineClock r.w c.ctx.arrivalZ) (yh : Young s.lineClock r.w c.ctx.arrivalHead) {new : Interval}
    (hnew : candidateFor r s.railLength rep.axis (c.recorded s.lineClock .x rep).ctx.activeX = new) :
    ruleState s k .x rep c.ctx.runState =
      applyVelocity
        ((growReservation (recordState s k .x rep) k held.span new ⟨new, .plain⟩).modContext k fun x =>
          { x with fresh := true })
        k c.ctx.runState (.drive .x rep.axis.velocity) := by
  have hd := recordState_carriage hc .x rep
  have hyoung : (c.recorded s.lineClock .x rep).ctx.allYoung s.lineClock r.w = true :=
    (allYoung_iff (c.recorded s.lineClock .x rep).ctx s.lineClock r.w).mpr ⟨young_now hw, yz, yh⟩
  have hupd : updateFor (recordState s k .x rep) k .x =
      growReservation (recordState s k .x rep) k held.span new ⟨new, .plain⟩ := by
    subst hnew
    exact (updateReservation_fresh hd hr ht hm (.inr hyoung)).trans (followCandidate_eq hd hr rfl hv)
  obtain ⟨e, he, -, hef, hem, hey, -⟩ := growReservation_kept hd held.span new ⟨new, .plain⟩
  have hk := growReservation_follows (recordState s k .x rep) k held.span new ⟨new, .plain⟩
  have her := (hk.record k).trans hr
  rw [ruleState, faultState_none hnf, hupd, runStateRules_tracked he her ht,
    returnToFresh_x he her (hem.trans_ne hm) (hef.trans hf) (by rw [hk.lineClock, hey]; exact hyoung)]

/-- An X STATE that finds another arrival old: the widened span may grow, and the carriage stays STALE (R46). -/
theorem ruleState_x_old (hv : c.reservation = some held)
    (hold : ¬(Young s.lineClock r.w c.ctx.arrivalZ ∧ Young s.lineClock r.w c.ctx.arrivalHead)) {new : Interval}
    (hnew : candidateFor r s.railLength rep.axis (c.recorded s.lineClock .x rep).ctx.activeX = new) :
    ruleState s k .x rep c.ctx.runState =
      applyVelocity
        (if new.within held.span then recordState s k .x rep
        else growReservation (recordState s k .x rep) k held.span new ⟨held.span.hull new, .widened⟩)
        k c.ctx.runState (.drive .x rep.axis.velocity) := by
  have hd := recordState_carriage hc .x rep
  have hyoung : (c.recorded s.lineClock .x rep).ctx.allYoung s.lineClock r.w = false :=
    Bool.eq_false_iff.mpr fun hy =>
      have hy := (allYoung_iff (c.recorded s.lineClock .x rep).ctx s.lineClock r.w).mp hy
      hold hy.2
  have hupd : updateFor (recordState s k .x rep) k .x =
      if new.within held.span then recordState s k .x rep
      else growReservation (recordState s k .x rep) k held.span new ⟨held.span.hull new, .widened⟩ := by
    subst hnew
    exact (updateReservation_stale hd hr ht hm hf hyoung).trans (followStale_eq hd hr rfl hv)
  have hidle {u : State} {e : Carriage} (hu : (recordState s k .x rep).Follows 2 u) (he : u.carriage k = some e)
      (hey : ∀ now w, e.ctx.allYoung now w = (c.recorded s.lineClock .x rep).ctx.allYoung now w) :
      runStateRules u k c.ctx.runState (.drive .x rep.axis.velocity) =
        applyVelocity u k c.ctx.runState (.drive .x rep.axis.velocity) := by
    have her := (hu.record k).trans hr
    rw [runStateRules_tracked he her ht,
      returnToFresh_idle he her (.inr (.inr (by rw [hu.lineClock, hey]; exact hyoung)))]
  rw [ruleState, faultState_none hnf, hupd]
  split
  · exact hidle ((State.Follows.refl _).mono (by omega)) hd fun _ _ => rfl
  · obtain ⟨e, he, -, -, -, hey, -⟩ := growReservation_kept hd held.span new ⟨held.span.hull new, .widened⟩
    exact hidle (growReservation_follows ..) he hey

/-- A Z STATE that finds the other arrivals young makes the carriage FRESH, and its reservation follows (R15, R47). -/
theorem ruleState_z_young {x : AxisReport} (hv : c.reservation = some held) (hx : c.ctx.lastX = some x) (hw : 0 < r.w)
    (yx : Young s.lineClock r.w c.ctx.arrivalX) (yh : Young s.lineClock r.w c.ctx.arrivalHead) {new : Interval}
    (hnew : candidateFor r s.railLength x c.ctx.activeX = new) :
    ruleState s k .z rep c.ctx.runState =
      applyVelocity
        (growReservation ((recordState s k .z rep).modContext k fun x => { x with fresh := true }) k held.span new
          ⟨new, .plain⟩)
        k c.ctx.runState (.drive .z rep.axis.velocity) := by
  subst hnew
  have hd := recordState_carriage hc .z rep
  have hyoung : (c.recorded s.lineClock .z rep).ctx.allYoung s.lineClock r.w = true :=
    (allYoung_iff (c.recorded s.lineClock .z rep).ctx s.lineClock r.w).mpr ⟨yx, young_now hw, yh⟩
  have hfol : followCandidate ((recordState s k .z rep).modContext k fun x => { x with fresh := true }) k = _ :=
    followCandidate_eq (modContext_same hd _) hr hx hv
  rw [ruleState, faultState_none hnf, updateFor, runStateRules_tracked hd hr ht,
    returnToFresh_other hd hr hm hf hyoung (.inr ⟨_, rfl⟩), hfol]
  rfl

end

/-- A reservation stored on a SENSE_HEAD, with the module counts it brings and its reports dropped. -/
theorem setReservation_counted {s : State} {k : Nat} {c : Carriage} (hc : s.carriage k = some c) (hr : s.reports = [])
    (v : Option Reservation) (n : Nat) :
    ((setReservation s k v).modCarriage k (·.counted n)).withReports [] =
      testFences (s.modCarriage k fun c => (c.reserved v).counted n) := by
  have hcount (u : State) : (testFences u).modCarriage k (·.counted n) =
      testFences (u.modCarriage k (·.counted n)) :=
    (testFences_modCarriage u k (g := (·.counted n)) fun _ => rfl).symm
  have hdrop (u : State) (hu : u.reports = []) : (testFences u).withReports [] = testFences u :=
    withReports_of_settled ((testFences_reports u).trans hu)
  rw [setReservation_tested hc, modCarriage_withReports, hcount, modCarriage_modCarriage, withReports_withReports]
  exact hdrop _ hr

/-- Settles O30: the expiry itself, then each report of a STALE carriage by what it finds of the other arrivals. -/
theorem staleExpiryTaken : Obligations.StaleExpiryTaken := by
  refine ⟨fun s k h hh => ⟨fun hidle => live_settled h (g := fun s => takeStale s k) (takeStale_idle hidle) h.settled,
    fun c r d held hc hr hd hf hx hv => staleExpiry_taken h hh hc hr hd hf hx hv rfl⟩, ?_⟩
  intro s k dst src seq payload c r held h hh ho hc hr hst hm hf hv hw young candidate
  have ht : c.ctx.runState.tracked = true := by rcases hst with hst | hst | hst <;> simp [hst, RunState.tracked]
  have hnl : c.ctx.runState ≠ .lost := by rcases hst with hst | hst | hst <;> simp [hst]
  have hc' : s.between.carriage k = some c := hc
  have hcand (x : AxisReport) (a : Option ActiveMove) : candidate x a = candidateFor r s.railLength x a := by
    cases a <;> rfl
  have hnew (rep : StateReport) :
      candidateFor r s.between.railLength rep.axis (c.recorded s.between.lineClock .x rep).ctx.activeX =
        candidate rep.axis (c.ctx.activeX.filter fun m => !(rep.axis.status.inPosition && m.tag == rep.tag)) :=
    (hcand ..).symm
  -- What is seen after a STATE.
  have hstate {rep : StateReport} {axis : Axis} (hp : parseState payload = some rep)
      (hs : s.roleOf src.toNat = some (driveRole k axis)) :
      ∃ t, exec (.state dst src seq payload) s = .next t ∧ t.Shows (ruleState s.between k axis rep c.ctx.runState) :=
    exec_state_shows h hh ho hp hs (runState_eq hc)
  -- What the velocity leaves of a reservation just set.
  have hlast {u : State} {e : Carriage} {n : Nat} (axis : Axis) (v : Int) (hu : s.between.Follows n u)
      (he : u.carriage k = some e) (hem : e.ctx.membership = c.ctx.membership) :=
    applyVelocity_kept he ((hu.record k).trans hr) (hem.trans_ne hm) c.ctx.runState (.drive axis v)
  refine ⟨fun rep x hs hp hl hx => ?_, fun rep hp hnf => ⟨fun hs => ⟨fun yz yh => ?_, fun hold => ⟨fun hin => ?_,
    fun hout => ?_⟩⟩, fun hs yx yh x hx => ?_⟩⟩
  · intro read run new
    have hu := modContext_same (modCarriage_same hc' (·.heard s.lineClock)) fun x => { x with fresh := true }
    have hnew : candidateFor r s.between.railLength x c.ctx.activeX = new := (hcand x c.ctx.activeX).symm
    refine ⟨fun yx yz => ?_, fun hold => ?_⟩
    · have harr := readHeadArrival_young hc' hr ht hm hf hv hx hw yx yz
      rw [hnew, State.between_lineClock] at harr
      obtain ⟨e, he, hres, hef, -, -, hel, -⟩ := growReservation_kept hu held.span new ⟨new, .plain⟩
      refine ⟨fun hin => ?_, ?_⟩
      · refine exec_senseHead_exact h hh ho hp hs hc (harr ▸ he) (hel.trans hl) ?_
        rw [harr, growReservation_silent (State.not_strays_of_within hin), setReservation_counted hu h.settled,
          State.modContext, modCarriage_modCarriage, modCarriage_modCarriage, ← testFences_between]
        exact congrArg testFences rfl
      · obtain ⟨t, hrun, hsh⟩ := exec_senseHead_shows h hh ho hp hs hc (harr ▸ he) (hel.trans hl)
        refine ⟨t, e.counted rep.modules, hrun, ?_, hef, hres⟩
        rw [hsh.carriage, harr, modCarriage_same he]
    · have harr := readHeadArrival_old hc' hr ht hold
      have he : (readHeadArrival s.between k).carriage k = some (c.heard s.lineClock) := harr ▸ modCarriage_same hc' _
      refine exec_senseHead_exact h hh ho hp hs hc he hl ?_
      rw [harr, modCarriage_modCarriage]
      exact withReports_of_settled (s := s.between.modCarriage k _) h.settled
  · have hnew := hnew rep
    generalize candidate rep.axis _ = new at hnew ⊢
    obtain ⟨t, hrun, hsh⟩ := hstate (axis := .x) hp hs
    rw [ruleState_x_young hc' hr ht hm hf hnf hv hw yz yh hnew] at hsh
    obtain ⟨e, he, hres, -, hem, -, -, -⟩ := growReservation_kept (recordState_carriage hc' .x rep) held.span new ⟨new, .plain⟩
    have hfol := ((recordState_follows s.between k .x rep).trans
      (growReservation_follows _ k held.span new ⟨new, .plain⟩)).trans (.modContext _ k fun x => { x with fresh := true })
    obtain ⟨d, hd, hdr, hdf, -⟩ := hlast .x rep.axis.velocity hfol (modContext_same he fun x => { x with fresh := true }) hem
    exact ⟨t, d, hrun, (hsh.carriage k).trans hd, hdf, hdr.trans hres⟩
  · obtain ⟨t, hrun, hsh⟩ := hstate (axis := .x) hp hs
    rw [ruleState_x_old hc' hr ht hm hf hnf hv hold (hnew rep), if_pos hin] at hsh
    obtain ⟨d, hd, hdr, hdf, -⟩ := hlast .x rep.axis.velocity (recordState_follows s.between k .x rep)
      (recordState_carriage hc' .x rep) rfl
    exact ⟨t, d, hrun, (hsh.carriage k).trans hd, hdf.trans hf, hdr.trans hv⟩
  · have hnew := hnew rep
    generalize candidate rep.axis _ = new at hnew hout ⊢
    intro parts offends fenced excursion
    have hrec := recordState_carriage hc' .x rep
    have hrecs : (recordState s.between k .x rep).carriages = s.between.carriages.modify k
        (·.recorded s.between.lineClock .x rep) := rfl
    obtain ⟨t, hrun, hsh⟩ := hstate (axis := .x) hp hs
    rw [ruleState_x_old hc' hr ht hm hf hnf hv hold hnew, if_neg (by simp [hout])] at hsh
    obtain ⟨e, he, hres, hef, hem, -, -, -⟩ := growReservation_kept hrec held.span new ⟨held.span.hull new, .widened⟩
    have hgrow := growReservation_follows (recordState s.between k .x rep) k held.span new ⟨held.span.hull new, .widened⟩
    have hfol := (recordState_follows s.between k .x rep).trans hgrow
    obtain ⟨d, hd, hdr, hdf, hdfl, hdna, hdx, hdz⟩ := hlast .x rep.axis.velocity hfol he hem
    have hvel := applyVelocity_follows (growReservation (recordState s.between k .x rep) k held.span new
      ⟨held.span.hull new, .widened⟩) k c.ctx.runState (.drive .x rep.axis.velocity)
    have hne {j : Nat} (hj : j ≠ k) := applyVelocity_ne he ((hfol.record k).trans hr) hj c.ctx.runState
      (.drive .x rep.axis.velocity)
    have hoff (j : Nat) : offends j ↔ j ∈ (recordState s.between k .x rep).offended k (grownParts held.span new) := by
      rw [offended_of_modify hrecs rfl, mem_offended_iff]
      rfl
    have hstray : excursion ↔ (recordState s.between k .x rep).Strays k held.span new := by
      rw [strays_iff hrec hr rfl]
      refine or_congr (exists_congr fun j => ?_) Iff.rfl
      rw [hoff, mem_offended_iff]
    refine ⟨t, d, hrun, (hsh.carriage k).trans hd, hdf.trans (hef.trans hf), hdr.trans hres, fun hx => ?_, fun hx => ?_⟩
    · have hcs := growReservation_carriages_silent ⟨held.span.hull new, .widened⟩ (mt hstray.mpr hx)
      obtain rfl : (c.recorded s.between.lineClock .x rep).reserved (some ⟨held.span.hull new, .widened⟩) = e := by
        rw [State.carriage_modify_self hcs, hrec] at he
        exact Option.some.inj he
      refine ⟨hdfl, fun ha => ?_, fun j hj => ?_⟩
      · rw [ha] at hd
        obtain rfl := Option.some.inj (hd.symm.trans he)
        exact ha
      · rw [hsh.carriage, hne hj, State.carriage_modify_ne hcs hj, State.carriage_modify_ne hrecs hj]
        rfl
    · have hs := hstray.mp hx
      have hcar := growReservation_carriage_strays ⟨held.span.hull new, .widened⟩ hs
      obtain rfl : (c.recorded s.between.lineClock .x rep).strayed (some ⟨held.span.hull new, .widened⟩) = e := by
        rw [hcar, if_pos rfl, hrec] at he
        exact Option.some.inj he
      have hmoves := Carriage.halted_moves (c := ((c.recorded s.between.lineClock .x rep).reserved
        (some ⟨held.span.hull new, .widened⟩)).flagged .excursion) hnl
      refine ⟨hdfl.trans (Carriage.halted_flags _), hdna (Carriage.halted_not_active _), hdx hmoves.1, hdz hmoves.2,
        ?_, fun j hj => ?_, fun j hj hnj => ?_⟩
      · exact (((growReservation_stops hrec _ hs hnl).after (recordState_follows s.between k .x rep).toKeeps rfl).then
          hvel.toKeeps).shown hsh
      · have hjn := (hoff j).mp hj
        have hjk := ne_of_mem_neighbours (mem_offended_iff.mp hjn).1
        obtain ⟨b, hb⟩ : ∃ b, s.carriage j = some b :=
          ⟨_, List.getElem?_eq_getElem (lt_of_mem_neighbours (carriage_lt hc) hj.1)⟩
        have hbr : (recordState s.between k .x rep).carriage j = some b := (State.carriage_modify_ne hrecs hjk).trans hb
        refine ⟨b.halted, ?_, b.halted_not_active, by rw [hb, Carriage.halted_flags]; rfl⟩
        rw [hsh.carriage, hne hjk, hcar, if_neg hjk, if_pos hjn, hbr]
        rfl
      · rw [hsh.carriage, hne hj, hcar, if_neg hj, if_neg (mt (hoff j).mpr hnj), State.carriage_modify_ne hrecs hj]
        rfl
  · obtain ⟨t, hrun, hsh⟩ := hstate (axis := .z) hp hs
    rw [ruleState_z_young hc' hr ht hm hf hnf hv hx hw yx yh (hcand x c.ctx.activeX).symm] at hsh
    obtain ⟨e, he, hres, hef, hem, -, -, -⟩ := growReservation_kept
      (modContext_same (recordState_carriage hc' .z rep) fun x => { x with fresh := true }) held.span
      (candidate x c.ctx.activeX) ⟨candidate x c.ctx.activeX, .plain⟩
    have hfol := ((recordState_follows s.between k .z rep).trans (.modContext _ k fun x => { x with fresh := true })).trans
      (growReservation_follows _ k held.span (candidate x c.ctx.activeX) ⟨candidate x c.ctx.activeX, .plain⟩)
    obtain ⟨d, hd, hdr, hdf, -⟩ := hlast .z rep.axis.velocity hfol he hem
    exact ⟨t, d, hrun, (hsh.carriage k).trans hd, hdf.trans hef, hdr.trans hres⟩

end Sys2Proof.Machine
end

section
/-! PROOFS. The lost expiry (R16, R49), the recovery from LOST (R17, R50), and a drive fault in LOST (R11). -/

namespace Sys2Proof.Machine

/-! The lost expiry (R16, R49). -/

/-- With a held move on one carriage at most, and none left there, none is held. -/
theorem State.NoneHeldBut.noHeld_of_modify {s t : State} {k : Nat} {g : Carriage → Carriage} (h : s.NoneHeldBut k)
    (ht : t.carriages = s.carriages.modify k g) (hg : ∀ c, (g c).slot = none) : t.NoHeld := by
  intro c hc
  obtain ⟨j, hj⟩ := List.getElem?_of_mem hc
  have hj : t.carriage j = some c := hj
  by_cases hk : j = k
  · subst hk
    rw [State.carriage_modify_self ht] at hj
    obtain ⟨d, -, rfl⟩ := Option.map_eq_some_iff.mp hj
    exact hg d
  · exact h j hk c ((State.carriage_modify_ne ht hk).symm.trans hj)

/-- The carriage as it stands between the STOPs of a lost expiry and its reservation (R16). -/
def stopLost (s : State) (k : Nat) : State :=
  requestStops
    ((endHeld (raiseFlag s k .lost) k .lostFlag .absent).modContext k fun x => { x.emptySet with runState := .lost })
    k .lost

theorem stopLost_carriages (s : State) (k : Nat) : (stopLost s k).carriages = s.carriages.modify k (·.lost) := by
  rw [stopLost, requestStops_carriages, State.modContext, State.modCarriage_carriages, endHeld_carriages,
    raiseFlag_carriages, List.modify_modify_eq, List.modify_modify_eq, List.modify_modify_eq]
  rfl

theorem stopLost_keeps (s : State) (k : Nat) : s.Keeps 0 (stopLost s k) :=
  (((raiseFlag_keeps s k .lost).trans (endHeld_follows _ k .lostFlag).toKeeps).trans
    (State.Follows.modContext _ k _).toKeeps).trans (requestStops_follows _ k .lost).toKeeps

theorem endHeld_stops (s : State) (k : Nat) (cause : Cause) (d : Detail) :
    (endHeld s k cause d).port.stops = s.port.stops := by
  unfold endHeld
  split
  · rfl
  · exact hand_stops ..

theorem stopLost_stops (s : State) (k : Nat) : s.Stops (stopLost s k) k .lost := by
  have hk := ((raiseFlag_keeps s k .lost).trans (endHeld_follows _ k .lostFlag).toKeeps).trans
    (State.Follows.modContext (endHeld (raiseFlag s k .lost) k .lostFlag .absent) k
      fun x => { x.emptySet with runState := .lost }).toKeeps
  exact (requestStops_stops _ k .lost).after hk ((endHeld_stops ..).trans (raiseFlag_stops ..))

section
variable {s : State} {k : Nat} {c : Carriage} {r : CarriageRecord} {held : Reservation} (hc : s.carriage k = some c)
  (hv : c.reservation = some held)
include hc hv

theorem enterLost_eq :
    enterLost s k r =
      handStateChange
        (setReservation (stopLost s k) k
          (some ⟨held.span.widen s.railLength (stopDistance r s.railLength r.vmax), .frozen⟩))
        k .lost := by
  have hb : ((stopLost s k).carriage k).bind (·.reservation) = some held := by
    rw [State.carriage_modify_self (stopLost_carriages s k), hc]
    exact hv
  have he : enterLost s k r =
      handStateChange (widenReservation (stopLost s k) k (stopDistance r s.railLength r.vmax) .frozen) k .lost := rfl
  rw [he, widenReservation, hb, (stopLost_keeps s k).railLength]

theorem enterLost_carriages :
    (enterLost s k r).carriages =
      s.carriages.modify k fun c =>
        c.lost.reserved (some ⟨held.span.widen s.railLength (stopDistance r s.railLength r.vmax), .frozen⟩) := by
  rw [enterLost_eq hc hv, handStateChange_carriages, setReservation_carriages, stopLost_carriages,
    List.modify_modify_eq]
  rfl

theorem enterLost_keeps : s.Keeps 2 (enterLost s k r) := by
  rw [enterLost_eq hc hv]
  exact ((stopLost_keeps s k).trans (setReservation_follows ..).toKeeps).trans (handStateChange_follows ..).toKeeps

theorem enterLost_stops : s.Stops (enterLost s k r) k .lost := by
  rw [enterLost_eq hc hv]
  exact ((stopLost_stops s k).then (setReservation_follows ..).toKeeps).then (handStateChange_follows ..).toKeeps

/-- The lost expiry by the state before it: LOST, and a halt of each neighbour that is too close (R16, R49). -/
theorem takeLost_eq {d : Clock} (hr : s.record k = some r) (hd : s.lostDeadline k = some d) (hf : c.ctx.fresh = false)
    (hx : reached s.lineClock d = true) {span : Interval}
    (hs : held.span.widen s.railLength (stopDistance r s.railLength r.vmax) = span) :
    takeLost s k = haltNeighbours (enterLost s k r) (s.closeNeighbours k span) := by
  have hcs := enterLost_carriages (r := r) hc hv
  have hspan : (enterLost s k r).span k = some span := by
    rw [State.span, State.carriage_modify_self hcs, hc, ← hs]
    rfl
  rw [takeLost_due hc hr hd hf hx, hspan]
  dsimp only
  rw [closeNeighbours_of_modify hcs (enterLost_keeps (r := r) hc hv).outside.rail]

end

/-! Recovery (R17, R50). -/

theorem mem_offendingSides_iff {s : State} {j k : Nat} {frozen e : Interval} :
    j ∈ offendingSides s k frozen e ↔
      j ∈ s.neighbours k ∧ (j < k ∧ e.lo < frozen.lo ∨ k < j ∧ frozen.hi < e.hi) := by
  unfold offendingSides
  rw [List.mem_filter]
  refine and_congr_right fun hj => ?_
  rcases Nat.lt_or_gt_of_ne (ne_of_mem_neighbours hj) with hlt | hgt
  · simp [hlt, Nat.not_lt.mpr hlt.le]
  · simp [hgt, Nat.not_lt.mpr hgt.le]

section
variable {s : State} {k : Nat} {c : Carriage} {held : Reservation} {e : Interval} (hc : s.carriage k = some c)
  (hv : c.reservation = some held)
include hc hv

theorem unfreeze_within (hin : e.within held.span = true) : unfreeze s k e = setReservation s k (some ⟨e, .plain⟩) := by
  have hs : s.span k = some held.span := by simp [State.span, hc, hv]
  unfold unfreeze
  rw [hs]
  exact if_pos hin

theorem unfreeze_outside (hout : e.within held.span = false) :
    unfreeze s k e =
      haltNeighbours (haltCarriage (setReservation s k (some ⟨e, .plain⟩)) k .excursion (some .excursion))
        (offendingSides s k held.span e) := by
  have hs : s.span k = some held.span := by simp [State.span, hc, hv]
  unfold unfreeze
  rw [hs]
  exact if_neg (by simp [hout])

/-- What the reservation of a recovered carriage brings about for each carriage, and for its STOP entries (R50). -/
theorem unfreeze_taken (hh : c.ctx.runState = .halted) :
    ∃ d, (unfreeze s k e).carriage k = some d ∧ d.reservation = some ⟨e, .plain⟩ ∧ d.ctx.fresh = c.ctx.fresh ∧
      d.ctx.runState = .halted ∧ d.ctx.membership = c.ctx.membership ∧ d.load = c.load ∧
      (e.within held.span = true → d.ctx.flags = c.ctx.flags) ∧
      (e.within held.span = false →
        d.ctx.flags = { c.ctx.flags with excursion := true } ∧ s.Stops (unfreeze s k e) k .excursion) ∧
      (∀ j, j ∈ offendingSides s k held.span e → ∃ b, (unfreeze s k e).carriage j = some b ∧
        b.ctx.runState ≠ .active ∧ (s.carriage j).map (·.ctx.flags) = some b.ctx.flags) ∧
      ∀ j, j ≠ k → j ∉ offendingSides s k held.span e → (unfreeze s k e).carriage j = s.carriage j := by
  have hset := setReservation_carriages s k (some ⟨e, .plain⟩)
  have hd : (setReservation s k (some ⟨e, .plain⟩)).carriage k = some (c.reserved (some ⟨e, .plain⟩)) := by
    rw [State.carriage_modify_self hset, hc]
    rfl
  by_cases hin : e.within held.span = true
  · have hnone (j : Nat) : j ∉ offendingSides s k held.span e := by
      simp only [Interval.within, Bool.and_eq_true, decide_eq_true_eq] at hin
      rw [mem_offendingSides_iff]
      omega
    rw [unfreeze_within hc hv hin]
    exact ⟨_, hd, rfl, rfl, hh, rfl, rfl, fun _ => rfl, fun hn => absurd (hn.symm.trans hin) (by decide),
      fun j hj => absurd hj (hnone j), fun j hj _ => State.carriage_modify_ne hset hj⟩
  · have hout := Bool.eq_false_iff.mpr hin
    have hk : k ∉ offendingSides s k held.span e := fun hm => ne_of_mem_neighbours (mem_offendingSides_iff.mp hm).1 rfl
    have hcs : (haltCarriage (setReservation s k (some ⟨e, .plain⟩)) k .excursion (some .excursion)).carriages =
        s.carriages.modify k (·.strayed (some ⟨e, .plain⟩)) := by
      rw [haltCarriage_some_carriages, hset, List.modify_modify_eq]
      rfl
    have hst : c.strayed (some ⟨e, .plain⟩) = ((c.reserved (some ⟨e, .plain⟩)).flagged .excursion).cleared :=
      Carriage.halted_of_still (c := (c.reserved (some ⟨e, .plain⟩)).flagged .excursion)
        (show c.ctx.runState ≠ .active by simp [hh]) (show c.ctx.runState ≠ .lost by simp [hh])
    rw [unfreeze_outside hc hv hout]
    refine ⟨((c.reserved (some ⟨e, .plain⟩)).flagged .excursion).cleared, ?_, rfl, rfl, hh, rfl, rfl,
      fun hn => absurd hn hin, fun _ => ⟨rfl, ?_⟩, fun j hj => ?_, fun j hj hn => ?_⟩
    · rw [haltNeighbours_carriage, if_neg hk, State.carriage_modify_self hcs, hc, ← hst]
      rfl
    · exact ((haltCarriage_some_stops hd (show c.ctx.runState ≠ .lost by simp [hh]) .excursion .excursion).after
        (setReservation_follows ..).toKeeps (setReservation_stops ..)).then (haltNeighbours_follows ..).toKeeps
    · have hjn := (mem_offendingSides_iff.mp hj).1
      obtain ⟨b, hb⟩ : ∃ b, s.carriage j = some b :=
        ⟨_, List.getElem?_eq_getElem (lt_of_mem_neighbours (carriage_lt hc) hjn)⟩
      refine ⟨b.halted, ?_, b.halted_not_active, by rw [hb, Carriage.halted_flags]; rfl⟩
      rw [haltNeighbours_carriage, if_pos hj, State.carriage_modify_ne hcs (ne_of_mem_neighbours hjn), hb]
      rfl
    · rw [haltNeighbours_carriage, if_neg hn, State.carriage_modify_ne hcs hj]

end

/-- A LOST carriage made FRESH and HALTED, with its notice, before its reservation is looked at (R17). -/
def wake (s : State) (k : Nat) : State :=
  handStateChange (s.modContext k fun c => { c with fresh := true, runState := .halted }) k .halted

theorem wake_follows (s : State) (k : Nat) : s.Follows 0 (wake s k) :=
  (State.Follows.modContext ..).trans (handStateChange_follows ..)

theorem wake_carriages (s : State) (k : Nat) :
    (wake s k).carriages =
      s.carriages.modify k fun c => { c with ctx := { c.ctx with fresh := true, runState := .halted } } := by
  rw [wake, handStateChange_carriages]
  rfl

section
variable {s : State} {k : Nat} {c : Carriage} {r : CarriageRecord} {x : AxisReport} {e : Interval}
  (hc : s.carriage k = some c) (hr : s.record k = some r) (hx : c.ctx.lastX = some x)
  (he : envelope r s.railLength x.position x.velocity = e)
include hc hr hx he

theorem recover_head : recover s k .head = unfreeze (wake s k) k e := by
  subst he
  simp only [recover, hr, currentEnvelope_eq hc hr hx]
  rfl

theorem recover_x (v : Int) :
    recover s k (.drive .x v) =
      if r.vStill < v.natAbs then unbiddenMotion (unfreeze (wake s k) k e) k else unfreeze (wake s k) k e := by
  subst he
  simp only [recover, hr, currentEnvelope_eq hc hr hx]
  rfl

end

/-- What recovery leaves of each carriage, and of the STOP entries, by whether the carriage moves (R17, R50). -/
theorem recover_taken {s : State} {k : Nat} {c : Carriage} {r : CarriageRecord} {held : Reservation} {e : Interval}
    {moves : Bool} {f : ReportFrom} (hc : s.carriage k = some c) (hr : s.record k = some r)
    (hv : c.reservation = some held)
    (hrec : recover s k f =
      if moves then unbiddenMotion (unfreeze (wake s k) k e) k else unfreeze (wake s k) k e)
    (hm : moves = true → c.ctx.membership ≠ .excluded) :
    ∃ d, (recover s k f).carriage k = some d ∧ d.ctx.fresh = true ∧ d.reservation = some ⟨e, .plain⟩ ∧ d.load = c.load ∧
      (moves = false → d.ctx.runState = .halted) ∧
      (moves = true → d.ctx.runState = .stopping ∧ d.ctx.stillX = false ∧ d.ctx.stillZ = false) ∧
      (e.within held.span = true → d.ctx.flags = c.ctx.flags) ∧
      (e.within held.span = false → d.ctx.flags = { c.ctx.flags with excursion := true }) ∧
      (e.within held.span = false ∨ moves = true → ∀ axis node, s.addressOf (driveRole k axis) = some node →
        ∃ y ∈ (recover s k f).port.stops, y.node = node) ∧
      (∀ j, j ∈ offendingSides s k held.span e → ∃ b, (recover s k f).carriage j = some b ∧
        b.ctx.runState ≠ .active ∧ (s.carriage j).map (·.ctx.flags) = some b.ctx.flags) ∧
      ∀ j, j ≠ k → j ∉ offendingSides s k held.span e → (recover s k f).carriage j = s.carriage j := by
  have hcs := wake_carriages s k
  have hw : (wake s k).carriage k = some { c with ctx := { c.ctx with fresh := true, runState := .halted } } := by
    rw [State.carriage_modify_self hcs, hc]
    rfl
  have hside (j : Nat) : j ∈ offendingSides (wake s k) k held.span e ↔ j ∈ offendingSides s k held.span e := by
    rw [mem_offendingSides_iff, mem_offendingSides_iff, neighbours_of_modify hcs]
  have hfol := (wake_follows s k).trans (unfreeze_follows (wake s k) k e)
  obtain ⟨d, hd, hres, hfr, hrun, hmem, hld, hin, hout, hnb, hne⟩ := unfreeze_taken (e := e) hw hv rfl
  have hothers (u : State) (hu : ∀ j, j ≠ k → u.carriage j = (unfreeze (wake s k) k e).carriage j) :
      (∀ j, j ∈ offendingSides s k held.span e → ∃ b, u.carriage j = some b ∧
        b.ctx.runState ≠ .active ∧ (s.carriage j).map (·.ctx.flags) = some b.ctx.flags) ∧
      ∀ j, j ≠ k → j ∉ offendingSides s k held.span e → u.carriage j = s.carriage j := by
    refine ⟨fun j hj => ?_, fun j hj hn => ?_⟩
    · have hjk := ne_of_mem_neighbours (mem_offendingSides_iff.mp hj).1
      obtain ⟨b, hb, hna, hfl⟩ := hnb j ((hside j).mpr hj)
      exact ⟨b, (hu j hjk).trans hb, hna, (State.carriage_modify_ne hcs hjk).symm ▸ hfl⟩
    · rw [hu j hj, hne j hj (mt (hside j).mp hn), State.carriage_modify_ne hcs hj]
  have hstops (hx : e.within held.span = false) : s.Stops (unfreeze (wake s k) k e) k .excursion :=
    (hout hx).2.after (wake_follows s k).toKeeps (hand_stops ..)
  rw [hrec]
  cases moves with
  | false =>
    obtain ⟨h1, h2⟩ := hothers _ fun _ _ => rfl
    exact ⟨d, hd, hfr, hres, hld, fun _ => hrun, fun hx => (nomatch hx), hin, fun hx => (hout hx).1,
      fun hx axis node hn => (hstops (hx.resolve_right (by decide))).node hn, h1, h2⟩
  | true =>
    have hdm : d.ctx.membership ≠ .excluded := hmem.trans_ne (hm rfl)
    have hdr := (hfol.record k).trans hr
    have hub := unbiddenMotion_working_carriages hd hdr hdm
    obtain ⟨h1, h2⟩ := hothers (unbiddenMotion (unfreeze (wake s k) k e) k) fun j hj => State.carriage_modify_ne hub hj
    refine ⟨d.slowed.cleared, ?_, hfr, hres, hld, fun hx => (nomatch hx), fun _ => ⟨rfl, rfl, rfl⟩, hin,
      fun hx => (hout hx).1, fun _ axis node hn => ?_, h1, h2⟩
    · rw [if_pos rfl, State.carriage_modify_self hub, hd]
      rfl
    · refine (unbiddenMotion_working_stops hd hdr hdm).node (axis := axis) ?_
      rw [hfol.addressOf]
      exact hn

/-! Reports of a LOST carriage. -/

/-- The drive fault of a LOST carriage sets its flag, and requests no STOP (R11, R18). -/
theorem faultState_lost {s : State} {k : Nat} {c : Carriage} {rep : StateReport} (hc : s.carriage k = some c)
    (hl : c.ctx.runState = .lost) (hf : rep.axis.status.fault = true) (axis : Axis) {g : Carriage → Carriage}
    (hg : (c.recorded s.lineClock axis rep).flagged .driveFault = g c) :
    faultState (recordState s k axis rep) k rep = tellFault s k c g := by
  have hr : (raiseFlag (recordState s k axis rep) k .driveFault).runState k = some .lost := by
    have hx : (raiseFlag (recordState s k axis rep) k .driveFault).carriage k =
        some ((c.recorded s.lineClock axis rep).flagged .driveFault) := by
      rw [State.carriage_modify_self (raiseFlag_carriages ..), recordState_carriage hc]
      rfl
    rw [runState_eq hx]
    cases axis <;> exact congrArg some hl
  have hsame : (s.modCarriage k fun c => (c.recorded s.lineClock axis rep).flagged .driveFault) = s.changed k g :=
    modCarriage_congr fun d hd => by
      cases hd.symm.trans hc
      exact hg
  rw [faultState_fault hf, haltCarriage_flag, haltCarriage_idle (.inr hr), raiseFlag_recordState hc, hsame]
  rfl

/-- In LOST a STATE moves no reservation, and the carriage recovers once the arrival set is fresh (R10, R17). -/
theorem ruleState_lost {s : State} {k : Nat} {c : Carriage} {r : CarriageRecord} {rep : StateReport} {axis : Axis}
    {u : State} {d : Carriage} (hr : s.record k = some r) (hu : faultState (recordState s k axis rep) k rep = u)
    (hk : s.Keeps 0 u) (hd : u.carriage k = some d) (hl : d.ctx.runState = .lost)
    (hset : ∀ now w, d.ctx.freshSet now w = (c.recorded s.lineClock axis rep).ctx.freshSet now w) :
    ruleState s k axis rep .lost =
      if (c.recorded s.lineClock axis rep).ctx.freshSet s.lineClock r.w then
        recover u k (.drive axis rep.axis.velocity)
      else u := by
  have hdr := (hk.record k).trans hr
  have hupd : updateFor u k axis = u := by
    cases axis with
    | x => exact updateReservation_idle hd hdr (.inl (by rw [hl]; rfl))
    | z => rfl
  rw [ruleState, hu, hupd, runStateRules_lost hd hdr, hk.lineClock, hset]

/-- Settles O31: the expiry, then the report that completes a fresh arrival set, and the drive fault that does not. -/
theorem lostExpiryTaken : Obligations.LostExpiryTaken := by
  refine ⟨fun s k h => ⟨fun hidle => live_settled h (g := fun s => takeLost s k) (takeLost_idle hidle) h.settled, ?_⟩, ?_⟩
  · intro c r d held hh hc hr hd hf hx hv stop span
    have hcs := enterLost_carriages (r := r) hc hv
    have hkeep := enterLost_keeps (r := r) hc hv
    have htake : takeLost s k = haltNeighbours (enterLost s k r) (s.closeNeighbours k span) :=
      takeLost_eq hc hv hr hd hf hx rfl
    have hfol := haltNeighbours_follows (enterLost s k r) (s.closeNeighbours k span)
    have hall := hkeep.trans hfol.toKeeps
    have hlen := hall.reports
    rw [h.settled] at hlen
    have hrun : exec (.lostExpiry k) s = .next ((takeLost s k).withReports []) :=
      live_noHeld h (g := fun s => takeLost s k)
        (htake ▸ hfol.noHeld (hh.noHeld_of_modify hcs fun _ => rfl)) (htake ▸ hlen.trans (by decide)) rfl
    have hk : k ∉ s.closeNeighbours k span := fun hm => ne_of_mem_neighbours (mem_closeNeighbours_iff.mp hm).1 rfl
    rw [htake] at hrun
    have hstops := (enterLost_stops (r := r) hc hv).then hfol.toKeeps
    refine ⟨_, hrun, ?_, fun axis node hn => hstops.node hn, fun j hj => ?_, fun j hj hn => ?_, { hall.outside with }⟩
    · show (haltNeighbours _ _).carriage k = _
      rw [haltNeighbours_carriage, if_neg hk, State.carriage_modify_self hcs, hc]
      rfl
    · show (haltNeighbours _ _).runState j ≠ _
      rw [State.runState, haltNeighbours_carriage, if_pos hj]
      cases (enterLost s k r).carriage j with
      | none => simp
      | some e => simpa using e.halted_not_active
    · show (haltNeighbours _ _).carriage j = _
      rw [haltNeighbours_carriage, if_neg hn, State.carriage_modify_ne hcs hj]
  · intro s k dst src seq payload c r held h hh ho hc hr hl hv hw young recovered
    have hc' : s.between.carriage k = some c := hc
    -- Recovery after a change `g` of the carriage that leaves its flags.
    have htaken {o : Host.Outcome State Fault Refusal} {x : AxisReport} {moves : Bool} {t u : State} {n : Nat}
        {g f : Carriage → Carriage} {src : ReportFrom} (hot : o = .next t) (hku : s.between.Keeps n u)
        (hus : u.port.stops = s.port.stops) (hug : u.carriages = s.carriages.modify k g)
        (hgr : (g c).reservation = c.reservation) (hgf : (g c).ctx.flags = c.ctx.flags)
        (hrec : recover u k src = if moves then
            unbiddenMotion (unfreeze (wake u k) k (envelope r s.railLength x.position x.velocity)) k
          else unfreeze (wake u k) k (envelope r s.railLength x.position x.velocity))
        (hm : moves = true → (g c).ctx.membership ≠ .excluded) (htu : t.carriages = (recover u k src).carriages.modify k f)
        (hts : t.port.stops = (recover u k src).port.stops)
        (hf : ∀ e, (f e).ctx = e.ctx ∧ (f e).reservation = e.reservation) : recovered o x (moves = true) := by
      have hud : u.carriage k = some (g c) := by
        rw [State.carriage_modify_self (s := s) hug, hc]
        rfl
      have hside (j : Nat) : j ∈ offendingSides u k held.span (envelope r s.railLength x.position x.velocity) ↔
          j ∈ s.neighbours k ∧ (j < k ∧ (envelope r s.railLength x.position x.velocity).lo < held.span.lo ∨
            k < j ∧ held.span.hi < (envelope r s.railLength x.position x.velocity).hi) := by
        rw [mem_offendingSides_iff, neighbours_of_modify hug]
      have hwithin : (envelope r s.railLength x.position x.velocity).within held.span = true ↔
          held.span.lo ≤ (envelope r s.railLength x.position x.velocity).lo ∧
            (envelope r s.railLength x.position x.velocity).hi ≤ held.span.hi := by
        simp [Interval.within]
      obtain ⟨d, hd, hfr, hres, -, hstand, hmove, hin, hout, hst, hnb, hne⟩ :=
        recover_taken hud ((hku.record k).trans hr) (hgr.trans hv) hrec hm
      obtain ⟨hctx, hfres⟩ := hf d
      refine ⟨t, f d, hot, ?_, hctx ▸ hfr, hfres.trans hres, fun hn => hctx ▸ hstand (Bool.eq_false_iff.mpr hn),
        fun hy => hctx ▸ hmove hy, fun hy => hctx ▸ (hin (hwithin.mpr hy)).trans hgf,
        fun hy => hctx ▸ (hout (Bool.eq_false_iff.mpr (mt hwithin.mp hy))).trans (hgf ▸ rfl), fun hy axis node hn => ?_,
        fun j hj => ?_, fun j hj hn => ?_⟩
      · rw [State.carriage_modify_self htu, hd]
        rfl
      · rw [hts]
        exact hst (hy.imp_left fun hy => Bool.eq_false_iff.mpr (mt hwithin.mp hy)) axis node ((hku.addressOf _).trans hn)
      · have hjk := ne_of_mem_neighbours hj.1
        obtain ⟨b, hb, hna, hfl⟩ := hnb j ((hside j).mpr hj)
        exact ⟨b, (State.carriage_modify_ne htu hjk).trans hb, hna,
          (State.carriage_modify_ne (s := s) hug hjk).symm ▸ hfl⟩
      · exact ((State.carriage_modify_ne htu hj).trans (hne j hj (mt (hside j).mp hn))).trans
          (State.carriage_modify_ne (s := s) hug hj)
    have hlost : s.between.runState k = some .lost := (runState_eq hc').trans (congrArg some hl)
    -- A drive fault that leaves the arrival set incomplete.
    have hfault {rep : StateReport} {axis : Axis} {g : Carriage → Carriage} (hp : parseState payload = some rep)
        (hf : rep.axis.status.fault = true) (hs : s.roleOf src.toNat = some (driveRole k axis))
        (hset : ¬(c.recorded s.lineClock axis rep).ctx.freshSet s.lineClock r.w = true)
        (hg : (c.recorded s.lineClock axis rep).flagged .driveFault = g c) :
        exec (.state dst src seq payload) s = .next ((tellFault s k c g).passedUp ⟨dst, src, 0x20, seq, payload⟩) := by
      refine exec_state_exact h hh ho hp hs hlost ?_
      have hd := faultState_carriage hc' (axis := axis) hf
      have hk := (recordState_follows s.between k axis rep).toKeeps.trans (faultState_keeps _ k rep)
      have hrec : (c.recorded s.lineClock axis rep).ctx.runState = .lost := by cases axis <;> exact hl
      have hb : (c.recorded s.lineClock axis rep).broken = (c.recorded s.lineClock axis rep).flagged .driveFault := by
        rw [Carriage.broken, Carriage.halted,
          show ((c.recorded s.lineClock axis rep).flagged .driveFault).ctx.runState = .lost from hrec]
      rw [State.between_lineClock, hb] at hd
      rw [ruleState_lost (s := s.between) (c := c) hr rfl hk hd hrec (fun _ _ => rfl), State.between_lineClock, if_neg hset,
        faultState_lost (s := s.between) hc' hl hf axis hg, tellFault_between]
      exact withReports_of_settled ((tellFault_reports s k c g).trans h.settled)
    refine ⟨fun rep x hs hp hld hx yx yz => ?_, fun rep hp => ⟨fun hs hnf yz yh hm => ?_, fun hf => ⟨fun hs hn => ?_,
      fun hs hn => ?_⟩⟩⟩
    · have hheard : (s.between.modCarriage k (·.heard s.lineClock)).carriage k = some (c.heard s.lineClock) :=
        modCarriage_same hc' _
      have harr : readHeadArrival s.between k = recover (s.between.modCarriage k (·.heard s.lineClock)) k .head := by
        rw [readHeadArrival_eq hc', State.between_lineClock, hl, runStateRules_lost hheard hr]
        exact if_pos ((freshSet_iff (c.heard s.lineClock).ctx s.lineClock r.w).mpr ⟨yx, yz, rfl, young_now hw⟩)
      have hrec := recover_head hheard (r := r) hr (x := x) hx rfl
      obtain ⟨d, hd, -, -, hdl, -⟩ := recover_taken (moves := false) hheard hr hv hrec nofun
      obtain ⟨t, ht, hsh⟩ := exec_senseHead_shows h hh ho hp hs hc (harr ▸ hd) (hdl.trans hld)
      rw [harr] at hsh
      have := htaken (moves := false) (g := (·.heard s.lineClock)) (f := (·.counted rep.modules)) ht
        (State.Follows.modCarriage s.between k (g := (·.heard s.lineClock)) fun _ hn => hn).toKeeps rfl rfl rfl rfl hrec nofun
        hsh.carriages hsh.stops fun e => ⟨rfl, rfl⟩
      rwa [show (false = true) = False from by simp] at this
    · obtain ⟨t, ht, hsh⟩ := exec_state_shows (axis := .x) h hh ho hp hs hlost
      have hd := recordState_carriage hc' .x rep
      have hset : (c.recorded s.lineClock .x rep).ctx.freshSet s.lineClock r.w = true :=
        (freshSet_iff _ _ _).mpr ⟨⟨rfl, young_now hw⟩, yz, yh⟩
      rw [ruleState_lost (s := s.between) (c := c) hr (faultState_none hnf _ k) (recordState_follows ..).toKeeps hd hl
        (fun _ _ => rfl), State.between_lineClock, if_pos hset] at hsh
      have hrec := recover_x hd (r := r) hr (x := rep.axis) rfl rfl rep.axis.velocity
      have := htaken (moves := decide (r.vStill < rep.axis.velocity.natAbs)) (g := (·.recorded s.lineClock .x rep))
        (f := id) (x := rep.axis) ht (recordState_follows s.between k .x rep).toKeeps rfl rfl rfl rfl
        (hrec.trans (if_congr decide_eq_true_iff.symm rfl rfl)) (fun _ => hm) (hsh.carriages.trans (List.modify_id ..).symm)
        hsh.stops fun e => ⟨rfl, rfl⟩
      rwa [decide_eq_true_eq] at this
    · exact hfault (axis := .x) (g := fun d =>
        { d with
          ctx :=
            { d.ctx with
              lastX := some rep.axis
              arrivalX := some s.lineClock
              inSetX := true
              activeX := c.ctx.activeX.filter fun m => !(rep.axis.status.inPosition && m.tag == rep.tag)
              flags := { d.ctx.flags with driveFault := true } } }) hp hf hs
        (fun hy => hn ((freshSet_iff _ _ _).mp hy).2) rfl
    · exact hfault (axis := .z) (g := fun d =>
        { d with
          ctx :=
            { d.ctx with
              lastZ := some rep.axis
              arrivalZ := some s.lineClock
              inSetZ := true
              activeZ := c.ctx.activeZ.filter fun m => !(rep.axis.status.inPosition && m.tag == rep.tag)
              flags := { d.ctx.flags with driveFault := true } } }) hp hf hs
        (fun hy => hn ⟨((freshSet_iff _ _ _).mp hy).1, ((freshSet_iff _ _ _).mp hy).2.2⟩) rfl

end Sys2Proof.Machine
end

section
/-! PROOFS. The reports of a step where one carriage holds a move: which of them wake it, and that the others do nothing
(R43, R74). -/

namespace Sys2Proof.Machine

theorem State.NoneHeldBut.held {s : State} {j k : Nat} (h : s.NoneHeldBut k) (hj : j ≠ k) : s.held j = none := by
  unfold State.held
  cases hc : s.carriage j with
  | none => rfl
  | some c => exact h j hj c hc

/-! Operations that are about one carriage, and do not look at the reports. -/

/-- A report on which no held move of carriage `k` waits. -/
def Report.Idle (k : Nat) (r : Report) : Prop := ∀ h : HeldMove, h.waitsFor k r = false

/-- From `s`, `f` changes carriage `k` alone, whatever reports stand, and adds at most `n` reports, all idle for `k`. -/
structure State.Local (k n : Nat) (f : State → State) (s : State) : Prop where
  elsewhere : ∀ j, j ≠ k → (f s).carriage j = s.carriage j
  reports : ∃ l : List Report, (∀ r ∈ l, r.Idle k) ∧ l.length ≤ n ∧
    ∀ rs, f (s.withReports rs) = (f s).withReports (rs ++ l)

/-- The reports of a change of reservation name the carriage itself, and its own move waits on none of them (R43). -/
theorem reservationReports_idle {k : Nat} {b a : Option Reservation} {r : Report} (hr : r ∈ reservationReports k b a) :
    r.Idle k := by
  intro h
  unfold reservationReports at hr
  split at hr
  · rw [List.mem_append] at hr
    rcases hr with hr | hr
    · rw [List.mem_ite_nil_right, List.mem_singleton] at hr
      obtain ⟨⟨hk, -⟩, rfl⟩ := hr
      have hne : k - 1 ≠ k := by omega
      simp [HeldMove.waitsFor, hne]
    · rw [List.mem_ite_nil_right, List.mem_singleton] at hr
      obtain ⟨-, rfl⟩ := hr
      simp [HeldMove.waitsFor]
  · rw [List.mem_singleton] at hr
    subst hr
    simp [HeldMove.waitsFor]
  · simp at hr

/-- A MOVE placed for carriage `k`: its active move, and on the X axis its reservation (R59, R62). -/
def sentMove (s : State) (k : Nat) (axis : Axis) (target : Nat) (tag : Byte) : State :=
  match axis with
  | .z => setActive s k .z ⟨target, tag⟩
  | .x =>
    match (setActive s k .x ⟨target, tag⟩).admittedSpan k target with
    | none => setActive s k .x ⟨target, tag⟩
    | some span => setReservation (setActive s k .x ⟨target, tag⟩) k (some ⟨span, .plain⟩)

section
variable {s : State} {k target : Nat} {tag : Byte}

theorem sentMove_x_none (h : (setActive s k .x ⟨target, tag⟩).admittedSpan k target = none) :
    sentMove s k .x target tag = setActive s k .x ⟨target, tag⟩ := by
  simp [sentMove, h]

theorem sentMove_x_some {span : Interval} (h : (setActive s k .x ⟨target, tag⟩).admittedSpan k target = some span) :
    sentMove s k .x target tag = setReservation (setActive s k .x ⟨target, tag⟩) k (some ⟨span, .plain⟩) := by
  simp [sentMove, h]

end

theorem forwardMove_eq (s : State) (k : Nat) (axis : Axis) (f : Frame) (target : Nat) (tag : Byte) :
    forwardMove s k axis f target tag = (placeDown s f).map (sentMove · k axis target tag) := by
  unfold forwardMove
  cases placeDown s f with
  | none => rfl
  | some t =>
    cases axis with
    | z => rfl
    | x =>
      cases hs : (setActive t k .x ⟨target, tag⟩).admittedSpan k target with
      | none => simp [hs, sentMove_x_none hs]
      | some span => simp [hs, sentMove_x_some hs]

/-- The MOVE generated for a held move (R77). -/
def moveFor (s : State) (m : HeldMove) (x v : Nat) (c : Bool) (node : Nat) : Frame :=
  { dst := BitVec.ofNat 8 node
    src := BitVec.ofNat 8 s.port.ownAddress
    kind := Kind.move
    seq := s.port.ownSeq
    payload := moveBytes m.tag m.axis x v m.action c }

/-- The state after a MOVE generated for the held move of carriage `k` has been sent to a node (R77). -/
def generatedMove (s : State) (k : Nat) (m : HeldMove) (x v : Nat) (c : Bool) (node : Nat) : State :=
  takeSeq
    (sentMove (s.withPort { s.port with dForward := s.port.dForward ++ [moveFor s m x v c node] }) k m.axis x m.tag)

/-- Whether a generated MOVE is taken does not depend on the reports that stand. -/
theorem generateMove_cases (s : State) (k : Nat) (m : HeldMove) (x v : Nat) (c : Bool) :
    (∀ rs, generateMove (s.withReports rs) k m x v c = none) ∨
      ∃ node, ∀ rs, generateMove (s.withReports rs) k m x v c = some (generatedMove (s.withReports rs) k m x v c node) := by
  have hg (rs : List Report) {node : Nat} (ha : s.addressOf (driveRole k m.axis) = some node) :
      generateMove (s.withReports rs) k m x v c =
        ((placeDown (s.withReports rs) (moveFor (s.withReports rs) m x v c node)).map (sentMove · k m.axis x m.tag)).map
          takeSeq := by
    have har : (s.withReports rs).addressOf (driveRole k m.axis) = some node := ha
    simp only [generateMove, har, forwardMove_eq]
    rfl
  cases ha : s.addressOf (driveRole k m.axis) with
  | none =>
    refine .inl fun rs => ?_
    simp [generateMove, show (s.withReports rs).addressOf (driveRole k m.axis) = none from ha]
  | some node =>
    by_cases hroom : s.port.dForward.length < Config.forwardRoom
    · refine .inr ⟨node, fun rs => ?_⟩
      rw [hg rs ha, placeDown, if_pos (show (s.withReports rs).port.dForward.length < _ from hroom)]
      rfl
    · refine .inl fun rs => ?_
      rw [hg rs ha, placeDown, if_neg (show ¬(s.withReports rs).port.dForward.length < _ from hroom)]
      rfl

section
variable {s : State} {k : Nat}

theorem recheckDeadlock_empty (h : s.held k = none) (b : Option Blocker) : recheckDeadlock s k b = s := by
  simp [recheckDeadlock, h]

/-- Where no other carriage holds a move, only one that would wait on itself ends DEADLOCK. -/
theorem recheckDeadlock_alone (h : s.NoneHeldBut k) {m : HeldMove} (hm : s.held k = some m)
    (b : Option Blocker) :
    recheckDeadlock s k b =
      if m.blocker ≠ b ∧ m.blocker = some (.carriage k) then endRefused s k .deadlock else s := by
  by_cases hb : m.blocker = b
  · simp [recheckDeadlock, hm, hb]
  cases hw : m.blocker with
  | none => simp [recheckDeadlock, hm, hw]
  | some w =>
    cases w with
    | fence i => simp [recheckDeadlock, hm, hw]
    | carriage j =>
      by_cases hj : j = k
      · subst hj
        simp [recheckDeadlock, hm, hw, laterStamp, hw ▸ hb]
      · have hn : s.held j = none := h.held hj
        simp [recheckDeadlock, hm, hw, hn, hj]

end

namespace State.Local

variable {k n : Nat} {s : State} {f g : State → State}

/-- An operation that makes no report. -/
theorem of_silent (he : ∀ j, j ≠ k → (f s).carriage j = s.carriage j)
    (hf : ∀ rs, f (s.withReports rs) = (f s).withReports rs) : s.Local k 0 f :=
  ⟨he, [], by simp, le_rfl, fun rs => by rw [hf, List.append_nil]⟩

theorem andThen {m : Nat} (hf : s.Local k m f) (hg : (f s).Local k n g) : s.Local k (m + n) (fun s => g (f s)) := by
  obtain ⟨l, hl, hll, hlr⟩ := hf.reports
  obtain ⟨l', hl', hll', hlr'⟩ := hg.reports
  refine ⟨fun j hj => (hg.elsewhere j hj).trans (hf.elsewhere j hj), l ++ l',
    fun r hr => (List.mem_append.mp hr).elim (hl r) (hl' r), by rw [List.length_append]; omega, fun rs => ?_⟩
  rw [hlr, hlr', List.append_assoc]

theorem mono {m : Nat} (hf : s.Local k m f) (h : m ≤ n) : s.Local k n f :=
  ⟨hf.elsewhere, hf.reports.imp fun _ hl => ⟨hl.1, hl.2.1.trans h, hl.2.2⟩⟩

/-- Another operation that does the same from here, whatever reports stand. -/
theorem congr (hf : s.Local k n f) (h : ∀ rs, g (s.withReports rs) = f (s.withReports rs)) : s.Local k n g := by
  have hs : g s = f s := h s.reports
  refine ⟨hs ▸ hf.elsewhere, hs ▸ hf.reports.imp fun _ hl => ⟨hl.1, hl.2.1, fun rs => (h rs).trans (hl.2.2 rs)⟩⟩

theorem noneHeldBut (hf : s.Local k n f) (h : s.NoneHeldBut k) : (f s).NoneHeldBut k :=
  fun j hj c hc => h j hj c ((hf.elsewhere j hj).symm.trans hc)

theorem modCarriage (s : State) (k : Nat) (m : Carriage → Carriage) : s.Local k 0 (·.modCarriage k m) :=
  .of_silent (fun _ hj => State.carriage_modify_ne (State.modCarriage_carriages ..) hj) fun _ => rfl

theorem hand (s : State) (k : Nat) (a : NoticeKind) (b : Option Nat) (c : Reference) (d : Cause) (e : Detail) :
    s.Local k 0 (Machine.hand · a b c d e) :=
  .of_silent (fun j _ => State.carriage_congr (hand_carriages ..) j) fun rs => hand_withReports s rs a b c d e

theorem endHeld (s : State) (k : Nat) (c : Cause) (d : Detail) : s.Local k 0 (Machine.endHeld · k c d) := by
  cases hs : (s.carriage k).bind (·.slot) with
  | none =>
    refine .of_silent (fun _ _ => by rw [endHeld_empty hs]) fun rs => ?_
    rw [endHeld_empty hs]
    exact endHeld_empty (s := s.withReports rs) hs c d
  | some m =>
    exact ((modCarriage s k _).andThen (hand ..)).congr fun rs => endHeld_held (s := s.withReports rs) hs c d

theorem endRefused (s : State) (k : Nat) (c : Cause) : s.Local k 0 (Machine.endRefused · k c) :=
  (modCarriage s k _).andThen (endHeld ..)

theorem setSlot (s : State) (k : Nat) (h : HeldMove) : s.Local k 0 (Machine.setSlot · k h) := modCarriage ..

theorem setReservation (s : State) (k : Nat) (v : Option Reservation) : s.Local k 2 (Machine.setReservation · k v) := by
  cases hc : s.carriage k with
  | none =>
    have hsame (u : State) (hu : u.carriage k = none) : Machine.setReservation u k v = u := by
      simp [Machine.setReservation, hu]
    refine State.Local.mono (.of_silent (fun j _ => by rw [hsame s hc]) fun rs => ?_) (Nat.zero_le 2)
    rw [hsame s hc]
    exact hsame _ hc
  | some c =>
    refine ⟨fun j hj => State.carriage_modify_ne (setReservation_carriages ..) hj, reservationReports k c.reservation v,
      fun r => reservationReports_idle, reservationReports_length_le .., fun rs => ?_⟩
    rw [setReservation_tested hc, setReservation_tested (s := s.withReports rs) hc, modCarriage_withReports,
      testFences_withReports]
    rfl

/-- A MOVE sent for a carriage: its active move, and on the X axis its reservation (R59, R62). -/
theorem sentMove (s : State) (k : Nat) (axis : Axis) (target : Nat) (tag : Byte) :
    s.Local k 2 (Machine.sentMove · k axis target tag) := by
  cases axis with
  | z => exact (modCarriage s k _).mono (Nat.zero_le 2)
  | x =>
    cases hs : (setActive s k .x ⟨target, tag⟩).admittedSpan k target with
    | none =>
      refine State.Local.congr ((modCarriage s k _).mono (Nat.zero_le 2)) fun rs => sentMove_x_none hs
    | some span =>
      exact ((modCarriage s k _).andThen (setReservation ..)).congr fun rs => sentMove_x_some hs

theorem recheckDeadlock (h : s.NoneHeldBut k) (b : Option Blocker) : s.Local k 0 (Machine.recheckDeadlock · k b) := by
  have hid : s.Local k 0 fun s => s := .of_silent (fun _ _ => rfl) fun _ => rfl
  cases hm : s.held k with
  | none => exact hid.congr fun rs => recheckDeadlock_empty (s := s.withReports rs) hm b
  | some m =>
    have hd (rs : List Report) := recheckDeadlock_alone (s := s.withReports rs) h hm b
    by_cases hb : m.blocker ≠ b ∧ m.blocker = some (.carriage k)
    · exact (endRefused s k .deadlock).congr fun rs => (hd rs).trans (if_pos hb)
    · exact hid.congr fun rs => (hd rs).trans (if_neg hb)

theorem stayHeld (h : s.NoneHeldBut k) (m : HeldMove) (w : Waiting) : s.Local k 0 (Machine.stayHeld · k m w) :=
  have hset := setSlot s k
    { m with cause := w.cause, side := w.side, blocker := w.blocker, lastClamped := w.lastClamped }
  hset.andThen (recheckDeadlock (hset.noneHeldBut h) m.blocker)

theorem generatedMove (s : State) (k : Nat) (m : HeldMove) (x v : Nat) (c : Bool) (node : Nat) :
    s.Local k 2 (Machine.generatedMove · k m x v c node) :=
  ((of_silent (f := fun s => s.withPort { s.port with dForward := s.port.dForward ++ [moveFor s m x v c node] })
    (fun _ _ => rfl) fun _ => rfl).andThen (sentMove _ k m.axis x m.tag)).andThen (of_silent (fun _ _ => rfl) fun _ => rfl)

/-- A re-evaluation, where no other carriage holds a move (R75, R76). -/
theorem reevaluate (h : s.NoneHeldBut k) : s.Local k 2 (Machine.reevaluate · k) := by
  have hid : s.Local k 2 fun s => s := .mono (.of_silent (fun _ _ => rfl) fun _ => rfl) (Nat.zero_le 2)
  cases hm : s.held k with
  | none => exact hid.congr fun rs => by simp [Machine.reevaluate, show (s.withReports rs).held k = none from hm]
  | some m =>
    have hmr (rs : List Report) : (s.withReports rs).held k = some m := hm
    have hjr (rs : List Report) : judge (s.withReports rs) k false m.axis m.target m.speed =
      judge s k false m.axis m.target m.speed := rfl
    have hstay (w : Waiting) := (stayHeld h m w).mono (Nat.zero_le 2)
    have hwait := (setSlot s k { m with waitingForRoom := true }).mono (Nat.zero_le 2)
    -- A forwarding: not taken, or sent and followed by what makes no report.
    have hsend (x v : Nat) (c : Bool) {f g : State → State}
        (hf : ∀ rs, g (s.withReports rs) =
          (Machine.generateMove (s.withReports rs) k m x v c).elim
            (Machine.setSlot (s.withReports rs) k { m with waitingForRoom := true }) f)
        (hl : ∀ t : State, t.NoneHeldBut k → t.Local k 0 f) : s.Local k 2 g := by
      rcases generateMove_cases s k m x v c with hn | ⟨node, hs⟩
      · exact hwait.congr fun rs => by rw [hf, hn, Option.elim_none]
      · have hgen := generatedMove s k m x v c node
        exact (hgen.andThen (hl _ (hgen.noneHeldBut h))).congr fun rs => by rw [hf, hs, Option.elim_some]
    cases hj : judge s k false m.axis m.target m.speed with
    | refuse cause =>
      exact ((endRefused s k cause).mono (Nat.zero_le 2)).congr fun rs => by simp [Machine.reevaluate, hmr, hjr, hj]
    | waitable cause =>
      exact (hstay ⟨cause, none, none, m.lastClamped⟩).congr fun rs => by simp [Machine.reevaluate, hmr, hjr, hj]
    | forward target speed clamped =>
      cases clamped with
      | false =>
        exact hsend target speed false (f := fun t => Machine.endHeld (countAdmitted t k) k .admitted .absent)
          (fun rs => by
            cases hg : generateMove (s.withReports rs) k m target speed false <;> simp [Machine.reevaluate, hmr, hjr, hj, hg])
          fun t _ => (modCarriage t k _).andThen (endHeld ..)
      | true =>
        exact hsend target speed true (f := fun t => Machine.endHeld (countClamped t k) k .clamped (.position target))
          (fun rs => by
            cases hg : generateMove (s.withReports rs) k m target speed true <;> simp [Machine.reevaluate, hmr, hjr, hj, hg])
          fun t _ => (modCarriage t k _).andThen (endHeld ..)
    | blocked b =>
      cases hx : (if m.action = .clampWait then b.shorter else none) with
      | none =>
        exact (hstay ⟨.blocked, some b.side, b.blocker, m.lastClamped⟩).congr fun rs => by
          simp [Machine.reevaluate, hmr, hjr, hj, hx]
      | some x =>
        by_cases hb : beyondLast b.rightward x m.lastClamped = true
        · exact hsend x b.speed true (f := fun t =>
            Machine.stayHeld (verdictClamped t k m.tag x) k m ⟨.blocked, some b.side, b.blocker, some x⟩)
            (fun rs => by
              cases hg : generateMove (s.withReports rs) k m x b.speed true <;>
                simp [Machine.reevaluate, hmr, hjr, hj, hx, hb, hg])
            fun t ht => by
              have hv : t.Local k 0 (verdictClamped · k m.tag x) := (modCarriage t k _).andThen (hand ..)
              exact hv.andThen (stayHeld (hv.noneHeldBut ht) ..)
        · exact (hstay ⟨.blocked, some b.side, b.blocker, m.lastClamped⟩).congr fun rs => by
            simp [Machine.reevaluate, hmr, hjr, hj, hx, hb]

end State.Local

/-! The reports of a step, where one carriage holds a move (R74). -/

theorem settle_noReports (n : Nat) (s : State) : settle n (s.withReports []) = s.withReports [] := by
  cases n <;> rfl

section
variable {s : State} {k : Nat} (h : s.NoneHeldBut k)
include h

/-- A report that does not wake carriage `k`'s held move changes nothing. -/
theorem actOn_asleep {r : Report} (hr : ∀ m, s.held k = some m → m.waitsFor k r = false) : actOn s r = s := by
  have hfor (j : Nat) : actFor r s j = s := by
    unfold actFor
    by_cases hj : j = k
    · subst hj
      cases hm : s.held j with
      | none => rfl
      | some m => simp [hr m hm]
    · rw [h.held hj]
  unfold actOn
  induction List.range 4 with
  | nil => rfl
  | cons j l ih => rw [List.foldl_cons, hfor, ih]

/-- Reports none of which wakes carriage `k`'s held move are acted on with no effect. -/
theorem settle_asleep {pre post : List Report} (n : Nat) (hs : s.reports = pre ++ post)
    (hr : ∀ r ∈ pre, ∀ m, s.held k = some m → m.waitsFor k r = false) :
    settle (pre.length + n) s = settle n (s.withReports post) := by
  induction pre generalizing s with
  | nil =>
    rw [List.nil_append] at hs
    rw [← hs, List.length_nil, Nat.zero_add]
    rfl
  | cons r rs ih =>
    have hact : actOn (s.withReports (rs ++ post)) r = s.withReports (rs ++ post) :=
      actOn_asleep (s := s.withReports (rs ++ post)) h (hr r List.mem_cons_self)
    rw [List.length_cons, Nat.add_right_comm, settle, hs]
    show settle _ (actOn (s.withReports (rs ++ post)) r) = _
    rw [hact]
    exact ih (s := s.withReports (rs ++ post)) h rfl fun r' hr' => hr r' (List.mem_cons_of_mem _ hr')

/-- A step whose reports do not wake carriage `k`'s held move ends with them dropped. -/
theorem finish_asleep (hn : s.reports.length ≤ 64)
    (hr : ∀ r ∈ s.reports, ∀ m, s.held k = some m → m.waitsFor k r = false) :
    finish s = s.withReports [] := by
  have hs := settle_asleep h (post := []) (64 - s.reports.length) (List.append_nil _).symm hr
  rw [Nat.add_sub_cancel' hn] at hs
  exact hs.trans (settle_noReports ..)

/-- The report on which carriage `k`'s held move waits re-evaluates it, once. -/
theorem actOn_awake {r : Report} {m : HeldMove} (hk : k < 4) (hm : s.held k = some m) (hw : m.waitsFor k r = true)
    (hroom : r ≠ .room) : actOn s r = reevaluate s k := by
  have hself : actFor r s k = reevaluate s k := by
    have ha : answerMark r s k m = s := by
      cases r with
      | room => exact absurd rfl hroom
      | _ => rfl
    simp [actFor, hm, hw, ha]
  have hother {t : State} (ht : t.NoneHeldBut k) {j : Nat} (hj : j ≠ k) : actFor r t j = t := by
    simp [actFor, ht.held hj]
  have hafter := (State.Local.reevaluate h).noneHeldBut h
  have hrange : actOn s r = actFor r (actFor r (actFor r (actFor r s 0) 1) 2) 3 := rfl
  rw [hrange]
  rcases (by omega : k = 0 ∨ k = 1 ∨ k = 2 ∨ k = 3) with rfl | rfl | rfl | rfl
  · rw [hself, hother hafter (by decide), hother hafter (by decide), hother hafter (by decide)]
  · rw [hother h (by decide), hself, hother hafter (by decide), hother hafter (by decide)]
  · rw [hother h (by decide), hother h (by decide), hself, hother hafter (by decide)]
  · rw [hother h (by decide), hother h (by decide), hother h (by decide), hself]

/-- A step one of whose reports wakes carriage `k`'s held move re-evaluates it, and nothing else: what the re-evaluation
reports is about carriage `k` itself. -/
theorem finish_awake {pre post : List Report} {r : Report} {m : HeldMove} (hk : k < 4) (hm : s.held k = some m)
    (hs : s.reports = pre ++ r :: post) (hlen : s.reports.length ≤ 32) (hw : m.waitsFor k r = true) (hroom : r ≠ .room)
    (hpre : ∀ r ∈ pre, r.Idle k) (hpost : ∀ r ∈ post, r.Idle k) :
    finish s = (reevaluate (s.withReports []) k).withReports [] := by
  have hloc := State.Local.reevaluate h
  obtain ⟨l, hl, hll, hlr⟩ := hloc.reports
  have hwake : actOn (s.withReports post) r = (reevaluate s k).withReports (post ++ l) :=
    (actOn_awake (s := s.withReports post) h hk hm hw hroom).trans (hlr post)
  have hlen' : pre.length + (post.length + 1) ≤ 32 := by
    rw [hs, List.length_append, List.length_cons] at hlen
    exact hlen
  obtain ⟨n, hn⟩ : ∃ n, 64 = pre.length + ((post ++ l).length + n + 1) :=
    ⟨64 - (pre.length + ((post ++ l).length + 1)), by rw [List.length_append]; omega⟩
  have hidle : ∀ r ∈ post ++ l, r.Idle k := fun r hr => (List.mem_append.mp hr).elim (hpost r) (hl r)
  calc finish s = settle (pre.length + ((post ++ l).length + n + 1)) s := by rw [← hn]; rfl
    _ = settle ((post ++ l).length + n + 1) (s.withReports (r :: post)) :=
      settle_asleep h _ hs fun r hr m _ => hpre r hr m
    _ = settle ((post ++ l).length + n) (actOn (s.withReports post) r) := rfl
    _ = settle ((post ++ l).length + n) ((reevaluate s k).withReports (post ++ l)) := by rw [hwake]
    _ = settle n ((reevaluate s k).withReports []) :=
      settle_asleep (s := (reevaluate s k).withReports (post ++ l)) (hloc.noneHeldBut h) n (List.append_nil _).symm
        fun r hr m _ => hidle r hr m
    _ = (reevaluate s k).withReports [] := settle_noReports ..
    _ = (reevaluate (s.withReports []) k).withReports [] := by rw [hlr]; rfl

end

end Sys2Proof.Machine
end

section
/-! PROOFS. A STATE of an ACTIVE and FRESH carriage: its reservation, the held move it wakes, the excursion and the drive
fault it brings about (R10, R11, R43 to R45, R74). -/

namespace Sys2Proof.Machine

/-! A STATE where one carriage holds a move (R74). -/

theorem State.noneHeldBut_of_held {s : State} {k : Nat} (h : ∀ j, j ≠ k → s.held j = none) : s.NoneHeldBut k := by
  intro j hj c hc
  have := h j hj
  rwa [State.held, hc] at this

/-- A change of one carriage that leaves its slot leaves every held move. -/
theorem State.held_of_modify {s t : State} {k : Nat} {g : Carriage → Carriage}
    (ht : t.carriages = s.carriages.modify k g) (hg : ∀ c, (g c).slot = c.slot) (j : Nat) : t.held j = s.held j := by
  unfold State.held
  by_cases hj : j = k
  · subst hj
    rw [State.carriage_modify_self ht]
    cases s.carriage j <;> simp [hg]
  · rw [State.carriage_modify_ne ht hj]

theorem State.NoneHeldBut.of_modify {s t : State} {j k : Nat} {g : Carriage → Carriage} (h : s.NoneHeldBut j)
    (ht : t.carriages = s.carriages.modify k g) (hg : ∀ c, (g c).slot = c.slot) : t.NoneHeldBut j :=
  State.noneHeldBut_of_held fun i hi => (State.held_of_modify ht hg i).trans (h.held hi)

section
variable {s v : State} (h : s.Running) {dst src seq : Byte} {payload : List Byte} {rep : StateReport} {j k : Nat}
  {axis : Axis} (ho : ¬s.Own dst) (hp : parseState payload = some rep) (hs : s.roleOf src.toNat = some (driveRole k axis))
  (hj : s.NoneHeldBut j) {g : Carriage → Carriage}
  (hg : (readState s.between k axis rep).carriages = s.carriages.modify k g) (hslot : ∀ c, (g c).slot = c.slot)
  (hv : (readState s.between k axis rep).withReports [] = v.between)
include h ho hp hs hj hg hslot hv

/-- A STATE whose reports do not wake the one held move. -/
theorem exec_state_asleep (hlen : (readState s.between k axis rep).reports.length ≤ 64)
    (hr : ∀ r ∈ (readState s.between k axis rep).reports, ∀ m, s.held j = some m → m.waitsFor j r = false) :
    exec (.state dst src seq payload) s = .next (v.passedUp ⟨dst, src, 0x20, seq, payload⟩) := by
  have hheld := State.held_of_modify hg hslot j
  rw [exec_state h ho hp hs, finish_asleep (k := j), State.passedUp_withReports, State.passedUp_of_between hv]
  · exact fun i hi c hc => hj.of_modify hg hslot i hi c ((State.passedUp_carriage ..).symm.trans hc)
  · rwa [State.passedUp_reports]
  · intro r hm m hh
    rw [State.passedUp_reports] at hm
    refine hr r hm m (hheld.symm.trans ?_)
    rwa [State.held, State.passedUp_carriage] at hh

/-- A STATE one of whose reports wakes the one held move. -/
theorem exec_state_awake {pre post : List Report} {r : Report} {m : HeldMove} (hk : j < 4) (hm : s.held j = some m)
    (hreports : (readState s.between k axis rep).reports = pre ++ r :: post)
    (hlen : (readState s.between k axis rep).reports.length ≤ 32) (hw : m.waitsFor j r = true) (hroom : r ≠ .room)
    (hpre : ∀ r ∈ pre, r.Idle j) (hpost : ∀ r ∈ post, r.Idle j) :
    exec (.state dst src seq payload) s =
      .next ((reevaluate (v.passedUp ⟨dst, src, 0x20, seq, payload⟩) j).withReports []) := by
  rw [exec_state h ho hp hs,
    finish_awake (k := j) (m := m) (r := r) (pre := pre) (post := post) _ hk _ _ _ hw hroom hpre hpost,
    State.passedUp_withReports, State.passedUp_of_between hv]
  · exact fun i hi c hc => hj.of_modify hg hslot i hi c ((State.passedUp_carriage ..).symm.trans hc)
  · rw [State.held, State.passedUp_carriage]
    exact (State.held_of_modify hg hslot j).trans hm
  · rwa [State.passedUp_reports]
  · rwa [State.passedUp_reports]

end

/-! The reports of a STATE (R10, R74). -/

section
variable {s : State} {k : Nat} {c : Carriage} {r : CarriageRecord} (hc : s.carriage k = some c) (hr : s.record k = some r)
include hc hr

theorem stateReports_x :
    stateReports s k .x = s.withReports (s.reports ++ if c.xAtRest r then [.xRest k] else []) := by
  simp only [stateReports, hc, hr]
  split
  · rfl
  · rw [List.append_nil, withReports_self]

theorem stateReports_z {z : AxisReport} (hz : c.ctx.lastZ = some z) :
    stateReports s k .z = s.withReports (s.reports ++ if r.zClear ≤ z.position then [.headUp k] else []) := by
  simp only [stateReports, hc, hr, hz]
  split
  · rfl
  · rw [List.append_nil, withReports_self]

theorem runStateRules_active (hf : c.ctx.fresh = true) (axis : Axis) (v : Int) :
    runStateRules s k .active (.drive axis v) = s := by
  rw [runStateRules_tracked hc hr rfl, returnToFresh_idle hc hr (.inr (.inl hf))]
  rfl

end

theorem readState_active {s : State} {k : Nat} {c : Carriage} (hc : s.carriage k = some c) (ha : c.ctx.runState = .active)
    (axis : Axis) (rep : StateReport) :
    readState s k axis rep = stateReports (ruleState s k axis rep .active) k axis :=
  readState_eq (ha ▸ runState_eq hc) axis rep

/-! What a STATE of an ACTIVE and FRESH carriage brings about. -/

section
variable {s : State} {k : Nat} {c : Carriage} {r : CarriageRecord} {rep : StateReport} (hc : s.carriage k = some c)
  (hr : s.record k = some r) (hf : c.ctx.fresh = true)
include hc hr hf

theorem ruleState_active_z (hnf : rep.axis.status.fault = false) :
    ruleState s k .z rep .active = recordState s k .z rep := by
  rw [ruleState, faultState_none hnf, updateFor]
  exact runStateRules_active (recordState_carriage hc .z rep) hr hf ..

theorem ruleState_active_x (ha : c.ctx.runState = .active) (hnf : rep.axis.status.fault = false)
    (hm : c.ctx.membership ≠ .excluded)
    {stored : Reservation} (hv : c.reservation = some stored) {new : Interval}
    (hnew : candidateFor r s.railLength rep.axis (c.recorded s.lineClock .x rep).ctx.activeX = new) :
    ruleState s k .x rep .active = growReservation (recordState s k .x rep) k stored.span new ⟨new, .plain⟩ := by
  subst hnew
  have hd := recordState_carriage hc .x rep
  have ht : (c.recorded s.lineClock .x rep).ctx.runState.tracked = true := by
    rw [show (c.recorded s.lineClock .x rep).ctx.runState = .active from ha]
    rfl
  have hupd : updateReservation (recordState s k .x rep) k = _ :=
    (updateReservation_fresh hd hr ht hm (.inl hf)).trans (followCandidate_eq hd hr rfl hv)
  obtain ⟨e, he, -, hef, -⟩ := growReservation_kept hd stored.span
    (candidateFor r s.railLength rep.axis (c.recorded s.lineClock .x rep).ctx.activeX) ⟨_, .plain⟩
  rw [ruleState, faultState_none hnf, updateFor, hupd]
  exact runStateRules_active he ((growReservation_follows ..).record k |>.trans hr) (hef.trans hf) ..

end

/-- A Z STATE without fault, where the carriage alone may hold a move (R10, R74). -/
theorem activeState_z {s : State} {k : Nat} {dst src seq : Byte} {payload : List Byte} {rep : StateReport} {c : Carriage}
    {r : CarriageRecord} (h : s.Running) (ho : ¬s.Own dst) (hp : parseState payload = some rep)
    (hs : s.roleOf src.toNat = some (driveRole k .z)) (hc : s.carriage k = some c) (hr : s.record k = some r)
    (ha : c.ctx.runState = .active) (hf : c.ctx.fresh = true) (hnf : rep.axis.status.fault = false)
    (hh : s.NoneHeldBut k) :
    let recorded := s.changed k (·.recorded s.lineClock .z rep)
    let woken : Prop := ∃ m, c.slot = some m ∧ m.cause = .headLow ∧ r.zClear ≤ rep.axis.position
    (¬woken → exec (.state dst src seq payload) s = .next (recorded.passedUp ⟨dst, src, 0x20, seq, payload⟩)) ∧
      (woken → k < 4 → exec (.state dst src seq payload) s =
        .next ((reevaluate (recorded.passedUp ⟨dst, src, 0x20, seq, payload⟩) k).withReports [])) := by
  intro recorded woken
  have hc' : s.between.carriage k = some c := hc
  have hread : readState s.between k .z rep =
      (recordState s.between k .z rep).withReports (if r.zClear ≤ rep.axis.position then [.headUp k] else []) := by
    have hsettled : (recordState s.between k .z rep).reports = [] := h.settled
    rw [readState_active hc' ha, ruleState_active_z hc' hr hf hnf,
      stateReports_z (recordState_carriage hc' .z rep) hr rfl, hsettled, List.nil_append]
  have hv : (readState s.between k .z rep).withReports [] = recorded.between := by
    rw [hread]
    exact withReports_of_settled (s := recorded.between) h.settled
  have hg : (readState s.between k .z rep).carriages = s.carriages.modify k (·.recorded s.lineClock .z rep) := by
    rw [hread]
    rfl
  have hreports : (readState s.between k .z rep).reports = if r.zClear ≤ rep.axis.position then [.headUp k] else [] := by
    rw [hread]
    rfl
  have hslot : s.held k = c.slot := by simp [State.held, hc]
  refine ⟨fun hw => ?_, fun ⟨m, hm, hcause, hz⟩ hk => ?_⟩
  · refine exec_state_asleep h ho hp hs hh hg (fun _ => rfl) hv ?_ fun q hq m hm => ?_
    · rw [hreports]
      split <;> simp
    · rw [hreports, List.mem_ite_nil_right, List.mem_singleton] at hq
      obtain ⟨hz, rfl⟩ := hq
      have hcause : m.cause ≠ .headLow := fun hcause => hw ⟨m, hslot.symm.trans hm, hcause, hz⟩
      simp [HeldMove.waitsFor, hcause]
  · rw [if_pos hz] at hreports
    exact exec_state_awake h ho hp hs hh hg (fun _ => rfl) hv (pre := []) (post := []) hk (hslot.trans hm) hreports
      (by simp [hreports]) (by simp [HeldMove.waitsFor, hcause]) nofun nofun nofun

section
variable {s : State} {k : Nat} {dst src seq : Byte} {payload : List Byte} {rep : StateReport} {c : Carriage}
  {r : CarriageRecord} {stored : Reservation} {new : Interval} (h : s.Running) (ho : ¬s.Own dst)
  (hp : parseState payload = some rep) (hs : s.roleOf src.toNat = some (driveRole k .x)) (hc : s.carriage k = some c)
  (hr : s.record k = some r) (ha : c.ctx.runState = .active) (hf : c.ctx.fresh = true)
  (hnf : rep.axis.status.fault = false) (hm : c.ctx.membership ≠ .excluded) (hv : c.reservation = some stored)
  (hnew : candidateFor r s.railLength rep.axis (c.recorded s.lineClock .x rep).ctx.activeX = new)
  (hsilent : ¬(recordState s.between k .x rep).Strays k stored.span new)
include h hc hr ha hf hnf hm hv hnew hsilent

/-- What an X STATE leaves whose candidate strays nowhere: the reservation follows, and its reports (R43, R44, R74). -/
theorem readState_active_x :
    readState s.between k .x rep =
      (testFences (s.modCarriage k fun c => (c.recorded s.lineClock .x rep).reserved (some ⟨new, .plain⟩))).between.withReports
        (reservationReports k (some stored) (some ⟨new, .plain⟩) ++
          if (c.recorded s.lineClock .x rep).xAtRest r then [.xRest k] else []) := by
  have hc' : s.between.carriage k = some c := hc
  have hd := recordState_carriage hc' .x rep
  have hres : (c.recorded s.between.lineClock .x rep).reservation = some stored := hv
  have hsettled : (recordState s.between k .x rep).reports = [] := h.settled
  have hmod : (recordState s.between k .x rep).modCarriage k (·.reserved (some ⟨new, .plain⟩)) =
      s.between.modCarriage k fun c => (c.recorded s.lineClock .x rep).reserved (some ⟨new, .plain⟩) :=
    modCarriage_modCarriage ..
  have hset := setReservation_tested hd (some ⟨new, .plain⟩)
  have he : (setReservation (recordState s.between k .x rep) k (some ⟨new, .plain⟩)).carriage k =
      some ((c.recorded s.lineClock .x rep).reserved (some ⟨new, .plain⟩)) := by
    rw [State.carriage_modify_self (setReservation_carriages ..), hd]
    rfl
  have hrec := ((setReservation_follows (recordState s.between k .x rep) k (some ⟨new, .plain⟩)).record k).trans hr
  rw [readState_active hc' ha, ruleState_active_x hc' hr hf ha hnf hm hv hnew, growReservation_silent hsilent,
    stateReports_x he hrec, hset, hres, hsettled, hmod, withReports_withReports, ← testFences_between]
  rfl

/-- What the X STATE leaves of carriages and reports. -/
theorem readState_active_x_facts :
    (readState s.between k .x rep).carriages =
        s.carriages.modify k (fun c => (c.recorded s.lineClock .x rep).reserved (some ⟨new, .plain⟩)) ∧
      (readState s.between k .x rep).withReports [] =
        (testFences (s.modCarriage k fun c => (c.recorded s.lineClock .x rep).reserved (some ⟨new, .plain⟩))).between ∧
      (readState s.between k .x rep).reports =
        reservationReports k (some stored) (some ⟨new, .plain⟩) ++
          (if (c.recorded s.lineClock .x rep).xAtRest r then [.xRest k] else []) ∧
      (readState s.between k .x rep).reports.length ≤ 3 := by
  rw [readState_active_x h hc hr ha hf hnf hm hv hnew hsilent]
  have hcs := testFences_carriages (s.modCarriage k fun c => (c.recorded s.lineClock .x rep).reserved (some ⟨new, .plain⟩))
  have hrs := testFences_reports (s.modCarriage k fun c => (c.recorded s.lineClock .x rep).reserved (some ⟨new, .plain⟩))
  generalize testFences (s.modCarriage k fun c => (c.recorded s.lineClock .x rep).reserved (some ⟨new, .plain⟩)) = u
    at hcs hrs ⊢
  refine ⟨hcs, withReports_of_settled (s := u.between) (hrs.trans h.settled), rfl, ?_⟩
  have hlen := reservationReports_length_le k (some stored) (some ⟨new, .plain⟩)
  rw [State.withReports_reports, List.length_append]
  split <;> simp <;> omega

include ho hp hs

/-- The carriage's own held move wakes where it waits for the axis to rest, and the axis does (R74). -/
theorem activeState_x_own (hh : s.NoneHeldBut k) :
    let recorded := testFences (s.modCarriage k fun c => (c.recorded s.lineClock .x rep).reserved (some ⟨new, .plain⟩))
    let woken : Prop := ∃ m, c.slot = some m ∧ m.cause = .xMoving ∧ (c.recorded s.lineClock .x rep).xAtRest r = true
    (¬woken → exec (.state dst src seq payload) s = .next (recorded.passedUp ⟨dst, src, 0x20, seq, payload⟩)) ∧
      (woken → k < 4 → exec (.state dst src seq payload) s =
        .next ((reevaluate (recorded.passedUp ⟨dst, src, 0x20, seq, payload⟩) k).withReports [])) := by
  intro recorded woken
  obtain ⟨hg, hvr, hreports, hlen⟩ := readState_active_x_facts h hc hr ha hf hnf hm hv hnew hsilent
  have hslot : s.held k = c.slot := by simp [State.held, hc]
  refine ⟨fun hw => ?_, fun ⟨m, hm, hcause, hrest⟩ hk => ?_⟩
  · refine exec_state_asleep h ho hp hs hh hg (fun _ => rfl) hvr (hlen.trans (by decide)) fun q hq m hm => ?_
    rw [hreports, List.mem_append, List.mem_ite_nil_right, List.mem_singleton] at hq
    rcases hq with hq | ⟨hrest, rfl⟩
    · exact reservationReports_idle hq m
    · have hcause : m.cause ≠ .xMoving := fun hcause => hw ⟨m, hslot.symm.trans hm, hcause, hrest⟩
      simp [HeldMove.waitsFor, hcause]
  · rw [if_pos hrest] at hreports
    exact exec_state_awake h ho hp hs hh hg (fun _ => rfl) hvr (post := []) hk (hslot.trans hm) hreports
      (hlen.trans (by decide)) (by simp [HeldMove.waitsFor, hcause]) nofun (fun q hq => reservationReports_idle hq) nofun

/-- A neighbour's held move wakes where the reservation that blocks it shrinks on its side (R43, R74). -/
theorem activeState_x_neighbour {j : Nat} {m : HeldMove} (hj : j < 4) (hjk : j ≠ k) (hh : s.NoneHeldBut j)
    (hm : s.held j = some m) :
    let recorded := testFences (s.modCarriage k fun c => (c.recorded s.lineClock .x rep).reserved (some ⟨new, .plain⟩))
    let shrinks : Prop := m.blocker = some (.carriage k) ∧
      (j + 1 = k ∧ stored.span.lo < new.lo ∨ j = k + 1 ∧ new.hi < stored.span.hi)
    (¬shrinks → exec (.state dst src seq payload) s = .next (recorded.passedUp ⟨dst, src, 0x20, seq, payload⟩)) ∧
      (shrinks → exec (.state dst src seq payload) s =
        .next ((reevaluate (recorded.passedUp ⟨dst, src, 0x20, seq, payload⟩) j).withReports [])) := by
  intro recorded shrinks
  obtain ⟨hg, hvr, hreports, hlen⟩ := readState_active_x_facts h hc hr ha hf hnf ‹_› hv hnew hsilent
  have hrest : ∀ q ∈ (if (c.recorded s.lineClock .x rep).xAtRest r then [Report.xRest k] else []), q.Idle j := by
    intro q hq m
    rw [List.mem_ite_nil_right, List.mem_singleton] at hq
    obtain ⟨-, rfl⟩ := hq
    simp [HeldMove.waitsFor, hjk.symm]
  refine ⟨fun hshrinks => ?_, fun ⟨hb, hside⟩ => ?_⟩
  · refine exec_state_asleep h ho hp hs hh hg (fun _ => rfl) hvr (hlen.trans (by decide)) fun q hq n hn => ?_
    obtain rfl := Option.some.inj (hm.symm.trans hn)
    rw [hreports, List.mem_append] at hq
    rcases hq with hq | hq
    · simp only [reservationReports, List.mem_append, List.mem_ite_nil_right, List.mem_singleton] at hq
      rcases hq with ⟨⟨hk, hlo⟩, rfl⟩ | ⟨hhi, rfl⟩
      · simp only [HeldMove.waitsFor, Bool.and_eq_false_iff, beq_eq_false_iff_ne]
        by_contra hw
        obtain ⟨hkj, hb⟩ := not_or.mp hw
        exact hshrinks ⟨not_not.mp hb, .inl ⟨by have := not_not.mp hkj; omega, hlo⟩⟩
      · simp only [HeldMove.waitsFor, Bool.and_eq_false_iff, beq_eq_false_iff_ne]
        by_contra hw
        obtain ⟨hkj, hb⟩ := not_or.mp hw
        exact hshrinks ⟨not_not.mp hb, .inr ⟨(not_not.mp hkj).symm, hhi⟩⟩
    · exact hrest q hq m
  · have hwakes : m.waitsFor j (.shrink k j) = true := by simp [HeldMove.waitsFor, hb]
    rcases hside with ⟨rfl, hlo⟩ | ⟨rfl, hhi⟩
    · refine exec_state_awake h ho hp hs hh hg (fun _ => rfl) hvr (pre := []) hj hm (hreports.trans ?_)
        (hlen.trans (by decide)) hwakes nofun nofun
        (post := (if new.hi < stored.span.hi then [.shrink (j + 1) (j + 1 + 1)] else []) ++
          if (c.recorded s.lineClock .x rep).xAtRest r then [.xRest (j + 1)] else []) fun q hq => ?_
      · simp [reservationReports, hlo]
      · rw [List.mem_append] at hq
        rcases hq with hq | hq
        · rw [List.mem_ite_nil_right, List.mem_singleton] at hq
          obtain ⟨-, rfl⟩ := hq
          intro m
          have hne : j + 1 + 1 ≠ j := by omega
          simp [HeldMove.waitsFor, hne]
        · exact hrest q hq
    · refine exec_state_awake h ho hp hs hh hg (fun _ => rfl) hvr hj hm (hreports.trans ?_)
        (hlen.trans (by decide)) hwakes nofun
        (pre := if 0 < k ∧ stored.span.lo < new.lo then [.shrink k (k - 1)] else []) (fun q hq => ?_) hrest
      · simp [reservationReports, hhi]
      · rw [List.mem_ite_nil_right, List.mem_singleton] at hq
        obtain ⟨-, rfl⟩ := hq
        intro m
        have hne : k - 1 ≠ k + 1 := by omega
        simp [HeldMove.waitsFor, hne]

end

/-! The excursion of an ACTIVE carriage (R45). -/

theorem Management.handed_length (m : Management) (b : Bool) (n : Notice) :
    (m.handed b n).notices.length ≤ m.notices.length + 1 := by
  unfold Management.handed
  split
  · split <;> simp
  · omega

theorem testFence_notices_length (s : State) (i : Nat) :
    (testFence s i).management.notices.length ≤ s.management.notices.length + 1 := by
  unfold testFence
  split
  · omega
  · split
    · rw [hand_eq]
      exact Management.handed_length ..
    · omega

/-- The test of the fences hands at most one notice for each of the eight. -/
theorem testFences_notices_length (s : State) :
    (testFences s).management.notices.length ≤ s.management.notices.length + 8 := by
  have key (l : List Nat) (s : State) :
      (l.foldl testFence s).management.notices.length ≤ s.management.notices.length + l.length := by
    induction l generalizing s with
    | nil => exact le_rfl
    | cons i l ih =>
      have := ih (testFence s i)
      have := testFence_notices_length s i
      rw [List.foldl_cons, List.length_cons]
      omega
  exact key (List.range 8) s

section
variable {s : State} {k : Nat} {c : Carriage} {stored cand : Interval} (hc : s.carriage k = some c) (new : Reservation)
  (hs : s.Strays k stored cand)
include hc hs

/-- An excursion tells a flag that was clear (R29, R45). -/
theorem growReservation_notice (hn : c.ctx.flags.excursion = false) (hm : s.addressOf .controller ≠ none)
    (hroom : s.management.notices.length < 8) :
    (⟨.fault, some k, .absent, .excursion, .absent, s.lineClock⟩ : Notice) ∈
      (growReservation s k stored cand new).management.notices := by
  have hd : (setReservation s k (some new)).carriage k = some (c.reserved (some new)) := by
    rw [State.carriage_modify_self (setReservation_carriages ..), hc]
    rfl
  have hfol := setReservation_follows s k (some new)
  have hlen : (setReservation s k (some new)).management.notices.length < 16 := by
    rw [setReservation_tested hc, State.withReports_management]
    exact (testFences_notices_length (s.modCarriage k (·.reserved (some new)))).trans_lt (Nat.add_lt_add_right hroom 8)
  have hraised := raiseFlag_notice hd (f := .excursion) hn (by rwa [hfol.addressOf]) hlen
  rw [hfol.lineClock] at hraised
  rw [growReservation_strays hs, haltCarriage_flag]
  exact (haltNeighbours_follows ..).notices _ ((haltCarriage_none_follows ..).notices _ hraised)

/-- What an excursion leaves of an ACTIVE carriage: the flag, STOPPING with no still mark, and no active move. -/
theorem growReservation_active (ha : c.ctx.runState = .active) :
    ∃ d, (growReservation s k stored cand new).carriage k = some d ∧ d.reservation = some new ∧
      d.ctx.flags = { c.ctx.flags with excursion := true } ∧ d.ctx.runState = .stopping ∧ d.ctx.stillX = false ∧
      d.ctx.stillZ = false ∧ d.ctx.activeX = none ∧ d.ctx.activeZ = none := by
  have hh : ((c.reserved (some new)).flagged .excursion).halted =
      ((c.reserved (some new)).flagged .excursion).unheld.slowed.cleared := by
    rw [Carriage.halted, show ((c.reserved (some new)).flagged .excursion).ctx.runState = .active from ha]
  refine ⟨((c.reserved (some new)).flagged .excursion).unheld.slowed.cleared, ?_, rfl, rfl, rfl, rfl, rfl, rfl, rfl⟩
  rw [growReservation_carriage_strays new hs, if_pos rfl, hc, ← hh]
  rfl

/-- What it leaves of every other carriage. -/
theorem growReservation_others {j : Nat} (hj : j ≠ k) :
    (j ∈ s.offended k (grownParts stored cand) →
      ∃ e, (growReservation s k stored cand new).carriage j = some e ∧ e.ctx.runState ≠ .active ∧
        (s.carriage j).map (·.ctx.flags) = some e.ctx.flags) ∧
    (j ∉ s.offended k (grownParts stored cand) → (growReservation s k stored cand new).carriage j = s.carriage j) := by
  have hcar := growReservation_carriage_strays new hs j
  rw [if_neg hj] at hcar
  refine ⟨fun ho => ?_, fun ho => by rw [hcar, if_neg ho]⟩
  obtain ⟨b, hb⟩ : ∃ b, s.carriage j = some b :=
    ⟨_, List.getElem?_eq_getElem (lt_of_mem_neighbours (carriage_lt hc) (mem_offended_iff.mp ho).1)⟩
  refine ⟨b.halted, ?_, b.halted_not_active, by rw [hb, Carriage.halted_flags]; rfl⟩
  rw [hcar, if_pos ho, hb]
  rfl

end

/-! The drive fault of an ACTIVE carriage (R11). -/

/-- Two states that agree but for the active moves of a carriage are the same once both its drives are stopped. -/
theorem requestStops_congr {s t : State} {k : Nat} (h : s.modCarriage k (·.cleared) = t.modCarriage k (·.cleared))
    (r : StopReason) : requestStops s k r = requestStops t k r := by
  have hstop (u : State) : requestStops u k r =
      (u.modCarriage k (·.cleared)).withPort
        (((u.modCarriage k (·.cleared)).port.stopFor r (u.modCarriage k (·.cleared)).someWaits
          ((u.modCarriage k (·.cleared)).addressOf (driveRole k .x))).stopFor r (u.modCarriage k (·.cleared)).someWaits
          ((u.modCarriage k (·.cleared)).addressOf (driveRole k .z))) := by
    rw [requestStops_eq, someWaits_modCarriage u k (g := (·.cleared)) fun _ => rfl]
    rfl
  rw [hstop, hstop, h]

theorem tellEnd_modCarriage (s : State) (k : Nat) (slot : Option HeldMove) (cause : Cause) (g : Carriage → Carriage) :
    (tellEnd s k slot cause).modCarriage k g = tellEnd (s.modCarriage k g) k slot cause := by
  cases slot with
  | none => rfl
  | some m => exact (hand_modCarriage ..).symm

theorem tellEnd_between (s : State) (k : Nat) (slot : Option HeldMove) (cause : Cause) :
    tellEnd s.between k slot cause = (tellEnd s k slot cause).between := by
  cases slot with
  | none => rfl
  | some m => exact hand_between ..

theorem tellFault_modCarriage (s : State) (k : Nat) (c : Carriage) (f g : Carriage → Carriage) :
    (tellFault s k c f).modCarriage k g = tellFault s k c (g ∘ f) := by
  unfold tellFault
  split
  · exact modCarriage_modCarriage ..
  · rw [← hand_modCarriage]
    exact congrArg (hand · ..) (modCarriage_modCarriage ..)

theorem tellFault_congr {s : State} {k : Nat} {c : Carriage} (hc : s.carriage k = some c) {f g : Carriage → Carriage}
    (h : f c = g c) : tellFault s k c f = tellFault s k c g := by
  have hsame : s.modCarriage k f = s.modCarriage k g := modCarriage_congr fun d hd => by
    cases hd.symm.trans hc
    exact h
  unfold tellFault
  exact congrArg (fun u => if c.ctx.flags.driveFault then u else hand u .fault (some k) .absent .driveFault .absent) hsame

/-- The drive fault of an ACTIVE carriage told to the end, for a change `g` of it: FAULT where it is new, HOLD_END where a
move was held, STOPs, and STATE_CHANGE (R11, R18). -/
def toldFault (s : State) (k : Nat) (c : Carriage) (g : Carriage → Carriage) : State :=
  handStateChange (requestStops (tellEnd (tellFault s k c g) k c.slot .driveFault) k .driveFault) k .stopping

section
variable {s : State} {k : Nat} {c : Carriage} {r : CarriageRecord} {rep : StateReport} {axis : Axis}
  (hc : s.carriage k = some c) (ha : c.ctx.runState = .active) (hf : rep.axis.status.fault = true)
include hc ha hf

/-- The drive fault of an ACTIVE carriage, for any change `g` of it that differs in the active moves alone. -/
theorem faultState_active {g : Carriage → Carriage}
    (hg : ((c.recorded s.lineClock axis rep).flagged .driveFault).unheld.slowed.cleared = (g c).cleared) :
    faultState (recordState s k axis rep) k rep =
      toldFault s k c g := by
  have hraised : raiseFlag (recordState s k axis rep) k .driveFault =
      tellFault s k c fun c => (c.recorded s.lineClock axis rep).flagged .driveFault := raiseFlag_recordState hc ..
  have hd : (raiseFlag (recordState s k axis rep) k .driveFault).carriage k =
      some ((c.recorded s.lineClock axis rep).flagged .driveFault) := by
    rw [State.carriage_modify_self (raiseFlag_carriages ..), recordState_carriage hc]
    rfl
  have hact : ((c.recorded s.lineClock axis rep).flagged .driveFault).ctx.runState = .active := by cases axis <;> exact ha
  have hslot : ((c.recorded s.lineClock axis rep).flagged .driveFault).slot = c.slot := rfl
  rw [faultState_fault hf, haltCarriage_flag, haltCarriage_active_eq hd hact, hslot, hraised]
  refine congrArg (handStateChange · k .stopping) (requestStops_congr ?_ .driveFault)
  rw [tellEnd_modCarriage, tellEnd_modCarriage, tellEnd_modCarriage, tellFault_modCarriage, tellFault_modCarriage,
    tellFault_modCarriage]
  exact congrArg (tellEnd · k c.slot .driveFault) (tellFault_congr hc hg)

end

theorem Carriage.broken_active {c : Carriage} (ha : c.ctx.runState = .active) (now : Clock) (axis : Axis)
    (rep : StateReport) :
    (c.recorded now axis rep).broken = ((c.recorded now axis rep).flagged .driveFault).unheld.slowed.cleared := by
  have hact : ((c.recorded now axis rep).flagged .driveFault).ctx.runState = .active := by cases axis <;> exact ha
  rw [Carriage.broken, Carriage.halted, hact]

theorem State.NoneHeldBut.noHeld {s : State} {k : Nat} {c : Carriage} (h : s.NoneHeldBut k) (hc : s.carriage k = some c)
    (hs : c.slot = none) : s.NoHeld := by
  intro d hd
  obtain ⟨j, hj⟩ := List.getElem?_of_mem hd
  by_cases hk : j = k
  · subst hk
    cases hc.symm.trans hj
    exact hs
  · exact h j hk d hj

theorem toldFault_between (s : State) (k : Nat) (c : Carriage) (g : Carriage → Carriage) :
    toldFault s.between k c g = (toldFault s k c g).between := by
  simp only [toldFault, handStateChange, requestStops, tellFault_between, tellEnd_between, requestStop_between, hand_between]

@[simp] theorem toldFault_reports (s : State) (k : Nat) (c : Carriage) (g : Carriage → Carriage) :
    (toldFault s k c g).reports = s.reports := by
  simp [toldFault, handStateChange]

section
variable {s : State} {k : Nat} {c : Carriage} {r : CarriageRecord} {rep : StateReport} (hc : s.carriage k = some c)
  (hr : s.record k = some r) (ha : c.ctx.runState = .active) (hf : rep.axis.status.fault = true)
  (hfresh : c.ctx.fresh = true)
include hc hr ha hf hfresh

theorem ruleState_broken_z : ruleState s k .z rep .active = faultState (recordState s k .z rep) k rep := by
  have hd := faultState_carriage hc (axis := .z) hf
  have hk := (recordState_follows s k .z rep).toKeeps.trans (faultState_keeps _ k rep)
  rw [Carriage.broken_active ha] at hd
  exact runStateRules_active hd ((hk.record k).trans hr) hfresh ..

/-- After a drive fault an X STATE follows the envelope, for no active move is left (R44). -/
theorem ruleState_broken_x (hm : c.ctx.membership ≠ .excluded) {stored : Reservation} (hv : c.reservation = some stored)
    {env : Interval} (he : envelope r s.railLength rep.axis.position rep.axis.velocity = env) :
    ruleState s k .x rep .active =
      growReservation (faultState (recordState s k .x rep) k rep) k stored.span env ⟨env, .plain⟩ := by
  subst he
  have hd := faultState_carriage hc (axis := .x) hf
  have hk := (recordState_follows s k .x rep).toKeeps.trans (faultState_keeps _ k rep)
  have hdr := (hk.record k).trans hr
  rw [Carriage.broken_active ha] at hd
  have hfol : followCandidate (faultState (recordState s k .x rep) k rep) k = _ := followCandidate_eq hd hdr rfl hv
  rw [hk.railLength] at hfol
  have hupd := (updateReservation_fresh hd hdr rfl hm (.inl hfresh)).trans hfol
  obtain ⟨e, hge, -, hef, -⟩ := growReservation_kept hd stored.span
    (envelope r s.railLength rep.axis.position rep.axis.velocity) ⟨_, .plain⟩
  rw [ruleState, updateFor, hupd]
  exact runStateRules_active hge (((growReservation_follows ..).record k).trans hdr) (hef.trans hfresh) ..

end

section
variable {s : State} {k : Nat} {c : Carriage} {r : CarriageRecord} {rep : StateReport} {axis : Axis}
  {dst src seq : Byte} {payload : List Byte} (h : s.Running) (ho : ¬s.Own dst)
  (hp : parseState payload = some rep) (hs : s.roleOf src.toNat = some (driveRole k axis))
  (hc : s.carriage k = some c) (ha : c.ctx.runState = .active) (hf : rep.axis.status.fault = true)
  (hh : s.NoneHeldBut k)
include h ho hp hs hc ha hf hh

/-- The step of a STATE that shows a drive fault: the held move is gone, and no report wakes another. -/
theorem exec_state_fault :
    exec (.state dst src seq payload) s =
      .next (((ruleState s.between k axis rep .active).withReports []).passedUp ⟨dst, src, 0x20, seq, payload⟩) := by
  have hc' : s.between.carriage k = some c := hc
  have hd := faultState_carriage hc' (axis := axis) hf
  rw [Carriage.broken_active ha] at hd
  have hnone : (faultState (recordState s.between k axis rep) k rep).NoHeld :=
    State.NoneHeldBut.noHeld (fun j hj d hjd => hh j hj d ((faultState_ne (s := s.between) hf hj).symm.trans hjd)) hd rfl
  have hrest := ((updateFor_follows (faultState (recordState s.between k axis rep) k rep) k axis).trans
    (runStateRules_follows _ k .active (.drive axis rep.axis.velocity))).trans (stateReports_follows _ k axis)
  have hlen := ((ruleState_keeps s.between k axis rep .active).trans (stateReports_follows _ k axis).toKeeps).reports
  rw [show s.between.reports = [] from h.settled] at hlen
  have hnoHeld : (stateReports (ruleState s.between k axis rep .active) k axis).NoHeld := hrest.noHeld hnone
  rw [exec_state h ho hp hs, readState_active hc' ha, finish_passedUp_noHeld hnoHeld (hlen.trans (by decide)),
    stateReports_withReports]

end

/-- Settles O24: the parts above, for the candidate of the report. -/
theorem stateOfActiveCarriage : Obligations.StateOfActiveCarriage := by
  intro s k dst src seq payload rep c r h ho hp hc hr ha hm hf run f
  have hc' : s.between.carriage k = some c := hc
  refine ⟨fun hnf => ⟨fun hs hh => ?_, fun hs stored hv => ?_⟩, fun hfault hh => ?_⟩
  · exact activeState_z h ho hp hs hc hr ha hf hnf hh
  · intro active env candidate parts offends fenced silent recorded
    have hnew : candidateFor r s.railLength rep.axis (c.recorded s.lineClock .x rep).ctx.activeX = candidate := rfl
    have hrecs : (recordState s.between k .x rep).carriages = s.carriages.modify k (·.recorded s.lineClock .x rep) := rfl
    have hoff (j : Nat) : j ∈ (recordState s.between k .x rep).offended k (grownParts stored.span candidate) ↔
        offends j := by
      rw [offended_of_modify hrecs rfl, mem_offended_iff]
      rfl
    have hstray : (recordState s.between k .x rep).Strays k stored.span candidate ↔ (∃ j, offends j) ∨ fenced := by
      rw [strays_iff (recordState_carriage hc' .x rep) hr rfl]
      refine or_congr (exists_congr fun j => ?_) Iff.rfl
      rw [← hoff, mem_offended_iff]
    have hsilent (hx : silent) : ¬(recordState s.between k .x rep).Strays k stored.span candidate := by
      rcases hx with hx | ⟨ho, hn⟩
      · exact State.not_strays_of_within hx
      · exact mt hstray.mp (not_or.mpr ⟨not_exists.mpr ho, hn⟩)
    have hrec : testFences (s.modCarriage k fun c => (c.recorded s.lineClock .x rep).reserved (some ⟨candidate, .plain⟩)) =
        recorded :=
      congrArg testFences (modCarriage_congr fun d hd => by
        cases hd.symm.trans hc
        rfl)
    refine ⟨fun hh => ?_, fun j m hj hjk hh hm' => ?_, fun hh => ?_⟩
    · intro woken
      have hrest : (c.recorded s.lineClock .x rep).xAtRest r = true ↔
          active = none ∧ rep.axis.velocity.natAbs ≤ r.vStill := by
        show (active.isNone && decide (rep.axis.velocity.natAbs ≤ r.vStill)) = true ↔ _
        rw [Bool.and_eq_true, Option.isNone_iff_eq_none, decide_eq_true_iff]
      refine ⟨fun hx hw => ?_, fun hx hw hk => ?_⟩
      · rw [← hrec]
        exact (activeState_x_own h ho hp hs hc hr ha hf hnf hm hv hnew (hsilent hx) hh).1 fun ⟨m, hm, hcause, hr⟩ =>
          hw ⟨m, hm, hcause, hrest.mp hr⟩
      · obtain ⟨m, hslot, hcause, hr'⟩ := hw
        rw [← hrec]
        exact (activeState_x_own h ho hp hs hc hr ha hf hnf hm hv hnew (hsilent hx) hh).2
          ⟨m, hslot, hcause, hrest.mpr hr'⟩ hk
    · intro hx shrinks
      rw [← hrec]
      exact activeState_x_neighbour h ho hp hs hc hr ha hf hnf hm hv hnew (hsilent hx) hj hjk hh hm'
    · obtain ⟨t, ht, hsh⟩ := exec_state_shows h hh ho hp (axis := .x) hs (runState_eq hc)
      have hd := recordState_carriage hc' .x rep
      rw [ha, ruleState_active_x hc' hr hf ha hnf hm hv hnew] at hsh
      obtain ⟨d, hgd, hres, -⟩ := growReservation_kept hd stored.span candidate ⟨candidate, .plain⟩
      refine ⟨t, d, ht, (hsh.carriage k).trans hgd, hres, fun hx => ?_⟩
      have hx := hstray.mpr hx
      obtain ⟨e, he, -, hfl, hrun, hsx, hsz, hax, haz⟩ := growReservation_active hd ⟨candidate, .plain⟩ hx ha
      cases hgd.symm.trans he
      have hkeep := (recordState_follows s.between k .x rep).toKeeps.trans
        (growReservation_follows (recordState s.between k .x rep) k stored.span candidate ⟨candidate, .plain⟩).toKeeps
      have hstops :=
        (growReservation_stops hd ⟨candidate, .plain⟩ hx (show c.ctx.runState ≠ .lost by simp [ha])).shown hsh
      have hothers {j : Nat} (hj : j ≠ k) := growReservation_others hd ⟨candidate, .plain⟩ hx hj
      refine ⟨hfl, hrun, hsx, hsz, hax, haz, fun axis node hn => hstops.node hn, fun hn hmap hroom => ?_,
        fun j hj => ⟨?_, fun hl axis node hn => ?_⟩, fun j hj hn => ?_, hsh.saws.trans hkeep.saws, hsh.bays.trans hkeep.bays⟩
      · rw [hsh.management]
        exact growReservation_notice hd _ hx hn hmap hroom
      · have hjk := ne_of_mem_neighbours hj.1
        obtain ⟨b, hb, hna, hbf⟩ := (hothers hjk).1 ((hoff j).mpr hj)
        exact ⟨b, (hsh.carriage j).trans hb, hna, (State.carriage_modify_ne hrecs hjk).symm ▸ hbf⟩
      · rw [hsh.stops]
        refine growReservation_stops_neighbour hd ⟨candidate, .plain⟩ hx ((hoff j).mpr hj) ?_ hn
        rw [State.runState, State.carriage_modify_ne hrecs (ne_of_mem_neighbours hj.1)]
        exact hl
      · rw [hsh.carriage, (hothers hj).2 (mt (hoff j).mp hn), State.carriage_modify_ne hrecs hj]
  · have htold (axis : Axis) {g : Carriage → Carriage}
        (hg : ((c.recorded s.lineClock axis rep).flagged .driveFault).unheld.slowed.cleared = (g c).cleared) :
        faultState (recordState s.between k axis rep) k rep = (toldFault s k c g).between :=
      (faultState_active (s := s.between) hc' ha hfault hg).trans (toldFault_between ..)
    refine ⟨fun hs => ?_, fun hs stored hv => ?_⟩
    · have hrun := exec_state_fault (seq := seq) (axis := .z) h ho hp hs hc ha hfault hh
      rw [ruleState_broken_z hc' hr ha hfault hf] at hrun
      refine hrun.trans (congrArg Host.Outcome.next (State.passedUp_of_between ?_ _))
      rw [htold .z (g := fun d =>
        { d with
          slot := none
          ctx :=
            { d.ctx with
              lastZ := some rep.axis
              arrivalZ := some s.lineClock
              inSetZ := true
              flags := { d.ctx.flags with driveFault := true }
              runState := .stopping
              stillX := false
              stillZ := false } }) rfl]
      exact withReports_of_settled (s := (toldFault s k c _).between) ((toldFault_reports ..).trans h.settled)
    · have hrun := exec_state_fault (seq := seq) (axis := .x) h ho hp hs hc ha hfault hh
      intro env halted
      rw [ruleState_broken_x (env := env) hc' hr ha hfault hf hm hv rfl] at hrun
      have hd := faultState_carriage hc' (axis := .x) hfault
      rw [Carriage.broken_active ha] at hd
      refine ⟨fun hin => hrun.trans (congrArg Host.Outcome.next (State.passedUp_of_between ?_ _)), ?_⟩
      · rw [growReservation_silent (State.not_strays_of_within hin), setReservation_withReports hd, htold .x (g := fun d =>
          { d with
            slot := none
            ctx :=
              { d.ctx with
                lastX := some rep.axis
                arrivalX := some s.lineClock
                inSetX := true
                flags := { d.ctx.flags with driveFault := true }
                runState := .stopping
                stillX := false
                stillZ := false } }) rfl]
        have hlast (u : State) (hu : u.reports = []) :
            (testFences (u.between.modCarriage k (·.reserved (some ⟨env, .plain⟩)))).withReports [] =
              (testFences (u.changed k fun c => { c with reservation := some ⟨env, .plain⟩ })).between := by
          rw [← testFences_between]
          exact withReports_of_settled ((testFences_reports _).trans hu)
        exact hlast (toldFault s k c _) ((toldFault_reports ..).trans h.settled)
      · obtain ⟨e, he, hres, -, -, -, -, hsame⟩ := growReservation_kept hd stored.span env ⟨env, .plain⟩
        have hsame := hsame (by simp [Carriage.slowed, Carriage.cleared])
        have hshows := State.passedUp_shows (growReservation (faultState (recordState s.between k .x rep) k rep) k
          stored.span env ⟨env, .plain⟩) f
        have hstops := ((faultState_stops (axis := .x) hc' hfault (by simp [ha])).then
          (growReservation_follows _ k stored.span env ⟨env, .plain⟩).toKeeps).shown hshows
        exact ⟨_, e, hrun, (hshows.carriage k).trans he, hres, hsame.driveFault, hsame.runState, hsame.activeX rfl,
          hsame.activeZ rfl, hstops⟩

end Sys2Proof.Machine
end

section
/-! PROOFS. What a line reset leaves, in every block (R7, R42, R67, R70, R91, R149, R153, R164, R168). -/

namespace Sys2Proof.Machine

/-! STOP entries made for a list of nodes (R126, R153). -/

/-- The Port Unit with a STOP entry made for each node of a list in turn. -/
def PortUnit.enteredAll (p : PortUnit) (ns : List Nat) (reason : StopReason) : PortUnit :=
  ns.foldl (fun p n => p.entered n reason) p

/-- The entries made for nodes, with consecutive values of the own sequence counter. -/
def PortUnit.entriesFor (p : PortUnit) (ns : List Nat) (reason : StopReason) : List StopEntry :=
  ns.zipIdx.map fun q => ⟨q.1, reason, .part, BitVec.ofNat 8 p.ownAddress, p.ownSeq + BitVec.ofNat 8 q.2⟩

theorem PortUnit.entriesFor_cons (p : PortUnit) (n : Nat) (ns : List Nat) (reason : StopReason) :
    p.entriesFor (n :: ns) reason =
      ⟨n, reason, .part, BitVec.ofNat 8 p.ownAddress, p.ownSeq⟩ ::
        PortUnit.entriesFor { p with ownSeq := p.ownSeq + 1 } ns reason := by
  have hseq (i : Nat) : p.ownSeq + BitVec.ofNat 8 (i + 1) = p.ownSeq + 1 + BitVec.ofNat 8 i := by
    rw [BitVec.add_assoc, Nat.add_comm, BitVec.ofNat_add]
    rfl
  simp only [PortUnit.entriesFor, List.zipIdx_cons', List.map_cons, List.map_map]
  refine congrArg₂ List.cons ?_ (List.map_congr_left fun q _ => ?_)
  · simp
  · exact congrArg (StopEntry.mk q.1 reason .part (BitVec.ofNat 8 p.ownAddress)) (hseq q.2)

/-- Distinct nodes that have no entry yet get one each. -/
theorem PortUnit.enteredAll_eq {ns : List Nat} (hn : ns.Nodup) (reason : StopReason) {p : PortUnit}
    (hp : ∀ e ∈ p.stops, e.node ∉ ns) :
    p.enteredAll ns reason =
      { p with
        stops := p.stops ++ p.entriesFor ns reason
        ownSeq := p.ownSeq + BitVec.ofNat 8 ns.length } := by
  induction ns generalizing p with
  | nil => simp [PortUnit.enteredAll, PortUnit.entriesFor]
  | cons n ns ih =>
    obtain ⟨hnot, hn⟩ := List.nodup_cons.mp hn
    have hfree : ¬(p.stops.any (·.node == n)) = true := by
      simp only [List.any_eq_true, beq_iff_eq, not_exists, not_and]
      exact fun e he hen => hp e he (hen ▸ List.mem_cons_self)
    have hstep : p.enteredAll (n :: ns) reason = (p.entered n reason).enteredAll ns reason := rfl
    rw [hstep, PortUnit.entered, if_neg hfree, ih hn, PortUnit.entriesFor_cons]
    · have hlen : p.ownSeq + 1 + BitVec.ofNat 8 ns.length = p.ownSeq + BitVec.ofNat 8 (n :: ns).length := by
        rw [List.length_cons, BitVec.add_assoc, Nat.add_comm, BitVec.ofNat_add]
        rfl
      simp only [List.append_assoc, hlen]
      rfl
    · intro e he
      rcases List.mem_append.mp he with he | he
      · exact fun hm => hp e he (List.mem_cons_of_mem _ hm)
      · rw [List.mem_singleton.mp he]
        exact hnot

/-! The nodes that a line reset stops (R153). -/

/-- The drives of carriage `k` that a line reset stops: those mapped, where it was ACTIVE or STOPPING. -/
def State.resetNodes (s : State) (k : Nat) : List Nat :=
  if s.runState k = some .active ∨ s.runState k = some .stopping then
    (s.addressOf (.xDrive k)).toList ++ (s.addressOf (.zDrive k)).toList
  else []

/-- An address holds one role. -/
theorem State.addressOf_inj {s : State} {r q : Role} {n : Nat} (hr : s.addressOf r = some n) (hq : s.addressOf q = some n) :
    r = q := by
  have hat {r : Role} (h : s.addressOf r = some n) : s.port.nodeMap[n]? = some (some r) := by
    obtain ⟨hn, hx, -⟩ := List.findIdx?_eq_some_iff_getElem.mp h
    rw [List.getElem?_eq_getElem hn, beq_iff_eq.mp hx]
  exact Option.some.inj (Option.some.inj ((hat hr).symm.trans (hat hq)))

theorem State.mem_resetNodes {s : State} {k n : Nat} (h : n ∈ s.resetNodes k) :
    s.addressOf (.xDrive k) = some n ∨ s.addressOf (.zDrive k) = some n := by
  unfold State.resetNodes at h
  split at h
  · simpa using h
  · simp at h

theorem State.resetNodes_nodup (s : State) (k : Nat) : (s.resetNodes k).Nodup := by
  unfold State.resetNodes
  split
  · refine List.nodup_append'.mpr ⟨?_, ?_, fun n hx hz => ?_⟩
    · cases s.addressOf (.xDrive k) <;> simp
    · cases s.addressOf (.zDrive k) <;> simp
    · exact absurd (State.addressOf_inj (Option.mem_toList.mp hx) (Option.mem_toList.mp hz)) (by simp)
  · simp

/-- No node is stopped twice. -/
theorem State.allResetNodes_nodup (s : State) {l : List Nat} (hl : l.Nodup) : (l.flatMap s.resetNodes).Nodup := by
  refine List.nodup_flatMap.mpr ⟨fun k _ => s.resetNodes_nodup k, hl.imp fun {j k} hjk => ?_⟩
  intro n hj hk
  rcases State.mem_resetNodes hj with hj | hj <;> rcases State.mem_resetNodes hk with hk | hk <;>
    exact absurd (State.addressOf_inj hj hk) (by simp [hjk])

/-- The Port Unit of a line reset before its STOP entries are made. -/
def PortUnit.emptied (p : PortUnit) : PortUnit :=
  { p with
    dForward := []
    uForward := []
    stops := []
    transmitterD := p.transmitterD.lineReset
    roomReports := 0 }

theorem PortUnit.entered_nodeMap (p : PortUnit) (n : Nat) (reason : StopReason) :
    (p.entered n reason).nodeMap = p.nodeMap := by
  unfold PortUnit.entered
  split <;> rfl

theorem PortUnit.enteredAll_nodeMap (p : PortUnit) (ns : List Nat) (reason : StopReason) :
    (p.enteredAll ns reason).nodeMap = p.nodeMap := by
  induction ns generalizing p with
  | nil => rfl
  | cons n ns ih => exact (ih (p.entered n reason)).trans (PortUnit.entered_nodeMap ..)

theorem PortUnit.enteredAll_append (p : PortUnit) (ns ms : List Nat) (reason : StopReason) :
    p.enteredAll (ns ++ ms) reason = (p.enteredAll ns reason).enteredAll ms reason := List.foldl_append ..

/-- What a line reset stops is seen in the Node Map and the run states. -/
theorem State.resetNodes_withPort (s : State) {p : PortUnit} (h : p.nodeMap = s.port.nodeMap) (k : Nat) :
    (s.withPort p).resetNodes k = s.resetNodes k := by
  have ha (r : Role) : (s.withPort p).addressOf r = s.addressOf r := by simp [State.addressOf, h]
  simp only [State.resetNodes, ha]
  rfl

theorem enterResetStop_eq (s : State) (r : Role) :
    enterResetStop s r = s.withPort (s.port.enteredAll (s.addressOf r).toList .lineReset) := by
  unfold enterResetStop
  cases s.addressOf r with
  | none => rfl
  | some n => exact enterStop_eq s n .lineReset

theorem enterResetStops_eq (s : State) (k : Nat) :
    enterResetStops s k = s.withPort (s.port.enteredAll (s.resetNodes k) .lineReset) := by
  have htwo : enterResetStop (enterResetStop s (.xDrive k)) (.zDrive k) =
      s.withPort (s.port.enteredAll ((s.addressOf (.xDrive k)).toList ++ (s.addressOf (.zDrive k)).toList) .lineReset) := by
    have ha : (enterResetStop s (.xDrive k)).addressOf (.zDrive k) = s.addressOf (.zDrive k) := by
      rw [enterResetStop_eq]
      exact congrArg (·.findIdx? (· == some (Role.zDrive k))) (PortUnit.enteredAll_nodeMap ..)
    rw [enterResetStop_eq (enterResetStop s _), ha, enterResetStop_eq, PortUnit.enteredAll_append]
    rfl
  unfold enterResetStops State.resetNodes
  cases s.runState k with
  | none => rfl
  | some run =>
    cases run with
    | active => exact htwo
    | stopping => exact htwo
    | _ => rfl

theorem enterResetStops_foldl (l : List Nat) (s : State) :
    l.foldl enterResetStops s = s.withPort (s.port.enteredAll (l.flatMap s.resetNodes) .lineReset) := by
  induction l generalizing s with
  | nil => rfl
  | cons k l ih =>
    have hnodes : (s.withPort (s.port.enteredAll (s.resetNodes k) .lineReset)).resetNodes = s.resetNodes :=
      funext (s.resetNodes_withPort (PortUnit.enteredAll_nodeMap ..))
    rw [List.foldl_cons, enterResetStops_eq, ih, hnodes, List.flatMap_cons, PortUnit.enteredAll_append]
    rfl

/-- The Port Unit at a line reset, which stops the drives of the installed carriages. -/
theorem resetPort_eq (s : State) (hl : s.carriages.length ≤ 4) :
    resetPort s =
      s.withPort (s.port.emptied.enteredAll ((List.range s.carriages.length).flatMap s.resetNodes) .lineReset) := by
  have hnodes : (s.withPort s.port.emptied).resetNodes = s.resetNodes := funext (s.resetNodes_withPort rfl)
  have hall : (List.range 4).flatMap s.resetNodes = (List.range s.carriages.length).flatMap s.resetNodes := by
    obtain ⟨m, hm⟩ := Nat.exists_eq_add_of_le hl
    rw [hm, List.range_add, List.flatMap_append, List.append_right_eq_self, List.flatMap_eq_nil_iff]
    intro k hk
    obtain ⟨i, -, rfl⟩ := List.mem_map.mp hk
    simp [State.resetNodes, State.runState, State.carriage]
  have hstart : resetPort s = (List.range 4).foldl enterResetStops (s.withPort s.port.emptied) := rfl
  rw [hstart, enterResetStops_foldl, hnodes, hall]
  rfl

/-! The test of the PENDING fences, fence by fence (R84). -/

theorem testFence_fenceHeld (s : State) (i : Nat) (f : Fence) : (testFence s i).fenceHeld f = s.fenceHeld f := by
  unfold testFence
  split
  · rfl
  · split
    · rw [hand_eq]
      rfl
    · rfl

/-- A fence after the test of those in `l` (R84). -/
def Fence.tested (held : Fence → Bool) (now : Prop) [Decidable now] (f : Fence) : Fence :=
  if now ∧ f.state = .pending ∧ held f = false then { f with state := .on } else f

theorem testFence_fence (s : State) (i j : Nat) :
    (testFence s i).fences[j]? = s.fences[j]?.map (·.tested s.fenceHeld (j = i)) := by
  have hsame (h : ∀ f, s.fences[j]? = some f → f.tested s.fenceHeld (j = i) = f) :
      s.fences[j]? = s.fences[j]?.map (·.tested s.fenceHeld (j = i)) := by
    cases hf : s.fences[j]? with
    | none => rfl
    | some f => simp [h f hf]
  unfold testFence
  cases hi : s.fences[i]? with
  | none =>
    refine hsame fun f hf => if_neg fun ⟨hji, _⟩ => ?_
    rw [hji, hi] at hf
    exact absurd hf (by simp)
  | some g =>
    dsimp only
    split
    · rename_i hon
      rw [hand_eq]
      show (s.fences.set i { g with state := .on })[j]? = _
      by_cases hji : j = i
      · subst hji
        obtain ⟨hlt, -⟩ := List.getElem?_eq_some_iff.mp hi
        rw [List.getElem?_set_self hlt, hi, Option.map_some, Fence.tested, if_pos ⟨rfl, hon⟩]
      · rw [List.getElem?_set_ne (Ne.symm hji)]
        exact hsame fun f _ => if_neg fun hx => hji hx.1
    · rename_i hoff
      refine hsame fun f hf => if_neg fun ⟨hji, hx⟩ => hoff ?_
      rw [hji, hi] at hf
      exact Option.some.inj hf ▸ hx

theorem testFences_fence (s : State) (j : Nat) :
    (testFences s).fences[j]? = s.fences[j]?.map (·.tested s.fenceHeld (j < 8)) := by
  have key (l : List Nat) (s : State) (hl : l.Nodup) :
      (l.foldl testFence s).fences[j]? = s.fences[j]?.map (·.tested s.fenceHeld (j ∈ l)) := by
    induction l generalizing s with
    | nil => simp [Fence.tested]
    | cons i l ih =>
      have hh : (testFence s i).fenceHeld = s.fenceHeld := funext (testFence_fenceHeld s i)
      obtain ⟨hi, hl⟩ := List.nodup_cons.mp hl
      rw [List.foldl_cons, ih _ hl, testFence_fence, Option.map_map, hh]
      refine congrArg (Option.map · _) (funext fun f => ?_)
      simp only [Function.comp, Fence.tested, List.mem_cons]
      by_cases hji : j = i
      · subst hji
        simp [hi]
      · simp [hji]
  have hall := key (List.range 8) s List.nodup_range
  simp only [List.mem_range] at hall
  exact hall

/-! The notices of that test. -/

theorem Management.handed_room {m : Management} (h : m.notices.length < 16) (b : Bool) (n : Notice) :
    m.handed b n = { m with notices := m.notices ++ if b then [n] else [] } := by
  cases b <;> simp [Management.handed, Config.noticeRoom, h]

/-- A test of the fences that finds room for eight notices hands FENCE notices and does nothing else to the queue. -/
theorem testFences_told {s : State} (h : s.management.notices.length ≤ 8) :
    ∃ later, (testFences s).management = { s.management with notices := s.management.notices ++ later } ∧
      ∀ n ∈ later, n.kind = .fence := by
  have hone (s : State) (i : Nat) (h : s.management.notices.length < 16) :
      ∃ later, (testFence s i).management = { s.management with notices := s.management.notices ++ later } ∧
        later.length ≤ 1 ∧ ∀ n ∈ later, n.kind = .fence := by
    have hnone : ∃ later, s.management = { s.management with notices := s.management.notices ++ later } ∧
        later.length ≤ 1 ∧ ∀ n ∈ later, n.kind = .fence := ⟨[], by simp⟩
    unfold testFence
    split
    · exact hnone
    · split
      · rw [hand_eq]
        refine ⟨_, Management.handed_room h .., ?_, ?_⟩
        · split <;> simp
        · split <;> simp
      · exact hnone
  have key (l : List Nat) (s : State) (h : s.management.notices.length + l.length ≤ 16) :
      ∃ later, (l.foldl testFence s).management = { s.management with notices := s.management.notices ++ later } ∧
        ∀ n ∈ later, n.kind = .fence := by
    induction l generalizing s with
    | nil => exact ⟨[], by simp⟩
    | cons i l ih =>
      rw [List.length_cons] at h
      obtain ⟨a, ha, hal, hak⟩ := hone s i (by omega)
      have hlen : (testFence s i).management.notices.length + l.length ≤ 16 := by
        rw [ha, List.length_append]
        omega
      obtain ⟨b, hb, hbk⟩ := ih (testFence s i) hlen
      refine ⟨a ++ b, ?_, fun n hn => (List.mem_append.mp hn).elim (hak n) (hbk n)⟩
      rw [List.foldl_cons, hb, ha, List.append_assoc]
  exact key (List.range 8) s (by simpa using h)

/-! Each block after a line reset. -/

/-- The state of a line reset before its notice: port, carriages, and the notice queue emptied. -/
def State.emptied (s : State) : State :=
  (((resetPort s).withCarriages (s.carriages.mapIdx (resetCarriage s))).withManagement
    { s.management with notices := [] }).withReports []

/-- The state of a line reset before the test of the fences. -/
def State.cleared (s : State) (source : Cause) : State := hand s.emptied .lineReset none .absent source .absent

section
variable {s : State} (hl : s.carriages.length ≤ 4)
include hl

theorem lineReset_eq (source : Cause) : lineReset s source = testFences (s.cleared source) := by
  rw [lineReset, State.cleared, State.emptied, resetCarriages, resetPort_eq s hl]
  rfl

theorem State.emptied_addressOf (r : Role) : s.emptied.addressOf r = s.addressOf r := by
  rw [State.emptied, resetPort_eq s hl]
  exact congrArg (·.findIdx? (· == some r)) (PortUnit.enteredAll_nodeMap ..)

/-- The one notice of a line reset (R168). -/
theorem State.cleared_management (source : Cause) :
    (s.cleared source).management =
      { s.management with
        notices := if s.addressOf .controller = none then []
          else [⟨.lineReset, none, .absent, source, .absent, s.lineClock⟩] } := by
  have hclock : s.emptied.lineClock = s.lineClock := by
    rw [State.emptied, resetPort_eq s hl]
    rfl
  have hman : s.emptied.management = { s.management with notices := [] } := rfl
  have htold : (s.cleared source).management =
      s.emptied.management.handed (s.emptied.addressOf .controller).isSome
        ⟨.lineReset, none, .absent, source, .absent, s.emptied.lineClock⟩ := by
    rw [State.cleared, hand_eq]
    rfl
  rw [htold, hman, Management.handed_room (by simp), State.emptied_addressOf hl, hclock]
  cases s.addressOf .controller <;> rfl

theorem State.cleared_port (source : Cause) :
    (s.cleared source).port =
      s.port.emptied.enteredAll ((List.range s.carriages.length).flatMap s.resetNodes) .lineReset := by
  rw [State.cleared, hand_eq, State.emptied, resetPort_eq s hl]
  rfl

/-- What a line reset leaves alone. -/
theorem State.cleared_rest (source : Cause) :
    (s.cleared source).lineClock = s.lineClock ∧ (s.cleared source).inputs = s.inputs ∧
      (s.cleared source).lamps = s.lamps ∧ (s.cleared source).rail = s.rail ∧
      (s.cleared source).carriageRecords = s.carriageRecords ∧ (s.cleared source).headRecords = s.headRecords ∧
      (s.cleared source).cupLayout = s.cupLayout ∧ (s.cleared source).bays = s.bays ∧
      (s.cleared source).saws = s.saws ∧ (s.cleared source).stampCounter = s.stampCounter ∧
      (s.cleared source).fences = s.fences ∧ (s.cleared source).pending = s.pending ∧
      (s.cleared source).reports = [] := by
  simp [State.cleared, hand_eq, State.emptied, resetPort_eq s hl]

end

/-- A fence that no known reservation intersects (R83). -/
theorem fenceHeld_eq_false_iff {s : State} {f : Fence} :
    s.fenceHeld f = false ↔
      ∀ j c r, s.carriage j = some c → c.reservation = some r → r.span.intersects (s.fenceSpan f) = false := by
  rw [State.fenceHeld, List.any_eq_false]
  constructor
  · intro h j c r hc hr
    have := h c (List.mem_of_getElem? hc)
    rw [hr] at this
    exact Bool.eq_false_iff.mpr this
  · intro h c hc
    obtain ⟨j, hj⟩ := List.getElem?_of_mem hc
    cases hr : c.reservation with
    | none => simp
    | some r => simp [h j c r hj hr]

theorem Context.lineReset_eq (c : Context) :
    c.lineReset =
      if c.membership = .excluded then
        { c with
          runState := .halted
          unseenOrigin := none
          fresh := false
          inSetX := false
          inSetZ := false
          inSetHead := false
          stillX := false
          stillZ := false
          activeX := none
          activeZ := none }
      else
        { c with
          runState := .unseen
          unseenOrigin := some .lineReset
          fresh := false
          lastX := none
          lastZ := none
          arrivalX := none
          arrivalZ := none
          arrivalHead := none
          inSetX := false
          inSetZ := false
          inSetHead := false
          stillX := false
          stillZ := false
          activeX := none
          activeZ := none } := by
  unfold Context.lineReset Context.emptySet
  rfl

/-- Settles O38: each block in turn, the last test of the fences changing fences and notices alone. -/
theorem lineResetEffect : Obligations.LineResetEffect := by
  intro s source hl t nodes
  have ht : t = testFences (s.cleared source) := lineReset_eq hl source
  have htests : t = ((s.cleared source).withFences (s.cleared source).swept.1).withManagement (s.cleared source).swept.2 :=
    ht.trans (testFences_eq _)
  have hnodes : nodes.Nodup := s.allResetNodes_nodup List.nodup_range
  have hport : t.port = s.port.emptied.enteredAll nodes .lineReset :=
    (by simp [htests] : t.port = (s.cleared source).port).trans (State.cleared_port hl source)
  rw [PortUnit.enteredAll_eq hnodes .lineReset (by simp [PortUnit.emptied])] at hport
  have hcarriages : t.carriages = s.carriages.mapIdx (resetCarriage s) := by
    rw [ht, testFences_carriages, State.cleared, hand_carriages]
    rfl
  have htold := State.cleared_management hl source
  obtain ⟨hclock, hinputs, hlamps, hrail, hrecords, hheads, hcups, hbays, hsaws, hstamp, hfences, hpending, hreports⟩ :=
    State.cleared_rest hl source
  obtain ⟨later, hman, hlater⟩ := testFences_told (s := s.cleared source) (by rw [htold]; dsimp only; split <;> simp)
  rw [← ht, htold] at hman
  have hheld (f : Fence) : (s.cleared source).fenceHeld f = false ↔
      ∀ j c r, t.carriage j = some c → c.reservation = some r → r.span.intersects (s.fenceSpan f) = false := by
    have hcs (j : Nat) : (s.cleared source).carriage j = t.carriage j := by
      rw [ht, State.carriage_congr (testFences_carriages ..)]
    have hfs : (s.cleared source).fenceSpan f = s.fenceSpan f := by simp only [State.fenceSpan, State.railLength, hrail]
    simp only [fenceHeld_eq_false_iff, hcs, hfs]
  refine ⟨fun k c hc => ?_, by rw [hcarriages, List.length_mapIdx], ?_⟩
  · have hk : t.carriage k = some (resetCarriage s k c) := by
      rw [State.carriage, hcarriages, List.getElem?_mapIdx, show s.carriages[k]? = some c from hc]
      rfl
    rw [hk, resetCarriage, Context.lineReset_eq]
    rfl
  · rw [hport, hman]
    refine ⟨rfl, rfl, List.nil_append _, rfl, rfl, rfl, rfl, rfl, rfl, rfl, rfl, rfl, ?_, fun i f hf => ?_,
      ⟨later, rfl, hlater⟩, rfl, rfl, rfl, ?_⟩
    · unfold PortUnit.emptied Transmitter.lineReset
      rfl
    · intro clear
      have hfence : t.fences[i]? = some (f.tested (s.cleared source).fenceHeld (i < 8)) := by
        rw [ht, testFences_fence, hfences, hf]
        rfl
      have hclear : clear ↔ i < 8 ∧ f.state = .pending ∧ (s.cleared source).fenceHeld f = false := by rw [hheld]
      refine ⟨fun hx => ?_, fun hx => ?_⟩
      · rw [hfence, Fence.tested, if_pos (hclear.mp hx)]
      · rw [hfence, Fence.tested, if_neg (mt hclear.mpr hx)]
    · have hlen : t.fences.length = s.fences.length := by
        have := congrArg List.length (testFences_standing (s.cleared source))
        rwa [List.length_map, List.length_map, ← ht, hfences] at this
      refine ⟨?_, ?_, ?_, ?_, ?_, ?_, ?_, ?_, ?_, ?_, hlen, ?_, ?_⟩
      all_goals
        simp [htests, hclock, hinputs, hlamps, hrail, hrecords, hheads, hcups, hbays, hsaws, hstamp, hpending, hreports]

end Sys2Proof.Machine
end

section
/-! PROOFS. A RAIL write (R2, R3, R52): its bytes, its refusals, and the reservations recomputed under a new length. -/

namespace Sys2Proof.Machine

/-! A reservation recomputed (R52). -/

/-- A reservation under a carriage record, a rail length and a last X position (R52). -/
def Reservation.under (own : Option CarriageRecord) (rail : Nat) (x : Option AxisReport) (v : Reservation) : Reservation :=
  match v.stage, own, x with
  | .plain, some o, some x => ⟨envelope o rail x.position x.velocity, .plain⟩
  | .widened, some o, some x => ⟨(envelope o rail x.position x.velocity).widen rail (dStale o), .widened⟩
  | .frozen, _, _ => ⟨clampSpan rail v.span.lo v.span.hi, .frozen⟩
  | _, _, _ => v

section
variable {v : Reservation} {rail : Nat}

theorem Reservation.under_park (h : v.stage = .park) (own : Option CarriageRecord) (x : Option AxisReport) :
    v.under own rail x = v := by
  simp [Reservation.under, h]

theorem Reservation.under_frozen (h : v.stage = .frozen) (own : Option CarriageRecord) (x : Option AxisReport) :
    v.under own rail x = ⟨clampSpan rail v.span.lo v.span.hi, .frozen⟩ := by
  simp [Reservation.under, h]

theorem Reservation.under_plain (h : v.stage = .plain) (o : CarriageRecord) (x : AxisReport) :
    v.under (some o) rail (some x) = ⟨envelope o rail x.position x.velocity, .plain⟩ := by
  simp [Reservation.under, h]

theorem Reservation.under_widened (h : v.stage = .widened) (o : CarriageRecord) (x : AxisReport) :
    v.under (some o) rail (some x) = ⟨(envelope o rail x.position x.velocity).widen rail (dStale o), .widened⟩ := by
  simp [Reservation.under, h]

end

theorem recomputed_eq {s : State} {k : Nat} {c : Carriage} (hc : s.carriage k = some c) (v : Reservation) :
    recomputed s k v = v.under (s.record k) s.railLength c.ctx.lastX := by
  have he : s.currentEnvelope k = (s.record k).bind fun o => c.ctx.lastX.map fun x =>
      envelope o s.railLength x.position x.velocity := by
    simp only [State.currentEnvelope, hc]
    cases s.record k <;> rfl
  unfold recomputed Reservation.under
  rw [he]
  cases v.stage <;> cases s.record k <;> cases c.ctx.lastX <;> rfl

/-- What a recomputation keeps of a carriage that is not ACTIVE, whatever neighbour it halts. -/
structure Carriage.Settled (c d : Carriage) : Prop where
  runState : d.ctx.runState = c.ctx.runState
  flags : d.ctx.flags = c.ctx.flags
  membership : d.ctx.membership = c.ctx.membership
  lastX : d.ctx.lastX = c.ctx.lastX
  load : d.load = c.load

theorem Carriage.Settled.trans {c d e : Carriage} (h : c.Settled d) (h' : d.Settled e) : c.Settled e :=
  ⟨h'.runState.trans h.runState, h'.flags.trans h.flags, h'.membership.trans h.membership, h'.lastX.trans h.lastX,
    h'.load.trans h.load⟩

theorem Carriage.Settled.halted {c : Carriage} (h : c.ctx.runState ≠ .active) : c.Settled c.halted := by
  have hx := c.halted_kept
  exact ⟨by rw [c.halted_runState, if_neg h], c.halted_flags, hx.2.1, hx.2.2.1, hx.2.2.2.2⟩

section
variable {s : State} {k : Nat} {c : Carriage}

theorem recompute_unknown (hc : s.carriage k = some c) (hv : c.reservation = none) : recompute s k = s := by
  simp [recompute, hc, hv]

theorem recompute_missing (hc : s.carriage k = none) : recompute s k = s := by
  simp [recompute, hc]

theorem recompute_park {held : Reservation} (hc : s.carriage k = some c) (hv : c.reservation = some held)
    (hp : held.stage = .park) : recompute s k = s := by
  simp [recompute, hc, hv, hp]

/-- A known reservation, no park window, recomputed, and the neighbours it comes too close to halted (R5, R52). -/
theorem recompute_known {held new : Reservation} (hc : s.carriage k = some c) (hv : c.reservation = some held)
    (hp : held.stage ≠ .park) (hn : held.under (s.record k) s.railLength c.ctx.lastX = new) :
    recompute s k = haltNeighbours (setReservation s k (some new)) (s.closeNeighbours k new.span) := by
  subst hn
  have hb : (s.carriage k).bind (·.reservation) = some held := by rw [hc, Option.bind_some, hv]
  unfold recompute
  rw [hb]
  dsimp only
  rw [if_neg hp, recomputed_eq hc]

theorem recompute_keeps (s : State) (k : Nat) : s.Keeps 2 (recompute s k) := by
  unfold recompute
  split
  · exact (State.Follows.refl s).toKeeps.mono (by omega)
  · split
    · exact (State.Follows.refl s).toKeeps.mono (by omega)
    · exact ((setReservation_follows ..).trans (haltNeighbours_follows ..)).toKeeps

/-- A newly installed carriage that is halted stays as it was. -/
theorem Carriage.installed_halted : Carriage.installed.halted = Carriage.installed := rfl

/-- What the recomputation for carriage `k` makes of each carriage that is not ACTIVE (R52). -/
theorem recompute_carriage {j : Nat} (hc : s.carriage j = some c) (ha : c.ctx.runState ≠ .active) :
    ∃ d, (recompute s k).carriage j = some d ∧ c.Settled d ∧ (c = .installed → d = .installed) ∧
      d.reservation =
        if j = k then c.reservation.map (·.under (s.record j) s.railLength c.ctx.lastX) else c.reservation := by
  have hsame (u : State) (hu : u = s) (hv : j = k → c.reservation.map (·.under (s.record j) s.railLength c.ctx.lastX) =
      c.reservation) : ∃ d, u.carriage j = some d ∧ c.Settled d ∧ (c = .installed → d = .installed) ∧
        d.reservation =
          if j = k then c.reservation.map (·.under (s.record j) s.railLength c.ctx.lastX) else c.reservation := by
    subst hu
    refine ⟨c, hc, ⟨rfl, rfl, rfl, rfl, rfl⟩, id, ?_⟩
    split
    · rename_i hjk
      exact (hv hjk).symm
    · rfl
  cases hk : s.carriage k with
  | none => exact hsame _ (recompute_missing hk) fun hjk => absurd (hc.symm.trans (hjk ▸ hk)) (by simp)
  | some e =>
    cases hv : e.reservation with
    | none =>
      refine hsame _ (recompute_unknown hk hv) fun hjk => ?_
      subst hjk
      rw [Option.some.inj (hc.symm.trans hk), hv, Option.map_none]
    | some held =>
      by_cases hp : held.stage = .park
      · refine hsame _ (recompute_park hk hv hp) fun hjk => ?_
        subst hjk
        rw [Option.some.inj (hc.symm.trans hk), hv, Option.map_some, Reservation.under_park hp]
      · have hset (new : Reservation) := setReservation_carriages s k (some new)
        rw [recompute_known hk hv hp rfl, haltNeighbours_carriage]
        by_cases hjk : j = k
        · subst hjk
          obtain rfl := Option.some.inj (hc.symm.trans hk)
          rw [if_neg fun hm => ne_of_mem_neighbours (mem_closeNeighbours_iff.mp hm).1 rfl,
            State.carriage_modify_self (hset _), hk, if_pos rfl, hv]
          exact ⟨_, rfl, ⟨rfl, rfl, rfl, rfl, rfl⟩, fun hx => absurd (hx ▸ hv) (by simp [Carriage.installed]), rfl⟩
        · rw [State.carriage_modify_ne (hset _) hjk, if_neg hjk, hc]
          split
          · exact ⟨_, rfl, .halted ha, fun hx => hx ▸ Carriage.installed_halted, Carriage.halted_reservation c⟩
          · exact ⟨_, rfl, ⟨rfl, rfl, rfl, rfl, rfl⟩, id, rfl⟩

/-- What the recomputation for each carriage of a list makes of one that is not ACTIVE: its own reservation once (R52). -/
theorem recompute_foldl {j : Nat} {l : List Nat} (hl : l.Nodup) (hc : s.carriage j = some c)
    (ha : c.ctx.runState ≠ .active) :
    ∃ d, (l.foldl recompute s).carriage j = some d ∧ c.Settled d ∧ (c = .installed → d = .installed) ∧
      d.reservation =
        if j ∈ l then c.reservation.map (·.under (s.record j) s.railLength c.ctx.lastX) else c.reservation := by
  induction l generalizing s c with
  | nil => exact ⟨c, hc, ⟨rfl, rfl, rfl, rfl, rfl⟩, id, by simp⟩
  | cons k l ih =>
    obtain ⟨hk, hl⟩ := List.nodup_cons.mp hl
    have hkeep := recompute_keeps s k
    obtain ⟨d, hd, hsd, hid, hres⟩ := recompute_carriage (k := k) hc ha
    obtain ⟨e, he, hse, hie, hres'⟩ := ih hl hd (hsd.runState ▸ ha)
    refine ⟨e, he, hsd.trans hse, fun hx => hie (hid hx), ?_⟩
    rw [hres', hres, hkeep.record, hkeep.railLength, hsd.lastX]
    by_cases hjk : j = k
    · subst hjk
      simp [hk]
    · simp [hjk]

theorem recompute_foldl_keeps (l : List Nat) (s : State) : s.Keeps (2 * l.length) (l.foldl recompute s) := by
  induction l generalizing s with
  | nil => exact (State.Follows.refl s).toKeeps
  | cons k l ih => exact ((recompute_keeps s k).trans (ih _)).mono (by simp; omega)

end

/-! The step of a RAIL write (R2, R3). -/

theorem carryOut_railWrite (s t : State) (src seq i : Byte) (record : List Byte) :
    carryOut t (s.requestFrame Kind.mgWrite src seq (0x02 :: i :: record)) = writeRail t i.toNat record := rfl

/-- Room on the rail for every written record below a number (R2). -/
theorem railHolds_iff {s : State} {railLength n : Nat} :
    s.railHolds railLength n = true ↔
      ∀ k c, k < n → s.record k = some c → c.travelHi ≤ railLength ∧ ∀ p, c.park = some p → p.hi ≤ railLength := by
  simp only [State.railHolds, List.all_eq_true, List.mem_range]
  refine forall_congr' fun k => ?_
  cases s.record k with
  | none => simp
  | some c => cases hp : c.park <;> simp [hp]

/-- A valid RAIL record (R2). -/
theorem railValid_iff {s : State} {r : RailRecord} :
    (r.inRange && s.railHolds r.railLength r.n) = true ↔
      1000 ≤ r.railLength ∧ r.railLength ≤ 600000 ∧ r.gap ≤ 10000 ∧ 1 ≤ r.n ∧ r.n ≤ 4 ∧ 1 ≤ r.lookahead ∧
        r.lookahead ≤ 4 ∧
        ∀ k c, k < r.n → s.record k = some c →
          c.travelHi ≤ r.railLength ∧ ∀ p, c.park = some p → p.hi ≤ r.railLength := by
  rw [Bool.and_eq_true, railHolds_iff]
  simp only [RailRecord.inRange, Bool.and_eq_true, decide_eq_true_eq, and_assoc]
  rfl

theorem writeRail_eq (s : State) {b : List Byte} (hb : b.length = 8) :
    writeRail s 0 b =
      if ¬((parseRail b).inRange && s.railHolds (parseRail b).railLength (parseRail b).n) = true then
        refuseRequest s .badField
      else if s.lineIdle = false then refuseRequest s .locked
      else if (s.carriages.drop (parseRail b).n).any (·.load.isSome) = true then refuseRequest s .inUse
      else accept (applyRail s (parseRail b)) := by
  simp only [writeRail, hb, ne_eq, not_true_eq_false, if_false, ← Bool.not_and, Bool.not_eq_true', Bool.not_eq_true]

/-- A carriage to be removed that holds a load (R3). -/
theorem loaded_iff {s : State} {n : Nat} :
    (s.carriages.drop n).any (·.load.isSome) = true ↔ ∃ k c, n ≤ k ∧ s.carriage k = some c ∧ c.load ≠ none := by
  simp only [List.any_eq_true, Option.isSome_iff_ne_none]
  constructor
  · rintro ⟨c, hc, hl⟩
    obtain ⟨i, hi⟩ := List.getElem?_of_mem hc
    rw [List.getElem?_drop] at hi
    exact ⟨n + i, c, Nat.le_add_right .., hi, hl⟩
  · rintro ⟨k, c, hk, hc, hl⟩
    refine ⟨c, List.mem_of_getElem? (i := k - n) ?_, hl⟩
    rw [List.getElem?_drop, Nat.add_sub_cancel' hk]
    exact hc

/-- The state of a RAIL write before any reservation is recomputed: the record, and the carriages installed or removed. -/
def State.resized (s : State) (r : RailRecord) : State :=
  { s with rail := some r, carriages := resizeCarriages s.carriages r.n }

theorem applyRail_eq (s : State) (r : RailRecord) :
    applyRail s r =
      testFences
        (if s.rail.map (·.railLength) = some r.railLength then s.resized r
        else (List.range 4).foldl recompute (s.resized r)) := rfl

theorem State.resized_carriage_old {s : State} {r : RailRecord} {k : Nat} {c : Carriage} (hk : k < r.n)
    (hc : s.carriage k = some c) : (s.resized r).carriage k = some c := by
  show (s.carriages.take r.n ++ _)[k]? = some c
  have hlt := carriage_lt hc
  rw [List.getElem?_append_left (by rw [List.length_take]; omega), List.getElem?_take_of_lt hk]
  exact hc

theorem State.resized_carriage_new {s : State} {r : RailRecord} {k : Nat} (hk : k < r.n) (hn : s.carriages.length ≤ k) :
    (s.resized r).carriage k = some .installed := by
  show (s.carriages.take r.n ++ _)[k]? = some _
  rw [List.getElem?_append_right (by rw [List.length_take]; omega), List.length_take, List.getElem?_replicate,
    if_pos (by omega)]

theorem State.mem_resized {s : State} {r : RailRecord} {c : Carriage} (h : c ∈ (s.resized r).carriages) :
    c ∈ s.carriages ∨ c = .installed :=
  (List.mem_append.mp h).imp List.mem_of_mem_take fun h => (List.mem_replicate.mp h).2

theorem State.resized_noHeld {s : State} (r : RailRecord) (h : s.NoHeld) : (s.resized r).NoHeld := fun c hc =>
  (State.mem_resized hc).elim (h c) fun hi => hi ▸ rfl

/-- With no known reservation there is nothing to recompute. -/
theorem recompute_foldl_unknown {s : State} (h : ∀ c ∈ s.carriages, c.reservation = none) (l : List Nat) :
    l.foldl recompute s = s := by
  induction l with
  | nil => rfl
  | cons k l ih =>
    have hk : recompute s k = s := by
      cases hc : s.carriage k with
      | none => exact recompute_missing hc
      | some c => exact recompute_unknown hc (h c (List.mem_of_getElem? hc))
    rw [List.foldl_cons, hk, ih]

/-- Settles O51: the bytes, the refusals in their order, and what an accepted write leaves. -/
theorem railWritten : Obligations.RailWritten := by
  refine ⟨fun railLength gap n lookahead hr hg hn hl => ?_, fun s src seq record h hb => ?_⟩
  · simp [parseRail, field, leValue, BitVec.toNat_ofNat]
    omega
  intro run r valid loaded new
  have hlen (i : Byte) : ((0x02 : Byte) :: i :: record).length ≤ 48 := by simp [hb]
  have hco : carryOut s.arrived (s.requestFrame Kind.mgWrite src seq (0x02 :: 0 :: record)) = _ :=
    writeRail_eq s.arrived hb
  have hvalid : valid ↔
      ((parseRail record).inRange && s.arrived.railHolds (parseRail record).railLength (parseRail record).n) = true :=
    railValid_iff.symm
  -- What is carried out for a valid record, on an idle line, with no load on a carriage to be removed.
  have hok (hv : valid) : carryOut s.arrived (s.requestFrame Kind.mgWrite src seq (0x02 :: 0 :: record)) = _ :=
    hco.trans (if_neg (not_not.mpr (hvalid.mp hv)))
  have hrun (hv : valid) (hidle : s.lineIdle = true) :
      carryOut s.arrived (s.requestFrame Kind.mgWrite src seq (0x02 :: 0 :: record)) = _ :=
    (hok hv).trans (if_neg (show ¬s.arrived.lineIdle = false by rw [show s.arrived.lineIdle = true from hidle]; decide))
  have hdone (hv : valid) (hidle : s.lineIdle = true) (hl : ¬loaded) :
      carryOut s.arrived (s.requestFrame Kind.mgWrite src seq (0x02 :: 0 :: record)) =
        ⟨.ok, [], applyRail s.arrived (parseRail record)⟩ :=
    (hrun hv hidle).trans (if_neg (mt loaded_iff.mp hl))
  refine ⟨fun i hi => ?_, fun hv => ?_, fun hv hidle => ?_, fun hv hidle hl => ?_, fun hv hidle hl hsame => ?_,
    fun hv hidle hl hh hother => ?_⟩
  · refine live_request_unchanged h rfl (hlen i) ?_
    have hi : i.toNat ≠ 0 := fun hx => hi (BitVec.eq_of_toNat_eq hx)
    rw [carryOut_railWrite, writeRail, if_pos hi]
    rfl
  · exact live_request_unchanged h rfl (hlen 0) (hco.trans (if_pos (mt hvalid.mpr hv)))
  · exact live_request_unchanged h rfl (hlen 0) ((hok hv).trans (if_pos hidle))
  · exact live_request_unchanged h rfl (hlen 0) ((hrun hv hidle).trans (if_pos (loaded_iff.mpr hl)))
  · have hskip : (if s.arrived.rail.map (·.railLength) = some r.railLength then s.arrived.resized r
        else (List.range 4).foldl recompute (s.arrived.resized r)) = s.arrived.resized r := by
      rcases hsame with ⟨old, ho, hlen⟩ | hnone
      · exact if_pos (show s.rail.map (·.railLength) = some r.railLength by rw [ho, Option.map_some, hlen])
      · have hunknown (c : Carriage) (hc : c ∈ (s.arrived.resized r).carriages) : c.reservation = none :=
          (State.mem_resized hc).elim (hnone c) fun hi => hi ▸ rfl
        rw [recompute_foldl_unknown hunknown, ite_self]
    refine live_request_settled (t := testFences (s.arrived.resized r)) h rfl (hlen 0) ((hdone hv hidle hl).trans ?_)
      ((testFences_reports _).trans h.settled)
    rw [applyRail_eq, hskip]
  · have hchanged : ¬s.arrived.rail.map (·.railLength) = some r.railLength := by
      intro hx
      obtain ⟨old, ho, hlen⟩ := Option.map_eq_some_iff.mp hx
      exact hother old ho hlen
    obtain ⟨u, hu⟩ : ∃ u, u = testFences ((List.range 4).foldl recompute (s.arrived.resized r)) := ⟨_, rfl⟩
    have hkeep : (s.arrived.resized r).Keeps _ u :=
      hu ▸ (recompute_foldl_keeps (List.range 4) (s.arrived.resized r)).trans (testFences_follows _).toKeeps
    have hafter : applyRail s.arrived (parseRail record) = u := by rw [hu, applyRail_eq, if_neg hchanged]
    have hreports := hkeep.reports
    rw [show (s.arrived.resized r).reports = [] from h.settled] at hreports
    have hn : r.n ≤ 4 := hv.2.2.2.2.1
    have hactive {c : Carriage} (hc : c ∈ s.carriages) : c.ctx.runState ≠ .active := by
      have := List.all_eq_true.mp hidle c hc
      simp only [Bool.and_eq_true, bne_iff_ne] at this
      exact this.1.2
    have hcar {k : Nat} {c : Carriage} (hk : k < r.n) (hc : (s.arrived.resized r).carriage k = some c)
        (ha : c.ctx.runState ≠ .active) :
        ∃ d, u.carriage k = some d ∧ c.Settled d ∧
          (c = .installed → d = .installed) ∧
          d.reservation = c.reservation.map (·.under (s.record k) r.railLength c.ctx.lastX) := by
      obtain ⟨d, hd, hs, hi, hres⟩ := recompute_foldl (l := List.range 4) List.nodup_range hc ha
      rw [if_pos (List.mem_range.mpr (by omega))] at hres
      exact ⟨d, hu ▸ (State.carriage_congr (testFences_carriages ..) k).trans hd, hs, hi, hres⟩
    refine ⟨_, live_request_noHeld h rfl (hlen 0) ((hdone hv hidle hl).trans (by rw [hafter]))
      (hkeep.noHeld (State.resized_noHeld r hh)) (hreports.trans (by decide)), ?_, ?_, fun k hk hkn => ?_, fun k c hk hc => ?_⟩
    · exact hkeep.outside.rail
    · have hinstalled : u.carriages.length = (s.arrived.resized r).carriages.length :=
        congrArg Site.installed hkeep.site
      refine hinstalled.trans ?_
      show (s.carriages.take r.n ++ List.replicate (r.n - s.carriages.length) _).length = r.n
      rw [List.length_append, List.length_take, List.length_replicate]
      omega
    · obtain ⟨d, hd, -, hi, -⟩ := hcar hkn (State.resized_carriage_new (s := s.arrived) hkn hk) (by simp [Carriage.installed])
      rw [hi rfl] at hd
      exact hd
    · obtain ⟨d, hd, hs, -, hres⟩ := hcar hk (State.resized_carriage_old (s := s.arrived) hk hc)
        (hactive (List.mem_of_getElem? hc))
      refine ⟨d, hd, hs.runState, hs.flags, hs.membership, hs.load, fun hv => by rw [hres, hv, Option.map_none],
        fun held hv => ?_⟩
      rw [hv, Option.map_some] at hres
      refine ⟨fun hp => ?_, fun hp => ?_, fun own x ho hx => ⟨fun hp => ?_, fun hp => ?_⟩⟩
      · rw [hres, Reservation.under_park hp]
      · rw [hres, Reservation.under_frozen hp]
        rfl
      · rw [hres, ho, hx, Reservation.under_plain hp]
      · rw [hres, ho, hx, Reservation.under_widened hp]
        rfl

end Sys2Proof.Machine
end

section
/-! PROOFS. A CARRIAGE write (R4, R5, R52): its bytes, its refusals, and its effect by what the carriage is doing. -/

namespace Sys2Proof.Machine

/-! The bytes of a CARRIAGE record (section 11.4). -/

/-- The value of two bytes, low byte first. -/
theorem digits_two {n : Nat} (h : n < 65536) : n % 256 + 256 * (n / 256 % 256) = n := by omega

/-- The value of four bytes, low byte first. -/
theorem digits_four {n : Nat} (h : n < 4294967296) :
    n % 256 + 256 * (n / 256 % 256 + 256 * (n / 65536 % 256 + 256 * (n / 65536 / 256 % 256))) = n := by omega

/-- The bytes of a record, its fields within their widths, are read back as its fields. -/
theorem parseCarriage_bytes :
    let one (n : Nat) : List Byte := [BitVec.ofNat 8 n]
    let two (n : Nat) : List Byte := one n ++ one (n / 256)
    let four (n : Nat) : List Byte := two n ++ two (n / 65536)
    ∀ (r : CarriageRecord) (rest : List Byte), r.leftExt < 65536 → r.rightExt < 65536 →
      r.travelLo < 4294967296 → r.travelHi < 4294967296 → r.vmax < 65536 → r.aStop < 65536 → r.tReact < 256 →
      r.vStill < 256 → r.zClear < 65536 → r.zMax < 65536 → r.w < 256 → r.l < 65536 → r.holdTime < 65536 →
      (∀ p, r.park = some p → p.lo < 4294967296 ∧ p.hi < 4294967296) → ∀ bytes,
        (r.park = none → bytes = 0 :: rest) → (∀ p, r.park = some p → bytes = 1 :: (four p.lo ++ four p.hi)) →
        parseCarriage
          (two r.leftExt ++ two r.rightExt ++ four r.travelLo ++ four r.travelHi ++ two r.vmax ++ two r.aStop ++
            one r.tReact ++ one r.vStill ++ two r.zClear ++ two r.zMax ++ one r.w ++ two r.l ++ two r.holdTime ++
            one (if r.startHeld then 1 else 0) ++ bytes) = some r := by
  intro one two four r rest hle hre htl hth hv ha ht hs hzc hzm hw hl hh hp bytes hnone hsome
  obtain ⟨leftExt, rightExt, travelLo, travelHi, vmax, aStop, tReact, vStill, zClear, zMax, w, l, holdTime, startHeld,
    park⟩ := r
  have hstart : yesNo ((if startHeld = true then 1 else 0) % 256) = some startHeld := by cases startHeld <;> rfl
  cases park with
  | none =>
    rw [hnone rfl]
    simp [one, two, four, parseCarriage, field, leValue, hstart, digits_two hle, digits_two hre, digits_four htl,
      digits_four hth, digits_two hv, digits_two ha, Nat.mod_eq_of_lt ht, Nat.mod_eq_of_lt hs, digits_two hzc, digits_two hzm,
      Nat.mod_eq_of_lt hw, digits_two hl, digits_two hh, show yesNo 0 = some false from rfl]
  | some p =>
    obtain ⟨hlo, hhi⟩ := hp p rfl
    rw [hsome p rfl]
    simp [one, two, four, parseCarriage, field, leValue, hstart, digits_two hle, digits_two hre, digits_four htl,
      digits_four hth, digits_two hv, digits_two ha, Nat.mod_eq_of_lt ht, Nat.mod_eq_of_lt hs, digits_two hzc, digits_two hzm,
      Nat.mod_eq_of_lt hw, digits_two hl, digits_two hh, digits_four hlo, digits_four hhi, show yesNo 1 = some true from rfl]

theorem yesNo_eq_none {n : Nat} : yesNo n = none ↔ 1 < n := by
  unfold yesNo
  split
  · simp; omega
  · split
    · simp; omega
    · simp; omega

/-- A yes/no byte above 1 is no CARRIAGE record (section 11.4). -/
theorem parseCarriage_eq_none {b : List Byte} : parseCarriage b = none ↔ 1 < field b 27 1 ∨ 1 < field b 28 1 := by
  rw [← yesNo_eq_none, ← yesNo_eq_none]
  unfold parseCarriage
  cases yesNo (field b 27 1) <;> cases yesNo (field b 28 1) <;> simp

/-- The fields that R4 allows on a rail of a length. -/
theorem carriageInRange_iff {r : CarriageRecord} {rail : Nat} :
    r.inRange rail = true ↔
      r.leftExt ≤ 30000 ∧ r.rightExt ≤ 30000 ∧ r.travelLo < r.travelHi ∧ r.travelHi ≤ rail ∧ 1 ≤ r.vmax ∧
        r.vmax ≤ 4000 ∧ 100 ≤ r.aStop ∧ r.aStop ≤ 20000 ∧ r.tReact ≤ 100 ∧ 1 ≤ r.vStill ∧ r.vStill ≤ 50 ∧
        r.zClear ≤ r.zMax ∧ r.zMax ≤ 25000 ∧ 5 ≤ r.w ∧ r.w ≤ 250 ∧ r.w + 5 ≤ r.l ∧ r.l ≤ 2000 ∧ 100 ≤ r.holdTime ∧
        r.holdTime ≤ 60000 ∧ ∀ p, r.park = some p → p.lo ≤ p.hi ∧ p.hi ≤ rail := by
  unfold CarriageRecord.inRange
  cases r.park <;> simp [and_assoc]

/-- A carriage that may be configured (R5). -/
theorem configurable_iff {c : Carriage} :
    c.configurable = true ↔
      (c.ctx.membership = .isolated ∨ c.ctx.membership = .excluded) ∧
        (c.ctx.runState = .halted ∨ c.ctx.runState = .unseen) := by
  simp [Carriage.configurable]

/-! The step of a CARRIAGE write (R4, R5). -/

section
variable {s : State} {k : Nat} {b : List Byte} (hk : k < 4) (hb : b.length = 37)
include hk hb

theorem writeCarriage_none (hp : parseCarriage b = none) : writeCarriage s k b = refuseRequest s .badField := by
  simp [writeCarriage, hb, hp, Nat.not_le.mpr hk]

variable {r : CarriageRecord} (hp : parseCarriage b = some r)
include hp

theorem writeCarriage_outOfRange (hr : r.inRange s.railLength = false) :
    writeCarriage s k b = refuseRequest s .badField := by
  simp [writeCarriage, hb, hp, hr, Nat.not_le.mpr hk]

variable (hr : r.inRange s.railLength = true)
include hr

theorem writeCarriage_missing (hc : s.carriage k = none) : writeCarriage s k b = accept (setRecord s k r) := by
  simp [writeCarriage, hb, hp, hr, hc, Nat.not_le.mpr hk]

theorem writeCarriage_installed {c : Carriage} (hc : s.carriage k = some c) :
    writeCarriage s k b =
      if c.configurable = false then refuseRequest s .locked
      else if c.ctx.membership = .excluded ∧ r.park ≠ (s.record k).bind (·.park) then refuseRequest s .state
      else accept (afterRecord (setRecord s k r) k c) := by
  simp [writeCarriage, hb, hp, hr, hc, Nat.not_le.mpr hk]

end

/-- What a recomputation leaves of each carriage, and of the STOP entries of a neighbour that it halts (R5, R52). -/
theorem recompute_taken {s : State} {k : Nat} {c : Carriage} {held new : Reservation} (hc : s.carriage k = some c)
    (hv : c.reservation = some held) (hp : held.stage ≠ .park)
    (hn : held.under (s.record k) s.railLength c.ctx.lastX = new) :
    (recompute s k).carriage k = some (c.reserved (some new)) ∧
      (∀ j ∈ s.closeNeighbours k new.span, ∃ e, (recompute s k).carriage j = some e ∧ e.ctx.runState ≠ .active ∧
        (s.carriage j).map (·.ctx.flags) = some e.ctx.flags ∧
        (s.runState j ≠ some .lost → ∀ axis node, s.addressOf (driveRole j axis) = some node →
          ∃ e ∈ (recompute s k).port.stops, e.node = node)) ∧
      ∀ j, j ≠ k → j ∉ s.closeNeighbours k new.span → (recompute s k).carriage j = s.carriage j := by
  have hset := setReservation_carriages s k (some new)
  rw [recompute_known hc hv hp hn]
  refine ⟨?_, fun j hj => ?_, fun j hj hnot => ?_⟩
  · rw [haltNeighbours_carriage, if_neg fun hm => ne_of_mem_neighbours (mem_closeNeighbours_iff.mp hm).1 rfl,
      State.carriage_modify_self hset, hc]
    rfl
  · have hjn := (mem_closeNeighbours_iff.mp hj).1
    have hjc := State.carriage_modify_ne hset (ne_of_mem_neighbours hjn)
    obtain ⟨b, hb⟩ : ∃ b, s.carriage j = some b :=
      ⟨_, List.getElem?_eq_getElem (lt_of_mem_neighbours (carriage_lt hc) hjn)⟩
    have hrun : (setReservation s k (some new)).runState j = s.runState j := by rw [State.runState, hjc]; rfl
    refine ⟨b.halted, ?_, b.halted_not_active, by rw [hb, Carriage.halted_flags]; rfl, fun hl axis node hnode => ?_⟩
    · rw [haltNeighbours_carriage, if_pos hj, hjc, hb]
      rfl
    · refine haltNeighbours_stops hj (hrun ▸ hl) (hrun ▸ by simp [State.runState, hb]) (axis := axis) ?_
      rw [(setReservation_follows s k (some new)).addressOf]
      exact hnode
  · rw [haltNeighbours_carriage, if_neg hnot, State.carriage_modify_ne hset hj]

/-- Settles O52: the bytes, the refusals in their order, and the effect by what the carriage is doing. -/
theorem carriageWritten : Obligations.CarriageWritten := by
  refine ⟨fun r rest _ hle hre htl hth hv ha ht hs hzc hzm hw hl hh hp => ?_, fun s src seq k record h hb => ?_⟩
  · refine parseCarriage_bytes r rest hle hre htl hth hv ha ht hs hzc hzm hw hl hh hp _ (fun hn => ?_) fun p hn => ?_
    · rw [hn]
    · rw [hn]
      rfl
  intro run stored allowed
  have hlen : ((0x03 : Byte) :: k :: record).length ≤ 48 := by simp [hb]
  have hco : carryOut s.arrived (s.requestFrame Kind.mgWrite src seq (0x03 :: k :: record)) =
    writeCarriage s.arrived k.toNat record := rfl
  have hallowed (r : CarriageRecord) : allowed r ↔ r.inRange s.arrived.railLength = true := carriageInRange_iff.symm
  refine ⟨fun hk => ?_, fun hk hno => ?_, parseCarriage_eq_none.symm, fun r hk hp hr => ⟨fun hc => ?_, fun c hc => ?_⟩⟩
  · refine live_request_unchanged h rfl hlen (hco.trans ?_)
    rw [writeCarriage, if_pos (show 4 ≤ k.toNat from hk)]
    rfl
  · refine live_request_unchanged h rfl hlen (hco.trans ?_)
    cases hp : parseCarriage record with
    | none => exact writeCarriage_none (by omega) hb hp
    | some r => exact writeCarriage_outOfRange (by omega) hb hp (Bool.eq_false_iff.mpr (mt (hallowed r).mpr (hno r hp)))
  · refine live_request_settled h rfl hlen (hco.trans ?_) h.settled (t := stored s.arrived r)
    rw [writeCarriage_missing (by omega) hb hp ((hallowed r).mp hr) hc]
    rfl
  · intro open_ parkKept
    have hin := hco.trans (writeCarriage_installed (s := s.arrived) (by omega) hb hp ((hallowed r).mp hr) hc)
    have hopen (ho : open_) : carryOut s.arrived (s.requestFrame Kind.mgWrite src seq (0x03 :: k :: record)) = _ :=
      hin.trans (if_neg (by rw [configurable_iff.mpr ho]; decide))
    have hdone (ho : open_) (hpk : parkKept) :
        carryOut s.arrived (s.requestFrame Kind.mgWrite src seq (0x03 :: k :: record)) =
          ⟨.ok, [], afterRecord (setRecord s.arrived k.toNat r) k.toNat c⟩ :=
      (hopen ho).trans (if_neg fun hx => hx.2 (hpk hx.1))
    refine ⟨fun ho => ?_, fun ho hpk => ?_, fun ho hpk hu => ?_, fun ho hpk hh hm => ?_,
      fun ho hh hm hnh x held hx hv hst hlt => ?_⟩
    · exact live_request_unchanged h rfl hlen
        (hin.trans (if_pos (Bool.eq_false_iff.mpr (mt configurable_iff.mp ho))))
    · refine live_request_unchanged h rfl hlen ((hopen ho).trans (if_pos ?_))
      exact Classical.not_imp.mp hpk
    · refine live_request_settled h rfl hlen ((hdone ho hpk).trans ?_) h.settled (t := (stored s.arrived r).changed k.toNat _)
      rw [afterRecord, if_pos hu]
      rfl
    · refine live_request_settled h rfl hlen ((hdone ho hpk).trans ?_) h.settled (t := stored s.arrived r)
      rw [afterRecord, if_neg (by simp [hh]), if_pos hm]
      rfl
    · intro env new
      obtain ⟨u, hu⟩ : ∃ u, u = setRecord s.arrived k.toNat r := ⟨_, rfl⟩
      have huc : u.carriage k.toNat = some c := hu ▸ hc
      have hur : u.record k.toNat = some r := by
        rw [hu]
        show (s.carriageRecords.set k.toNat (some r))[k.toNat]?.join = some r
        rw [List.getElem?_set_self hlt]
        rfl
      have hul : u.railLength = s.railLength := hu ▸ rfl
      have hus (j : Nat) : u.carriage j = s.carriage j := hu ▸ rfl
      have huclose : u.closeNeighbours k.toNat new.span = s.closeNeighbours k.toNat new.span := hu ▸ rfl
      have hreports : u.reports = [] := hu ▸ h.settled
      have hnew : held.under (u.record k.toNat) u.railLength c.ctx.lastX = new := by
        rw [hur, hul, hx]
        rcases hst with hst | hst
        · rw [Reservation.under_plain hst, show new = _ from if_pos hst]
        · rw [Reservation.under_widened hst, show new = _ from if_neg (by simp [hst])]
          rfl
      have hpark : held.stage ≠ .park := by rcases hst with hst | hst <;> simp [hst]
      have hkeep := recompute_keeps u k.toNat
      have hafter : afterRecord (setRecord s.arrived k.toNat r) k.toNat c = recompute u k.toNat := by
        rw [afterRecord, if_neg (by simp [hh]), if_neg (by simp [hm]), hu]
      have hrun : run = _ := live_request_noHeld (t := recompute u k.toNat) h rfl hlen
        ((hdone ho fun hx => absurd (hm.symm.trans hx) (by decide)).trans (by rw [hafter]))
        (hkeep.noHeld (hu ▸ hnh)) (hkeep.reports.trans (by rw [hreports]; decide))
      obtain ⟨hself, hclose, hothers⟩ := recompute_taken huc hv hpark hnew
      rw [huclose] at hclose hothers
      refine ⟨fun hnone => hrun.trans (congrArg (fun t => Host.Outcome.next (State.replied t src seq .ok [])) ?_),
        _, hrun, ?_, hself, fun j hj => ?_, fun j hj hnot => ?_⟩
      · rw [recompute_known huc hv hpark hnew, huclose, hnone]
        refine (setReservation_withReports huc (some new) []).trans ?_
        subst hu
        exact withReports_of_settled ((testFences_reports _).trans h.settled)
      · have hrecords : (recompute u k.toNat).carriageRecords = u.carriageRecords := congrArg Site.carriageRecords hkeep.site
        exact hrecords.trans (hu ▸ rfl)
      · obtain ⟨e, he, hna, hfl, hstops⟩ := hclose j hj
        have hruns : u.runState j = s.runState j := hu ▸ rfl
        have haddr (role : Role) : u.addressOf role = s.addressOf role := hu ▸ rfl
        exact ⟨e, he, hna, hus j ▸ hfl, fun hl axis node hn => hstops (hruns ▸ hl) axis node ((haddr _).trans hn)⟩
      · exact (hothers j hj hnot).trans (hus j)

end Sys2Proof.Machine
end

section
/-! PROOFS. Envelope arithmetic (R30 to R41): divisions rounded up, the clamps, the free limits as the tightest of their
candidates with the blocker that their ties name (R53), and the shorter target of a blocked move, which fits (R38). -/

namespace Sys2Proof.Machine

/-! Integers, stopping distance, widenings, thickness (R30, R31, R35, R41). -/

/-- A division rounded up is the least quotient that covers the dividend (R30). -/
theorem ceilDiv_bounds (a : Nat) {b : Nat} (hb : 0 < b) : a ≤ b * ceilDiv a b ∧ b * ceilDiv a b < a + b := by
  have hdiv := Nat.div_add_mod (a + b - 1) b
  have hmod := Nat.mod_lt (a + b - 1) hb
  have hc : b * ceilDiv a b = b * ((a + b - 1) / b) := rfl
  omega

/-- The stopping distance is the sum of braking run and reaction run, each rounded up, limited to the rail (R31). -/
theorem stopDistance_spec (r : CarriageRecord) (rail v : Nat) (h : 0 < r.aStop) :
    ∃ braking reaction,
      5 * v * v ≤ r.aStop * braking ∧ r.aStop * braking < 5 * v * v + r.aStop ∧
        v * r.tReact ≤ 100 * reaction ∧ 100 * reaction < v * r.tReact + 100 ∧
        stopDistance r rail v = min (braking + reaction) rail := by
  have hb := ceilDiv_bounds (5 * v * v) h
  have hr := ceilDiv_bounds (v * r.tReact) (b := 100) (by decide)
  exact ⟨_, _, hb.1, hb.2, hr.1, hr.2, by rw [stopDistance, Nat.mul_assoc]⟩

/-- The envelope reaches on the side of travel by the stopping distance (R33). -/
theorem envelope_right (r : CarriageRecord) (rail p : Nat) {v : Nat} (h : 0 < v) :
    envelope r rail p v = ⟨min (p - r.leftExt) rail, min (p + r.rightExt + stopDistance r rail v) rail⟩ := by
  have hv : (0 : Int) < v := by omega
  rw [envelope, if_pos hv]
  rfl

theorem envelope_left (r : CarriageRecord) (rail p : Nat) {v : Nat} (h : 0 < v) :
    envelope r rail p (-v) = ⟨min (p - r.leftExt - stopDistance r rail v) rail, min (p + r.rightExt) rail⟩ := by
  have hv : ¬(0 : Int) < -v := by omega
  have hv' : (-(v : Int)) < 0 := by omega
  rw [envelope, if_neg hv, if_pos hv', Int.natAbs_neg]
  rfl

/-- Whatever the velocity, the envelope holds the occupancy and ends on the rail (R32, R33). -/
theorem envelope_covers (r : CarriageRecord) (rail p : Nat) (v : Int) :
    (envelope r rail p v).lo ≤ min (p - r.leftExt) rail ∧ min (p + r.rightExt) rail ≤ (envelope r rail p v).hi := by
  unfold envelope
  split
  · simp only [clampSpan]; omega
  · split
    · simp only [clampSpan]; omega
    · simp only [occupancy, clampSpan]; omega

/-- A target is clamped into the travel limits (R37). -/
theorem clampTarget_eq (r : CarriageRecord) (x : Nat) (h : r.travelLo < r.travelHi) :
    clampTarget r x = max r.travelLo (min x r.travelHi) := by
  unfold clampTarget
  split
  · omega
  · split <;> omega

/-- The first line of R41 that applies decides; the lines of DOUBLE and THIN exclude each other. -/
theorem thicknessCheck_spec (sum n t : Nat) :
    (3 * t < 2 * (sum / n) → thicknessCheck sum n t = .double) ∧ (2 * (sum / n) < t → thicknessCheck sum n t = .thin) ∧
      (t ≤ 2 * (sum / n) → 2 * (sum / n) ≤ 3 * t → thicknessCheck sum n t = .ok) := by
  unfold thicknessCheck
  generalize 2 * (sum / n) = double
  refine ⟨fun h => if_pos h, fun h => ?_, fun h h' => ?_⟩
  · rw [if_neg (by omega), if_pos h]
  · rw [if_neg (by omega), if_neg (by omega)]

/-! Free limits (R53). -/

/-- A limit after the candidate of one fence: a tighter one wins, and a tie wins only over the end of the rail. -/
def Limit.tighten (tighter : Nat → Nat → Prop) [DecidableRel tighter] (cand : Nat → Option Nat) (l : Limit) (i : Nat) :
    Limit :=
  match cand i with
  | none => l
  | some c => if tighter l.value c ∨ (l.value = c ∧ l.blocker = none) then ⟨c, some (.fence i)⟩ else l

/-- The left candidate of a fence, if it stands left of the occupancy. -/
def State.leftCandidate (s : State) (occ : Interval) (i : Nat) : Option Nat :=
  (s.fences[i]?).bind fun f =>
    if f.standing && (s.fenceSpan f).leftOf occ then some ((s.fenceSpan f).hi + s.gap) else none

/-- The right candidate of a fence, if it stands right of the occupancy. -/
def State.rightCandidate (s : State) (occ : Interval) (i : Nat) : Option Nat :=
  (s.fences[i]?).bind fun f =>
    if f.standing && occ.leftOf (s.fenceSpan f) then some ((s.fenceSpan f).lo - s.gap) else none

theorem takeLeft_eq (s : State) (occ : Interval) : takeLeft s occ = Limit.tighten (· < ·) (s.leftCandidate occ) := by
  funext l i
  unfold takeLeft Limit.tighten State.leftCandidate
  cases s.fences[i]? with
  | none => rfl
  | some f =>
    simp only [Option.bind_some]
    cases f.standing && (s.fenceSpan f).leftOf occ <;> rfl

theorem takeRight_eq (s : State) (occ : Interval) : takeRight s occ = Limit.tighten (· > ·) (s.rightCandidate occ) := by
  funext l i
  unfold takeRight Limit.tighten State.rightCandidate
  cases s.fences[i]? with
  | none => rfl
  | some f =>
    simp only [Option.bind_some]
    cases f.standing && occ.leftOf (s.fenceSpan f) <;> rfl

/-- What a limit is after the candidates of the first `n` fences: the tightest of them and of its start. A tie keeps a
start that names a blocker, and otherwise the fence of least index. -/
structure Limit.Tightest (tighter : Nat → Nat → Prop) (cand : Nat → Option Nat) (l start : Limit) (n : Nat) :
    Prop where
  taken : l = start ∨ ∃ i, i < n ∧ cand i = some l.value ∧ l.blocker = some (.fence i)
  start_not : ¬tighter l.value start.value
  cand_not : ∀ i, i < n → ∀ c, cand i = some c → ¬tighter l.value c
  keeps : l.value = start.value → start.blocker ≠ none → l = start
  first : ∀ i, i < n → cand i = some l.value → l = start ∧ start.blocker ≠ none ∨ ∃ i', i' ≤ i ∧ l.blocker = some (.fence i')

section
variable {tighter : Nat → Nat → Prop} [DecidableRel tighter] [IsStrictTotalOrder Nat tighter] {cand : Nat → Option Nat}
  {start : Limit}

theorem Limit.Tightest.tighten {n : Nat} {l : Limit} (h : l.Tightest tighter cand start n) :
    (l.tighten tighter cand n).Tightest tighter cand start (n + 1) := by
  have hirr (a : Nat) : ¬tighter a a := irrefl_of tighter a
  unfold Limit.tighten
  cases hc : cand n with
  | none =>
    have hlt {i c : Nat} (hi : i < n + 1) (hx : cand i = some c) : i < n := by
      rcases Nat.lt_succ_iff_lt_or_eq.mp hi with hi | rfl
      · exact hi
      · cases hc.symm.trans hx
    exact ⟨h.taken.imp_right fun ⟨i, hi, hx⟩ => ⟨i, by omega, hx⟩, h.start_not,
      fun i hi c hx => h.cand_not i (hlt hi hx) c hx, h.keeps, fun i hi hx => h.first i (hlt hi hx) hx⟩
  | some c =>
    dsimp only
    split
    · rename_i hw
      -- The candidate wins: it is tighter than the limit, or ties with the end of the rail.
      have hnot {a : Nat} (ha : ¬tighter l.value a) : ¬tighter c a := by
        rcases hw with hw | ⟨rfl, -⟩
        · exact fun hx => ha (trans_of tighter hw hx)
        · exact ha
      refine ⟨.inr ⟨n, by omega, hc, rfl⟩, hnot h.start_not, fun i hi d hd => ?_, fun hv hs => ?_, fun i hi hd => ?_⟩
      · rcases Nat.lt_succ_iff_lt_or_eq.mp hi with hi | rfl
        · exact hnot (h.cand_not i hi d hd)
        · cases hc.symm.trans hd
          exact hirr _
      · exfalso
        rcases hw with hw | ⟨he, hb⟩
        · exact h.start_not (show tighter l.value start.value from (show c = start.value from hv) ▸ hw)
        · exact hs (h.keeps (he.trans hv) hs ▸ hb)
      · rcases Nat.lt_succ_iff_lt_or_eq.mp hi with hi | rfl
        · rcases hw with hw | ⟨he, hb⟩
          · exact absurd hw (h.cand_not i hi _ hd)
          · rcases h.first i hi (he ▸ hd) with ⟨hl, hs⟩ | ⟨i', -, hx⟩
            · exact absurd (hl ▸ hb) hs
            · cases hb.symm.trans hx
        · exact .inr ⟨_, Nat.le_refl _, rfl⟩
    · rename_i hw
      obtain ⟨hw, ht⟩ := not_or.mp hw
      refine ⟨h.taken.imp_right fun ⟨i, hi, hx⟩ => ⟨i, by omega, hx⟩, h.start_not, fun i hi d hd => ?_, h.keeps,
        fun i hi hd => ?_⟩
      · rcases Nat.lt_succ_iff_lt_or_eq.mp hi with hi | rfl
        · exact h.cand_not i hi d hd
        · cases hc.symm.trans hd
          exact hw
      · rcases Nat.lt_succ_iff_lt_or_eq.mp hi with hi | rfl
        · exact h.first i hi hd
        · cases hc.symm.trans hd
          rcases h.taken with rfl | ⟨i', hi', -, hb⟩
          · exact .inl ⟨rfl, fun hb => ht ⟨rfl, hb⟩⟩
          · exact .inr ⟨i', by omega, hb⟩

/-- A limit folded over the fences is the tightest. -/
theorem Limit.tightest_foldl (start : Limit) (n : Nat) :
    ((List.range n).foldl (Limit.tighten tighter cand) start).Tightest tighter cand start n := by
  induction n with
  | zero => exact ⟨.inl rfl, irrefl_of tighter _, nofun, fun _ _ => rfl, nofun⟩
  | succ n ih =>
    rw [List.range_succ, List.foldl_append]
    exact ih.tighten

end

/-- A value with its blocker that a limit may take: its start, or the candidate of one of the eight fences (R53). -/
def Limit.Candidate (cand : Nat → Option Nat) (start : Limit) (v : Nat) (b : Option Blocker) : Prop :=
  (v = start.value ∧ b = start.blocker) ∨ ∃ i, i < 8 ∧ cand i = some v ∧ b = some (.fence i)

/-- The tightest limit is a candidate and names its blocker by the ties of R53: a carriage first, then the fence of least
index, and the end of the rail only where nothing else ties. -/
theorem Limit.Tightest.named {tighter : Nat → Nat → Prop} {cand : Nat → Option Nat} {start l : Limit}
    (h : l.Tightest tighter cand start 8) (hs : ∀ i, start.blocker ≠ some (.fence i)) :
    Limit.Candidate cand start l.value l.blocker ∧
      (∀ j, Limit.Candidate cand start l.value (some (.carriage j)) → l.blocker = some (.carriage j)) ∧
      ∀ i, Limit.Candidate cand start l.value (some (.fence i)) →
        l.blocker ≠ none ∧ ∀ i', l.blocker = some (.fence i') → i' ≤ i := by
  refine ⟨?_, fun j hj => ?_, fun i hi => ?_⟩
  · rcases h.taken with rfl | ⟨i, hi, hx⟩
    · exact .inl ⟨rfl, rfl⟩
    · exact .inr ⟨i, hi, hx⟩
  · rcases hj with ⟨hv, hb⟩ | ⟨i, -, -, hb⟩
    · rw [h.keeps hv (by simp [← hb]), ← hb]
    · cases hb
  · rcases hi with ⟨-, hb⟩ | ⟨i', hi, hx, hb⟩
    · exact absurd hb.symm (hs i)
    · cases hb
      rcases h.first i hi hx with ⟨rfl, hn⟩ | ⟨i', hi', hb⟩
      · exact ⟨hn, fun i' hb => absurd hb (hs i')⟩
      · exact ⟨by simp [hb], fun i'' hb' => by cases hb.symm.trans hb'; exact hi'⟩

/-- No candidate is tighter than the limit. -/
theorem Limit.Tightest.not_tighter {tighter : Nat → Nat → Prop} {cand : Nat → Option Nat} {start l : Limit}
    (h : l.Tightest tighter cand start 8) {v : Nat} {b : Option Blocker} (hv : Limit.Candidate cand start v b) :
    ¬tighter l.value v := by
  rcases hv with ⟨rfl, -⟩ | ⟨i, hi, hx, -⟩
  · exact h.start_not
  · exact h.cand_not i hi v hx

/-- Where a left limit starts: the end of the rail, or the left neighbour's known span plus G, or the occupancy (R53). -/
def State.leftStart (s : State) (k : Nat) (occ : Interval) : Limit :=
  if k = 0 then ⟨0, none⟩
  else
    match s.span (k - 1) with
    | none => ⟨occ.lo, some (.carriage (k - 1))⟩
    | some r => ⟨r.hi + s.gap, some (.carriage (k - 1))⟩

/-- Where a right limit starts: the end of the rail, or the right neighbour's known span less G, or the occupancy (R53). -/
def State.rightStart (s : State) (k : Nat) (occ : Interval) : Limit :=
  if k + 1 < s.carriages.length then
    match s.span (k + 1) with
    | none => ⟨occ.hi, some (.carriage (k + 1))⟩
    | some r => ⟨r.lo - s.gap, some (.carriage (k + 1))⟩
  else ⟨s.railLength, none⟩

theorem leftFree_tightest (s : State) (k : Nat) (occ : Interval) :
    (s.leftFree k occ).Tightest (· < ·) (s.leftCandidate occ) (s.leftStart k occ) 8 := by
  have h := Limit.tightest_foldl (tighter := (· < ·)) (cand := s.leftCandidate occ) (s.leftStart k occ) 8
  rwa [← takeLeft_eq] at h

theorem rightFree_tightest (s : State) (k : Nat) (occ : Interval) :
    (s.rightFree k occ).Tightest (· > ·) (s.rightCandidate occ) (s.rightStart k occ) 8 := by
  have h := Limit.tightest_foldl (tighter := (· > ·)) (cand := s.rightCandidate occ) (s.rightStart k occ) 8
  rwa [← takeRight_eq] at h

theorem leftStart_succ (s : State) (j : Nat) (occ : Interval) :
    s.leftStart (j + 1) occ = ⟨((s.span j).map fun r => r.hi + s.gap).getD occ.lo, some (.carriage j)⟩ := by
  rw [State.leftStart, if_neg (Nat.succ_ne_zero j), Nat.add_sub_cancel]
  cases s.span j <;> rfl

theorem rightStart_lt (s : State) {k : Nat} (h : k + 1 < s.carriages.length) (occ : Interval) :
    s.rightStart k occ = ⟨((s.span (k + 1)).map fun r => r.lo - s.gap).getD occ.hi, some (.carriage (k + 1))⟩ := by
  rw [State.rightStart, if_pos h]
  cases s.span (k + 1) <;> rfl

theorem leftCandidate_eq_some {s : State} {occ : Interval} {i v : Nat} :
    s.leftCandidate occ i = some v ↔
      ∃ f, s.fences[i]? = some f ∧ f.state ≠ .off ∧ (s.fenceSpan f).hi < occ.lo ∧ v = (s.fenceSpan f).hi + s.gap := by
  simp [State.leftCandidate, Option.bind_eq_some_iff, Fence.standing, Interval.leftOf, and_assoc, eq_comm (b := v)]

theorem rightCandidate_eq_some {s : State} {occ : Interval} {i v : Nat} :
    s.rightCandidate occ i = some v ↔
      ∃ f, s.fences[i]? = some f ∧ f.state ≠ .off ∧ occ.hi < (s.fenceSpan f).lo ∧ v = (s.fenceSpan f).lo - s.gap := by
  simp [State.rightCandidate, Option.bind_eq_some_iff, Fence.standing, Interval.leftOf, and_assoc, eq_comm (b := v)]

/-- The free limits keep G from a neighbour's known span. -/
theorem leftFree_ge {s : State} {j : Nat} {r : Interval} (h : s.span j = some r) (occ : Interval) :
    r.hi + s.gap ≤ (s.leftFree (j + 1) occ).value := by
  have hs := (leftFree_tightest s (j + 1) occ).start_not
  rw [leftStart_succ, h] at hs
  exact Nat.le_of_not_lt hs

theorem rightFree_le {s : State} {k : Nat} {r : Interval} (hk : k + 1 < s.carriages.length) (h : s.span (k + 1) = some r)
    (occ : Interval) : (s.rightFree k occ).value ≤ r.lo - s.gap := by
  have hs := (rightFree_tightest s k occ).start_not
  rw [rightStart_lt s hk, h] at hs
  exact Nat.le_of_not_lt hs

/-- A target is fenced by a standing fence that both occupancies meet (R54). -/
theorem fencedTarget_iff (s : State) (occ target : Interval) :
    s.fencedTarget occ target = true ↔
      ∃ f ∈ s.fences, f.state ≠ .off ∧ (s.fenceSpan f).lo ≤ occ.hi ∧ occ.lo ≤ (s.fenceSpan f).hi ∧
        (s.fenceSpan f).lo ≤ target.hi ∧ target.lo ≤ (s.fenceSpan f).hi := by
  simp [State.fencedTarget, List.any_eq_true, Fence.standing, Interval.intersects, and_assoc]

/-! The shorter target (R38). -/

theorem shorterTarget_eq_some {r : CarriageRecord} {p x left right x' : Nat} {e : Interval} :
    shorterTarget r p x left right e = some x' ↔
      left ≤ e.lo ∧ e.hi ≤ right ∧
        (p < x ∧ x' = right - r.rightExt ∧ p < x' ∨ x < p ∧ x' = left + r.leftExt ∧ x' < p) := by
  unfold shorterTarget
  split
  · rename_i hfit
    split
    · split
      · simp; omega
      · simp; omega
    · split
      · split
        · simp; omega
        · simp; omega
      · simp; omega
  · rename_i hfit
    simp only [reduceCtorEq, false_iff]
    exact fun h => hfit ⟨h.1, h.2.1⟩

/-- A shorter target fits the free limits that it was made from. -/
theorem shorterTarget_fits {r : CarriageRecord} {rail p x left right x' : Nat} {v : Int}
    (h : shorterTarget r p x left right (envelope r rail p v) = some x') :
    left ≤ ((envelope r rail p v).hull (occupancy r rail x')).lo ∧
      ((envelope r rail p v).hull (occupancy r rail x')).hi ≤ right := by
  obtain ⟨hl, hr, hx⟩ := shorterTarget_eq_some.mp h
  have hc := envelope_covers r rail p v
  simp only [Interval.hull, occupancy, clampSpan]
  omega

/-! Bays and saws (R39). -/

/-- The first element of a list that passes a test: one that does, and none before it. -/
theorem findIdx?_eq_some_iff_first {α : Type} {l : List α} {test : α → Bool} {b : Nat} :
    l.findIdx? test = some b ↔
      (∃ a, l[b]? = some a ∧ test a = true) ∧ ∀ i, i < b → ¬∃ a, l[i]? = some a ∧ test a = true := by
  rw [List.findIdx?_eq_some_iff_getElem]
  constructor
  · rintro ⟨hb, hx, hbefore⟩
    refine ⟨⟨_, List.getElem?_eq_getElem hb, hx⟩, ?_⟩
    rintro i hi ⟨a, ha, hy⟩
    obtain ⟨_, rfl⟩ := List.getElem?_eq_some_iff.mp ha
    exact hbefore i hi hy
  · rintro ⟨⟨a, ha, hx⟩, hbefore⟩
    obtain ⟨hb, rfl⟩ := List.getElem?_eq_some_iff.mp ha
    exact ⟨hb, hx, fun i hi hy => hbefore i hi ⟨_, List.getElem?_eq_getElem (by omega), hy⟩⟩

/-- The bay at a position is the first not UNUSED whose window contains it. -/
theorem bayAt_eq_some {s : State} {p b : Nat} : s.bayAt p = some b ↔ s.OverBay p b := by
  simp [State.bayAt, findIdx?_eq_some_iff_first, State.OverBay, State.InBayWindow, inWindow]

theorem bayAt_eq_none {s : State} {p : Nat} (h : ∀ b, ¬s.InBayWindow p b) : s.bayAt p = none := by
  cases hb : s.bayAt p with
  | none => rfl
  | some b => exact absurd (bayAt_eq_some.mp hb).1 (h b)

/-- The saw at a position is the first written one whose window contains it. -/
theorem sawAt_eq_some {s : State} {p j : Nat} :
    s.sawAt p = some j ↔ s.InSawWindow p j ∧ ∀ i, i < j → ¬s.InSawWindow p i := by
  have hin (i : Nat) : s.InSawWindow p i ↔ ∃ saw, s.saws[i]? = some saw ∧
      (match saw.config with
        | none => false
        | some c => inWindow p c.centre c.tolerance) = true := by
    constructor
    · rintro ⟨saw, cfg, hs, hc, hw⟩
      exact ⟨saw, hs, by simp [hc, inWindow, hw]⟩
    · rintro ⟨saw, hs, hw⟩
      split at hw
      · cases hw
      · rename_i cfg hc
        exact ⟨saw, cfg, hs, hc, by simpa [inWindow] using hw⟩
  simp only [hin]
  exact findIdx?_eq_some_iff_first

/-! The candidates of R53, as the obligation writes them. -/

theorem leftCandidates_iff (s : State) (k : Nat) (occ : Interval) (v : Nat) (b : Option Blocker) :
    ((k = 0 ∧ v = 0 ∧ b = none) ∨
        (∃ j, k = j + 1 ∧ b = some (.carriage j) ∧ v = ((s.span j).map fun r => r.hi + s.gap).getD occ.lo) ∨
        ∃ i span, (i < 8 ∧ ∃ f, s.fences[i]? = some f ∧ f.state ≠ .off ∧ span = s.fenceSpan f) ∧ span.hi < occ.lo ∧
          b = some (.fence i) ∧ v = span.hi + s.gap) ↔
      Limit.Candidate (s.leftCandidate occ) (s.leftStart k occ) v b := by
  have hfence : (∃ i span, (i < 8 ∧ ∃ f, s.fences[i]? = some f ∧ f.state ≠ .off ∧ span = s.fenceSpan f) ∧
        span.hi < occ.lo ∧ b = some (.fence i) ∧ v = span.hi + s.gap) ↔
      ∃ i, i < 8 ∧ s.leftCandidate occ i = some v ∧ b = some (.fence i) := by
    simp only [leftCandidate_eq_some]
    constructor
    · rintro ⟨i, _, ⟨hi, f, hf, ho, rfl⟩, hlt, hb, hv⟩
      exact ⟨i, hi, ⟨f, hf, ho, hlt, hv⟩, hb⟩
    · rintro ⟨i, hi, ⟨f, hf, ho, hlt, hv⟩, hb⟩
      exact ⟨i, _, ⟨hi, f, hf, ho, rfl⟩, hlt, hb, hv⟩
  rw [← or_assoc, Limit.Candidate, hfence]
  refine or_congr_left ?_
  cases k with
  | zero => simp [State.leftStart]
  | succ j => simp [leftStart_succ, and_comm]

theorem rightCandidates_iff (s : State) (k : Nat) (occ : Interval) (v : Nat) (b : Option Blocker) :
    ((s.carriages.length ≤ k + 1 ∧ v = s.railLength ∧ b = none) ∨
        (k + 1 < s.carriages.length ∧ b = some (.carriage (k + 1)) ∧
          v = ((s.span (k + 1)).map fun r => r.lo - s.gap).getD occ.hi) ∨
        ∃ i span, (i < 8 ∧ ∃ f, s.fences[i]? = some f ∧ f.state ≠ .off ∧ span = s.fenceSpan f) ∧ occ.hi < span.lo ∧
          b = some (.fence i) ∧ v = span.lo - s.gap) ↔
      Limit.Candidate (s.rightCandidate occ) (s.rightStart k occ) v b := by
  have hfence : (∃ i span, (i < 8 ∧ ∃ f, s.fences[i]? = some f ∧ f.state ≠ .off ∧ span = s.fenceSpan f) ∧
        occ.hi < span.lo ∧ b = some (.fence i) ∧ v = span.lo - s.gap) ↔
      ∃ i, i < 8 ∧ s.rightCandidate occ i = some v ∧ b = some (.fence i) := by
    simp only [rightCandidate_eq_some]
    constructor
    · rintro ⟨i, _, ⟨hi, f, hf, ho, rfl⟩, hlt, hb, hv⟩
      exact ⟨i, hi, ⟨f, hf, ho, hlt, hv⟩, hb⟩
    · rintro ⟨i, hi, ⟨f, hf, ho, hlt, hv⟩, hb⟩
      exact ⟨i, _, ⟨hi, f, hf, ho, rfl⟩, hlt, hb, hv⟩
  rw [← or_assoc, Limit.Candidate, hfence]
  refine or_congr_left ?_
  by_cases hk : k + 1 < s.carriages.length
  · simp [rightStart_lt s hk, hk, Nat.not_le.mpr hk, and_comm]
  · simp [State.rightStart, hk, Nat.le_of_not_lt hk]

/-- Settles O13: each operation of chapter 2 by its own lemma, the free limits as the tightest of their candidates. -/
theorem envelopeArithmetic : Obligations.EnvelopeArithmetic := by
  unfold Obligations.EnvelopeArithmetic
  refine ⟨fun r rail p v ha => ?_, fun s k occ => ?_, fun r p x left right e => ?_, fun s p b => bayAt_eq_some⟩
  · exact ⟨stopDistance_spec r rail v ha, rfl, fun hv => ⟨envelope_right r rail p hv, envelope_left r rail p hv⟩, rfl,
      clampTarget_eq r p, ceilDiv_bounds _ (by decide), fun _ _ => rfl, fun sum n t _ => thicknessCheck_spec sum n t⟩
  · have hl := leftFree_tightest s k occ
    have hr := rightFree_tightest s k occ
    have hls (i : Nat) : (s.leftStart k occ).blocker ≠ some (.fence i) := by
      cases k with
      | zero => simp [State.leftStart]
      | succ j => simp [leftStart_succ]
    have hrs (i : Nat) : (s.rightStart k occ).blocker ≠ some (.fence i) := by
      by_cases hk : k + 1 < s.carriages.length
      · simp [rightStart_lt s hk]
      · simp [State.rightStart, hk]
    simp only [leftCandidates_iff, rightCandidates_iff]
    exact ⟨⟨hl.named hls, fun v b hv => Nat.le_of_not_lt (hl.not_tighter hv)⟩,
      ⟨hr.named hrs, fun v b hv => Nat.le_of_not_lt (hr.not_tighter hv)⟩, fencedTarget_iff s occ⟩
  · refine ⟨fun x' => shorterTarget_eq_some, fun rail v rightward x' _ he hx => ?_⟩
    subst he
    exact shorterTarget_fits hx

end Sys2Proof.Machine
end

section
/-! PROOFS. A MOVE or GRIP for an installed carriage, from port U to its verdict (R55, R92, R144): the routing, and what a
forwarding leaves (R59, R62, R66). -/

namespace Sys2Proof.Machine

/-! Routing (R144). -/

/-- Port U's receiver BETWEEN, as a frame that has arrived leaves it (R139). -/
def State.heardU (s : State) : State := setReceiver s .u .between

/-- A role that some address holds leaves the Node Map not empty. -/
theorem nodeMap_used {s : State} {a : Nat} {r : Role} (h : s.roleOf a = some r) :
    s.port.nodeMap.all (·.isNone) = false := by
  exact List.all_eq_false.mpr ⟨some r, List.mem_of_getElem? (Option.join_eq_some_iff.mp h), by simp⟩

/-- A MOVE for the drive of a carriage is routed to the Admission Unit. -/
theorem routeU_move {s : State} {dst src seq : Byte} {payload : List Byte} {k : Nat} {axis : Axis} (ho : ¬s.Own dst)
    (hb : dst.toNat ≠ 63) (hr : s.roleOf dst.toNat = some (driveRole k axis)) :
    routeU s ⟨dst, src, Kind.move, seq, payload⟩ = admitMove s k axis ⟨dst, src, Kind.move, seq, payload⟩ := by
  have hown : s.isOwn dst = false := Bool.eq_false_iff.mpr (mt (isOwn_iff s dst).mp ho)
  have hno : ¬(dst.toNat = Config.broadcast ∨ s.port.nodeMap.all (·.isNone) = true) := by
    rw [nodeMap_used hr]
    simpa [Config.broadcast] using hb
  rw [routeU, if_neg (by simp [hown]), if_pos rfl, routeMove, if_neg hno]
  cases axis <;> simp [hr, driveRole]

/-- A MOVE for the drive of a carriage, received: admitted, and counted by what that came to. -/
theorem receiveU_move {s t : State} {dst src seq : Byte} {payload : List Byte} {k : Nat} {axis : Axis} {r : Routing}
    (hp : payload.length ≤ 48) (ho : ¬s.Own dst) (hb : dst.toNat ≠ 63)
    (hr : s.roleOf dst.toNat = some (driveRole k axis))
    (ht : admitMove s.heardU k axis ⟨dst, src, Kind.move, seq, payload⟩ = (t, r)) :
    receiveU s ⟨dst, src, Kind.move, seq, payload⟩ = countAt t .u (·.addRouting r) :=
  receiveU_eq hp ((routeU_move (s := s.heardU) ho hb hr).trans ht) fun h => ho h.1

/-- A MOVE payload of the listed length is no longer than a frame may be. -/
theorem parseMove_length {payload : List Byte} {m : MoveFields} (h : parseMove payload = some m) :
    payload.length ≤ 48 := by
  unfold parseMove at h
  split at h
  · omega
  · cases h

theorem parseMove_tag {payload : List Byte} {m : MoveFields} (h : parseMove payload = some m) :
    payload.headD 0 = m.tag := by
  unfold parseMove at h
  split at h
  · cases h
    rfl
  · cases h

/-- A MOVE for a NORMAL carriage that holds none, with its axis and a listed action, is decided by its judgement (R55). -/
theorem admitMove_normal {s : State} {k : Nat} {axis : Axis} {f : Frame} {c : Carriage} {m : MoveFields} {a : BlockedAction}
    (hc : s.carriage k = some c) (hn : c.ctx.membership = .normal) (hs : c.slot = none) (hm : parseMove f.payload = some m)
    (hx : m.axis = some axis) (ha : m.action = some a) : admitMove s k axis f = decideMove s k axis f m a := by
  have he : endHeld s k .superseded .absent = s := endHeld_empty (by simp [hc, hs]) ..
  simp [admitMove, hc, hn, he, hm, hx, ha]

/-! Forwarding (R59, R62, R66). -/

/-- The verdict on a MOVE that is forwarded: CLAMPED with its notice, or ADMITTED, each counted (R66). -/
def tellForwarded (s : State) (k : Nat) (tag : Byte) (target : Nat) (clamped : Bool) : State :=
  if clamped then verdictClamped s k tag target else countAdmitted s k

section
variable {s : State} {k : Nat} {axis : Axis} {f : Frame} {m : MoveFields} {a : BlockedAction} {target speed : Nat}
  {clamped : Bool} (hj : judge s k false axis m.target m.speed = .forward target speed clamped)
include hj

/-- A forwarding that finds the D-forward queue full is dropped (R62). -/
theorem decideMove_full (hq : 8 ≤ s.port.dForward.length) : decideMove s k axis f m a = (s, .overrun) := by
  simp [decideMove, hj, forwardMove_eq, placeDown_eq, Nat.not_lt.mpr hq]

/-- A forwarding that finds room places the MOVE, and tells its verdict (R62, R66). -/
theorem decideMove_sent (hq : s.port.dForward.length < 8) :
    decideMove s k axis f m a =
      (tellForwarded
        (sentMove (s.sentDown (rewriteMove f m.tag axis target speed a clamped)) k axis target m.tag)
        k m.tag target clamped, .good) := by
  simp only [decideMove, hj, forwardMove_eq, placeDown_eq, if_pos hq, Option.map_some]
  cases clamped <;> rfl

end

/-! The receiver and the reports, which no verdict looks at. -/

theorem hand_heardU (s : State) (a : NoticeKind) (b : Option Nat) (c : Reference) (d : Cause) (e : Detail) :
    hand s.heardU a b c d e = (hand s a b c d e).heardU := by
  simp only [hand_eq]
  rfl

theorem testFences_heardU (s : State) : testFences s.heardU = (testFences s).heardU := by
  have hswept : s.heardU.swept = s.swept := rfl
  rw [testFences_eq, testFences_eq, hswept]
  rfl

theorem setReservation_heardU (s : State) (k : Nat) (r : Option Reservation) :
    setReservation s.heardU k r = (setReservation s k r).heardU := by
  cases hc : s.carriage k with
  | none => simp [setReservation, hc, show s.heardU.carriage k = none from hc]
  | some c =>
    rw [setReservation_eq hc, setReservation_eq (s := s.heardU) hc, ← testFences_heardU]
    rfl

theorem sentMove_heardU (s : State) (k : Nat) (axis : Axis) (target : Nat) (tag : Byte) :
    sentMove s.heardU k axis target tag = (sentMove s k axis target tag).heardU := by
  cases axis with
  | z => rfl
  | x =>
    cases hs : (setActive s k .x ⟨target, tag⟩).admittedSpan k target with
    | none =>
      rw [sentMove_x_none hs, sentMove_x_none (s := s.heardU) hs]
      rfl
    | some span =>
      rw [sentMove_x_some hs, sentMove_x_some (s := s.heardU) hs, ← setReservation_heardU]
      rfl

theorem tellForwarded_heardU (s : State) (k : Nat) (tag : Byte) (target : Nat) (clamped : Bool) :
    tellForwarded s.heardU k tag target clamped = (tellForwarded s k tag target clamped).heardU := by
  cases clamped with
  | false => rfl
  | true => exact hand_heardU (countClamped s k) ..

theorem tellForwarded_withReports (s : State) (rs : List Report) (k : Nat) (tag : Byte) (target : Nat) (clamped : Bool) :
    tellForwarded (s.withReports rs) k tag target clamped = (tellForwarded s k tag target clamped).withReports rs := by
  cases clamped with
  | false => rfl
  | true => exact hand_withReports (countClamped s k) ..

@[simp] theorem tellForwarded_reports (s : State) (k : Nat) (tag : Byte) (target : Nat) (clamped : Bool) :
    (tellForwarded s k tag target clamped).reports = s.reports := by
  cases clamped with
  | false => rfl
  | true => exact hand_reports (countClamped s k) ..

section
variable {s : State} {k : Nat} {axis : Axis} {dst src seq : Byte} {payload : List Byte} {m : MoveFields}
  {a : BlockedAction} {c : Carriage} (ho : ¬s.Own dst) (hb : dst.toNat ≠ 63)
  (hr : s.roleOf dst.toNat = some (driveRole k axis)) (hm : parseMove payload = some m) (hx : m.axis = some axis)
  (ha : m.action = some a) (hc : s.carriage k = some c) (hn : c.ctx.membership = .normal) (hs : c.slot = none)
  {target speed : Nat} {clamped : Bool} (hj : judge s k false axis m.target m.speed = .forward target speed clamped)
include ho hb hr hm hx ha hc hn hs hj

/-- A MOVE judged to be forwarded, received where the D-forward queue is full: an overrun, with nothing else done. -/
theorem receiveU_move_full (hq : 8 ≤ s.port.dForward.length) :
    receiveU s ⟨dst, src, Kind.move, seq, payload⟩ = s.tookU .overrun :=
  receiveU_move (parseMove_length hm) ho hb hr <|
    (admitMove_normal (s := s.heardU) hc hn hs hm hx ha).trans (decideMove_full (s := s.heardU) hj hq)

/-- A MOVE judged to be forwarded, received where the D-forward queue has room. -/
theorem receiveU_move_sent (hq : s.port.dForward.length < 8) :
    receiveU s ⟨dst, src, Kind.move, seq, payload⟩ =
      (tellForwarded
        (sentMove (s.sentDown ⟨dst, src, Kind.move, seq, moveBytes m.tag axis target speed a clamped⟩) k axis target m.tag)
        k m.tag target clamped).tookU .good := by
  rw [receiveU_move (parseMove_length hm) ho hb hr <|
    (admitMove_normal (s := s.heardU) hc hn hs hm hx ha).trans (decideMove_sent (s := s.heardU) hj hq)]
  show countAt (tellForwarded (sentMove (s.sentDown _).heardU k axis target m.tag) k m.tag target clamped) .u _ = _
  rw [sentMove_heardU, tellForwarded_heardU]
  rfl

end

/-! The judgement of a move whose preconditions hold (R57, R63, R64). -/

section
variable {s : State} {k : Nat} {c : Carriage} {r : CarriageRecord} {x : AxisReport}
  (hc : s.carriage k = some c) (hr : s.record k = some r) (hx : c.ctx.lastX = some x) (he : s.inputs.emergency = false)
  (ha : c.ctx.runState = .active) (hf : c.ctx.fresh = true)
include hc hr hx he ha hf

/-- A move of an ACTIVE and FRESH carriage, without emergency, is judged by its axis: an X MOVE, -/
theorem judge_x (target speed : Nat) :
    judge s k false .x target speed = judgeX s k c r ⟨x.position, x.velocity⟩ target speed := by
  simp [judge, he, hc, hr, Carriage.standing, hx, Carriage.mayMove, ha, hf]

/-- and a Z MOVE as a lowering or a raise. -/
theorem judge_z (target speed : Nat) :
    judge s k false .z target speed =
      if c.lowers r target then judgeLowering s k c r ⟨x.position, x.velocity⟩ false target speed
      else judgeRaise c r target speed := by
  simp [judge, he, hc, hr, Carriage.standing, hx, Carriage.mayMove, ha, hf]

end

/-- A carriage whose load is in none of the states listed, EMPTY among them. -/
theorem loadIn_eq_false {c : Carriage} {phases : List LoadPhase}
    (h : ∀ l, c.load = some l → phases.contains l.phase = false) : c.loadIn phases = false := by
  unfold Carriage.loadIn
  split
  · rfl
  · exact h _ ‹_›

theorem headLow_eq_false {c : Carriage} {r : CarriageRecord} {z : AxisReport} (hz : c.ctx.lastZ = some z)
    (h : r.zClear ≤ z.position) (ha : ∀ m, c.ctx.activeZ = some m → r.zClear ≤ m.target) : c.headLow r = false := by
  unfold Carriage.headLow
  rw [hz]
  cases hm : c.ctx.activeZ with
  | none => simp [h]
  | some m => simp [h, ha m hm]

/-- A span that fits its free limits is forwarded (R59). -/
theorem judgeFit_fits {s : State} {k : Nat} {r : CarriageRecord} {st : Standing} {x speed : Nat} {clamped : Bool}
    (hf : s.fencedTarget (occupancy r s.railLength st.x) (occupancy r s.railLength x) = false)
    (hl : (s.leftFree k (occupancy r s.railLength st.x)).value ≤
      ((envelope r s.railLength st.x st.v).hull (occupancy r s.railLength x)).lo)
    (hr : ((envelope r s.railLength st.x st.v).hull (occupancy r s.railLength x)).hi ≤
      (s.rightFree k (occupancy r s.railLength st.x)).value) :
    judgeFit s k r st x speed clamped = .forward x speed clamped := by
  simp [judgeFit, hf, hl, hr]

/-! An X MOVE forwarded. -/

/-- What an X MOVE forwarded makes of its carriage: its active move, and its reservation (R59). -/
def Carriage.bound (target : Nat) (tag : Byte) (span : Interval) (c : Carriage) : Carriage :=
  { c with reservation := some ⟨span, .plain⟩, ctx := { c.ctx with activeX := some ⟨target, tag⟩ } }

/-- An X MOVE placed for a carriage: its active move and its reservation, the reports of the change, and the fences tested. -/
theorem sentMove_x {s : State} {k : Nat} {c : Carriage} {r : CarriageRecord} {x : AxisReport}
    (hc : s.carriage k = some c) (hr : s.record k = some r) (hx : c.ctx.lastX = some x) (target : Nat) (tag : Byte) :
    let span := (envelope r s.railLength x.position x.velocity).hull (occupancy r s.railLength target)
    sentMove s k .x target tag =
      (testFences (s.modCarriage k (·.bound target tag span))).withReports
        (s.reports ++ reservationReports k c.reservation (some ⟨span, .plain⟩)) := by
  intro span
  have hset : (setActive s k .x ⟨target, tag⟩).carriage k =
      some { c with ctx := { c.ctx with activeX := some ⟨target, tag⟩ } } := modCarriage_same hc _
  have hspan : (setActive s k .x ⟨target, tag⟩).admittedSpan k target = some span := by
    have henv := currentEnvelope_eq hset hr hx
    have hrec : (setActive s k .x ⟨target, tag⟩).record k = some r := hr
    rw [State.admittedSpan, henv, hrec]
    rfl
  rw [sentMove_x_some hspan, setReservation_eq hset, testFences_withReports]
  congr 2
  exact modCarriage_modCarriage ..

theorem State.NoHeld.tellForwarded {s : State} (h : s.NoHeld) (k : Nat) (tag : Byte) (target : Nat) (clamped : Bool) :
    (tellForwarded s k tag target clamped).NoHeld := by
  cases clamped with
  | false => exact h.of_modify (State.modCarriage_carriages ..) fun _ hc => hc
  | true => exact h.of_modify (hand_carriages ..) fun _ hc => hc

/-- Settles O15: an X MOVE that fits is judged to be forwarded; no other carriage holds a move, so the reports of the
change of reservation wake none. -/
theorem xMoveForwarded : Obligations.XMoveForwarded := by
  unfold Obligations.XMoveForwarded
  intro s k dst src seq payload m a c r x z h hh ho hb hrole hm haxis ha hc hr hx hz he hn hact hf hzc hza hload hspeed
    target speed occ span flag hfence hleft hright
  have hslot : c.slot = none := hh c (List.mem_of_getElem? hc)
  have hrole : s.roleOf dst.toNat = some (driveRole k .x) := hrole
  have hj : judge s k false .x m.target m.speed = .forward target speed flag := by
    have hbusy : c.loadIn [.gripping, .checking, .releasing] = false :=
      loadIn_eq_false fun l hl => by simp [hload l hl]
    have hrej : c.loadIn [.rejected] = false := loadIn_eq_false fun l hl => by simp [hload l hl]
    have hflag : (target != m.target || speed != m.speed) = flag := by
      rw [Bool.eq_iff_iff]
      simp [flag]
    rw [judge_x hc hr hx he hact hf, ← hflag]
    simp only [judgeX, headLow_eq_false hz hzc hza, hbusy, hrej, hspeed, Bool.false_eq_true, if_false]
    exact judgeFit_fits (st := ⟨x.position, x.velocity⟩) (x := target) hfence hleft hright
  refine ⟨hj, fun hq => ?_, fun hq => ?_⟩
  · exact live_settled h (g := fun s => receiveU s ⟨dst, src, Kind.move, seq, payload⟩)
      (receiveU_move_full ho hb hrole hm haxis ha hc hn hslot hj hq) h.settled
  · intro moved
    have hsent : receiveU s ⟨dst, src, Kind.move, seq, payload⟩ =
        ((tellForwarded moved k m.tag target flag).tookU .good).withReports
          (reservationReports k c.reservation (some ⟨span, .plain⟩)) := by
      rw [receiveU_move_sent ho hb hrole hm haxis ha hc hn hslot hj hq,
        sentMove_x (s := s.sentDown _) hc hr hx, tellForwarded_withReports,
        show (s.sentDown _).reports = [] from h.settled, List.nil_append]
      rfl
    refine live_noHeld h (g := fun s => receiveU s ⟨dst, src, Kind.move, seq, payload⟩) ?_ ?_ ?_
    · rw [hsent]
      have hmoved : moved.NoHeld := State.NoHeld.of_modify hh (testFences_carriages _) fun _ hc => hc
      exact hmoved.tellForwarded k m.tag target flag
    · rw [hsent]
      exact (reservationReports_length_le ..).trans (by decide)
    · have hnone : ((tellForwarded moved k m.tag target flag).tookU .good).reports = [] :=
        (tellForwarded_reports ..).trans ((testFences_reports _).trans h.settled)
      rw [hsent, withReports_withReports, withReports_of_settled hnone]
      cases flag <;> rfl

/-! A Z MOVE forwarded (R63 to R65). -/

/-- A raise whose preconditions hold is limited to zMax (R63). -/
theorem judgeRaise_forward {c : Carriage} {r : CarriageRecord} {target speed : Nat}
    (hl : ∀ l, c.load = some l → l.phase ≠ .gripping ∧ l.phase ≠ .releasing) (hs : speed ≠ 0) :
    judgeRaise c r target speed = .forward (min target r.zMax) speed (min target r.zMax != target) := by
  have hbusy : c.loadIn [.gripping, .releasing] = false := loadIn_eq_false fun l h => by simp [hl l h]
  simp [judgeRaise, hbusy, hs]

/-- A lowering whose preconditions hold is raised to its floor and limited to zMax (R64). -/
theorem judgeLowering_forward {s : State} {k : Nat} {c : Carriage} {r : CarriageRecord} {st : Standing}
    {target speed floor : Nat} (hl : ∀ l, c.load = some l → l.phase = .loaded ∨ l.phase = .rejected)
    (hx : c.xAtRest r = true) (hs : speed ≠ 0) (hf : loweringFloor s k c st.x = .ok floor) :
    judgeLowering s k c r st false target speed =
      .forward (min (max target floor) r.zMax) speed (min (max target floor) r.zMax != target) := by
  have hbusy : c.loadIn [.gripping, .checking, .releasing] = false :=
    loadIn_eq_false fun l h => by rcases hl l h with h | h <;> simp [h]
  simp [judgeLowering, hbusy, hx, hs, hf]

/-- The floor over a bay is its stack top less the press depth, where the bay objects to nothing (R39). -/
theorem loweringFloor_bay {s : State} {k p b : Nat} {c : Carriage} {bay : Bay} (ho : s.OverBay p b)
    (hb : s.bays[b]? = some bay) (hn : bayObjection bay b c.load = none) :
    loweringFloor s k c p = .ok (bay.base + bay.count * bay.thickness - s.press k) := by
  simp [loweringFloor, bayAt_eq_some.mpr ho, hb, hn, Bay.top]

/-- The floor over a saw is the panel on its table less the press depth, for a LOADED load (R39, R65). -/
theorem loweringFloor_saw {s : State} {k p j : Nat} {c : Carriage} {saw : Saw} {cfg : SawConfig} {l : LoadRecord}
    (ho : s.OverSaw p j) (hs : s.saws[j]? = some saw) (hc : saw.config = some cfg) (hl : c.load = some l)
    (hp : l.phase = .loaded) : loweringFloor s k c p = .ok (cfg.tableHeight + l.thickness - s.press k) := by
  simp [loweringFloor, bayAt_eq_none ho.1, sawAt_eq_some.mpr ho.2, hs, hc, hl, hp]

/-- An ACTIVE bay does not object to an empty head; an ACTIVE or EMPTY one not to the panel that came from it (R65). -/
theorem bayObjection_none {bay : Bay} {b : Nat} {load : Option LoadRecord}
    (h : bay.state = .active ∧ load = none ∨
      (bay.state = .active ∨ bay.state = .empty) ∧
        ∃ l, load = some l ∧ (l.phase = .loaded ∨ l.phase = .rejected) ∧ l.originBay = b) :
    bayObjection bay b load = none := by
  rcases h with ⟨hs, rfl⟩ | ⟨hs, l, rfl, hp, rfl⟩
  · simp [bayObjection, hs]
  · have hfrom : l.fromBay l.originBay = true := by rcases hp with hp | hp <;> simp [LoadRecord.fromBay, hp]
    rcases hs with hs | hs <;> simp [bayObjection, hs, hfrom]

/-- Settles O17: a raise, or a lowering by the floor of what lies under it; a Z MOVE makes no report. -/
theorem zMoveForwarded : Obligations.ZMoveForwarded := by
  unfold Obligations.ZMoveForwarded
  intro s k dst src seq payload m a c r x z target h hslot ho hb hrole hm haxis ha hc hr hx hz he hn hact hf hspeed
  refine ⟨fun hd hh => by simp [State.press, hh], ?_⟩
  intro carried raise onto ontoBay ontoSaw hcase
  have hrole : s.roleOf dst.toNat = some (driveRole k .z) := hrole
  have lowered {height : Nat} (hl : ∀ l, c.load = some l → l.phase = .loaded ∨ l.phase = .rejected) (ht : onto height)
      (hfloor : loweringFloor s k c x.position = .ok (height - s.press k)) :
      judge s k false .z m.target m.speed = .forward target m.speed (target != m.target) := by
    obtain ⟨hbelow, hclear, hactive, hstill, rfl⟩ := ht
    have hlow : c.lowers r m.target = true := by simp [Carriage.lowers, hz, hbelow, hclear]
    have hrest : c.xAtRest r = true := by simp [Carriage.xAtRest, hactive, hx, hstill]
    rw [judge_z hc hr hx he hact hf, if_pos hlow]
    exact judgeLowering_forward (st := ⟨x.position, x.velocity⟩) hl hrest hspeed hfloor
  have hj : judge s k false .z m.target m.speed = .forward target m.speed (target != m.target) := by
    rcases hcase with ⟨hup, rfl, hl⟩ | ⟨b, bay, hover, hbay, ht, hload⟩ | ⟨j, saw, cfg, l, hover, hsaw, hcfg, hl, hp, ht⟩
    · have hlow : c.lowers r m.target = false := by
        simp only [Carriage.lowers, hz, Bool.and_eq_false_iff, decide_eq_false_iff_not]
        omega
      rw [judge_z hc hr hx he hact hf, hlow]
      exact judgeRaise_forward hl hspeed
    · refine lowered (fun l hl => ?_) ht (loweringFloor_bay hover hbay (bayObjection_none hload))
      rcases hload with ⟨-, hnone⟩ | ⟨-, l', hl', hp, -⟩
      · cases hnone.symm.trans hl
      · cases hl'.symm.trans hl
        exact hp
    · refine lowered (fun l' hl' => ?_) ht (loweringFloor_saw hover hsaw hcfg hl hp)
      cases hl.symm.trans hl'
      exact .inl hp
  refine ⟨hj, fun hq => ?_, fun hq => ?_⟩
  · exact live_settled h (g := fun s => receiveU s ⟨dst, src, Kind.move, seq, payload⟩)
      (receiveU_move_full ho hb hrole hm haxis ha hc hn hslot hj hq) h.settled
  · intro moved
    have hsent : receiveU s ⟨dst, src, Kind.move, seq, payload⟩ =
        (tellForwarded moved k m.tag target (target != m.target)).tookU .good :=
      receiveU_move_sent ho hb hrole hm haxis ha hc hn hslot hj hq
    have hnone : ((tellForwarded moved k m.tag target (target != m.target)).tookU .good).reports = [] :=
      (tellForwarded_reports ..).trans h.settled
    refine (live_settled h (g := fun s => receiveU s ⟨dst, src, Kind.move, seq, payload⟩) hsent hnone).trans ?_
    by_cases ht : target = m.target
    · rw [tellForwarded, if_neg (by simp [ht]), if_neg (not_not.mpr ht)]
      rfl
    · rw [tellForwarded, if_pos (by simp [ht]), if_pos ht]
      rfl

end Sys2Proof.Machine
end

section
/-! PROOFS. GRIP (R40, R89 to R97): the cups of an image and of an allowed mask, and a GRIP refused by its preconditions or
forwarded without a change of the load's state. -/

namespace Sys2Proof.Machine

/-! Cup sets (R40, R89). -/

/-- A GRIP form carries a cup (R89). -/
def gripCarries (i : Nat) : GripForm → Prop
  | .all => True
  | .low => i < 16
  | .high => 16 ≤ i

theorem gripCarried_getLsbD (form : GripForm) {i : Nat} (h : i < 32) :
    (gripCarried form).getLsbD i = true ↔ gripCarries i form := by
  have key : ∀ i : Fin 32, (gripCarried .all).getLsbD i = true ∧ ((gripCarried .low).getLsbD i = true ↔ i.val < 16) ∧
      ((gripCarried .high).getLsbD i = true ↔ 16 ≤ i.val) := by decide
  obtain ⟨hall, hlow, hhigh⟩ := key ⟨i, h⟩
  cases form with
  | all => exact ⟨fun _ => trivial, fun _ => hall⟩
  | low => exact hlow
  | high => exact hhigh

/-- The cups of module A are there always, those of module B with two modules (R40). -/
theorem presentCups_getLsbD (modules : Nat) {i : Nat} (h : i < 32) :
    (presentCups modules).getLsbD i = true ↔ i < 16 ∨ modules = 2 := by
  have key : ∀ i : Fin 32, (moduleA ||| moduleB).getLsbD i = true ∧ (moduleA.getLsbD i = true ↔ i.val < 16) := by decide
  obtain ⟨hboth, ha⟩ := key ⟨i, h⟩
  unfold presentCups
  split
  · rename_i hm
    exact ⟨fun _ => .inr hm, fun _ => hboth⟩
  · rename_i hm
    exact ha.trans (or_iff_left hm).symm

/-- The carried cups replace their half of the image, and the cups of an absent module are off (R89). -/
theorem resultingImage_getLsbD (form : GripForm) (cups image : Cups) (modules : Nat) {i : Nat} (h : i < 32) :
    (resultingImage form cups image modules).getLsbD i = true ↔
      (i < 16 ∨ modules = 2) ∧ (gripCarries i form ∧ cups.getLsbD i = true ∨ ¬gripCarries i form ∧ image.getLsbD i = true) := by
  simp only [resultingImage, BitVec.getLsbD_and, BitVec.getLsbD_or, BitVec.getLsbD_not, Bool.and_eq_true, Bool.or_eq_true,
    Bool.not_eq_true', Bool.eq_false_iff, ne_eq, decide_eq_true_eq, h, true_and, presentCups_getLsbD modules h,
    gripCarried_getLsbD form h]
  tauto

/-- A cup set holds the cups for which its test holds. -/
theorem cupSet_getLsbD (test : Nat → Bool) {i : Nat} (h : i < 32) : (cupSet test).getLsbD i = test i := by
  have key (n : Nat) : ((List.range n).foldl (fun m c => if test c then m ||| BitVec.twoPow 32 c else m) 0).getLsbD i =
      (decide (i < n) && test i) := by
    induction n with
    | zero => exact BitVec.getLsbD_zero
    | succ n ih =>
      rw [List.range_succ, List.foldl_append, List.foldl_cons, List.foldl_nil]
      have hbit : (BitVec.twoPow 32 n).getLsbD i = decide (n = i) := by
        rw [BitVec.getLsbD_twoPow, Bool.eq_iff_iff]
        simp
        omega
      have hlt : decide (i < n + 1) = (decide (i < n) || decide (n = i)) := by
        rw [Bool.eq_iff_iff]
        simp
        omega
      cases ht : test n with
      | false =>
        rw [if_neg Bool.false_ne_true, ih, hlt]
        by_cases hi : n = i
        · subst hi
          simp [ht]
        · simp [hi]
      | true =>
        rw [if_pos rfl, BitVec.getLsbD_or, ih, hbit, hlt]
        by_cases hi : n = i
        · subst hi
          simp [ht]
        · simp [hi]
  rw [cupSet, key, decide_eq_true h, Bool.true_and]

/-- A cup is allowed where it is fitted and the panel covers it (R40). -/
theorem cupAllowed_iff (s : State) (k r length width i : Nat) :
    cupAllowed s k r length width i = true ↔
      ∃ group cup, s.cupLayout[4 * k + i / 8]? = some (some group) ∧ group[i % 8]? = some cup ∧ cup.fitted = true ∧
        2 * (cup.dx.natAbs + r) ≤ length ∧ 2 * (cup.dy.natAbs + r) ≤ width := by
  unfold cupAllowed
  cases hg : (s.cupLayout[4 * k + i / 8]?).join with
  | none =>
    have hno (group : List Cup) : s.cupLayout[4 * k + i / 8]? ≠ some (some group) := fun h => by simp [h] at hg
    simp [hno]
  | some group =>
    have hat : s.cupLayout[4 * k + i / 8]? = some (some group) := Option.join_eq_some_iff.mp hg
    cases hc : group[i % 8]? with
    | none => simp [hat, hc]
    | some cup => simp [hat, hc, Cup.covered]

/-- The allowed mask holds the allowed cups on present modules (R40). -/
theorem allowedMask_getLsbD (s : State) (k r modules length width : Nat) {i : Nat} (h : i < 32) :
    (allowedMask s k r modules length width).getLsbD i = true ↔
      (i < 16 ∨ modules = 2) ∧
        ∃ group cup, s.cupLayout[4 * k + i / 8]? = some (some group) ∧ group[i % 8]? = some cup ∧ cup.fitted = true ∧
          2 * (cup.dx.natAbs + r) ≤ length ∧ 2 * (cup.dy.natAbs + r) ≤ width := by
  rw [allowedMask, BitVec.getLsbD_and, Bool.and_eq_true, cupSet_getLsbD _ h, presentCups_getLsbD modules h,
    cupAllowed_iff, and_comm]

/-! A GRIP received (R92, R144). -/

/-- A GRIP for the head of a carriage is routed to the Head Unit. -/
theorem routeU_grip {s : State} {form : GripForm} {dst src seq : Byte} {payload : List Byte} {k : Nat} (ho : ¬s.Own dst)
    (hb : dst.toNat ≠ 63) (hr : s.roleOf dst.toNat = some (.head k)) :
    routeU s ⟨dst, src, Kind.grip form, seq, payload⟩ = gripFrame s k form ⟨dst, src, Kind.grip form, seq, payload⟩ := by
  have hown : s.isOwn dst = false := Bool.eq_false_iff.mpr (mt (isOwn_iff s dst).mp ho)
  have hno : ¬(dst.toNat = Config.broadcast ∨ s.port.nodeMap.all (·.isNone) = true) := by
    rw [nodeMap_used hr]
    simpa [Config.broadcast] using hb
  have hkind : Kind.grip form ≠ Kind.move ∧ Kind.gripForm? (Kind.grip form) = some form := by
    cases form <;> decide
  rw [routeU, if_neg (by simp [hown]), if_neg hkind.1]
  simp only [hkind.2, routeGrip, if_neg hno, hr]

/-- A forwarding that finds the D-forward queue full is dropped (R90). -/
theorem forwardGrip_full {s : State} (hq : 8 ≤ s.port.dForward.length) (k : Nat) (form : GripForm) (f : Frame)
    (g : GripFields) (image : Cups) (effect : State → State) :
    forwardGrip s k form f g image effect = (s, .overrun) := by
  rw [forwardGrip, placeDown_eq, if_neg (Nat.not_lt.mpr hq)]

/-- A forwarding that finds room places the GRIP, and tells where its carried bits changed (R90, R97). -/
theorem forwardGrip_sent {s t : State} {k : Nat} {form : GripForm} {f : Frame} {image : Cups} {effect : State → State}
    (hq : s.port.dForward.length < 8)
    (ht : effect ((s.sentDown { f with payload := gripBytes form image f.payload }).modCarriage k fun c =>
      { c with image := image }) = t) (g : GripFields) :
    forwardGrip s k form f g image effect =
      (if image &&& gripCarried form = g.cups &&& gripCarried form then t
        else handGrip t k g.job .clamped (.cups (cupCount image)), .good) := by
  subst ht
  rw [forwardGrip, placeDown_eq, if_pos hq]
  dsimp only
  split <;> rfl

theorem handGrip_heardU (s : State) (k : Nat) (job : Option (Nat × Nat)) (c : Cause) (d : Detail) :
    handGrip s.heardU k job c d = (handGrip s k job c d).heardU := hand_heardU ..

@[simp] theorem handGrip_reports (s : State) (k : Nat) (job : Option (Nat × Nat)) (c : Cause) (d : Detail) :
    (handGrip s k job c d).reports = s.reports := hand_reports ..

section
variable {s : State} {form : GripForm} {dst src seq : Byte} {payload : List Byte} {k : Nat} (h : s.Running)
  (hp : payload.length ≤ 48) (ho : ¬s.Own dst) (hb : dst.toNat ≠ 63) (hr : s.roleOf dst.toNat = some (.head k))
include h hp ho hb hr

/-- A GRIP that makes no report, carried out: judged, and counted by what that came to. -/
theorem exec_grip {t : State} {r : Routing}
    (ht : gripFrame s.heardU k form ⟨dst, src, Kind.grip form, seq, payload⟩ = (t.heardU, r)) (hn : t.reports = []) :
    exec (.grip form dst src seq payload) s = .next (t.tookU r) :=
  live_settled h (g := fun s => receiveU s ⟨dst, src, Kind.grip form, seq, payload⟩)
    (receiveU_eq hp ((routeU_grip (s := s.heardU) ho hb hr).trans ht) fun hx => ho hx.1) hn

/-- A GRIP refused: its notice, and nothing else. -/
theorem exec_grip_refused {job : Option (Nat × Nat)} {cause : Cause}
    (hg : gripFrame s.heardU k form ⟨dst, src, Kind.grip form, seq, payload⟩ = refuseGrip s.heardU k job cause) :
    exec (.grip form dst src seq payload) s = .next ((handGrip s k job .refused (.cause cause)).tookU .good) :=
  exec_grip h hp ho hb hr (hg.trans (by rw [refuseGrip, handGrip_heardU])) (by simp [h.settled])

/-- A GRIP forwarded, whose effect on its carriage is `e`, by the room of the D-forward queue (R90, R97). -/
theorem exec_grip_forwarded {g : GripFields} {image : Cups} {effect : State → State} {e : Carriage → Carriage}
    (hparse : parseGrip form payload = some g)
    (hg : gripFrame s.heardU k form ⟨dst, src, Kind.grip form, seq, payload⟩ =
      forwardGrip s.heardU k form ⟨dst, src, Kind.grip form, seq, payload⟩ g image effect)
    (he : ∀ u : State, u.carriages = s.carriages →
      effect (u.modCarriage k fun c => { c with image := image }) = u.modCarriage k e) :
    (8 ≤ s.port.dForward.length → exec (.grip form dst src seq payload) s = .next (s.tookU .overrun)) ∧
      (s.port.dForward.length < 8 →
        let moved := (s.changed k e).sentDown ⟨dst, src, Kind.grip form, seq, gripBytes form image payload⟩
        exec (.grip form dst src seq payload) s =
          .next
            (State.tookU
              (if image &&& gripCarried form = g.cups &&& gripCarried form then moved
              else handGrip moved k ((parseGrip form payload).bind (·.job)) .clamped (.cups (cupCount image)))
              .good)) := by
  have hjob : (parseGrip form payload).bind (·.job) = g.job := by rw [hparse, Option.bind_some]
  rw [hjob]
  refine ⟨fun hq => exec_grip h hp ho hb hr ?_ h.settled, fun hq => ?_⟩
  · exact hg.trans (forwardGrip_full (s := s.heardU) hq ..)
  · intro moved
    refine exec_grip h hp ho hb hr ?_ ?_
    · rw [hg, forwardGrip_sent (s := s.heardU) (t := moved.heardU) hq (he (s.heardU.sentDown _) rfl), handGrip_heardU]
      split <;> rfl
    · split
      · exact h.settled
      · exact (handGrip_reports ..).trans h.settled

end

/-! The preconditions of a GRIP (R92). -/

section
variable {s : State} {form : GripForm} {f : Frame} {k : Nat} {c : Carriage} (hc : s.carriage k = some c)
  (hm : c.ctx.membership = .normal) (he : s.inputs.emergency = false)
include hc hm he

/-- A GRIP of a load that is being gripped, checked or released waits on no one: it is refused (R92). -/
theorem gripFrame_busy
    (hl : ∃ l, c.load = some l ∧ (l.phase = .gripping ∨ l.phase = .checking ∨ l.phase = .releasing)) :
    gripFrame s k form f = refuseGrip s k ((parseGrip form f.payload).bind (·.job)) .loadBusy := by
  obtain ⟨l, hl, hp⟩ := hl
  have hbusy : c.loadIn [.gripping, .checking, .releasing] = true := by
    rcases hp with hp | hp | hp <;> simp [Carriage.loadIn, hl, hp]
  simp [gripFrame, hc, hm, he, hbusy]

variable (hl : ∀ l, c.load = some l → l.phase = .loaded ∨ l.phase = .rejected)
include hl

theorem gripFrame_badField (hg : parseGrip form f.payload = none) :
    gripFrame s k form f = refuseGrip s k ((parseGrip form f.payload).bind (·.job)) .badField := by
  have hbusy : c.loadIn [.gripping, .checking, .releasing] = false :=
    loadIn_eq_false fun l h => by rcases hl l h with h | h <;> simp [h]
  simp [gripFrame, hc, hm, he, hbusy, hg]

/-- A GRIP whose preconditions hold is judged. -/
theorem gripFrame_judged {g : GripFields} (hg : parseGrip form f.payload = some g) :
    gripFrame s k form f = judgeGrip s k c form f g := by
  have hbusy : c.loadIn [.gripping, .checking, .releasing] = false :=
    loadIn_eq_false fun l h => by rcases hl l h with h | h <;> simp [h]
  simp [gripFrame, hc, hm, he, hbusy, hg]

end

/-- A GRIP of an EMPTY load that turns no cup on is forwarded (R93). -/
theorem judgeGrip_off {s : State} {k : Nat} {c : Carriage} {form : GripForm} {f : Frame} {g : GripFields}
    (hl : c.load = none) (hi : resultingImage form g.cups c.image c.modulesInForce &&& ~~~c.image = 0) :
    judgeGrip s k c form f g =
      forwardGrip s k form f g (resultingImage form g.cups c.image c.modulesInForce) id := by
  simp only [judgeGrip, hl, if_pos hi]

/-- A GRIP of a load that keeps minHold cups is forwarded, and its cups are the load's commanded mask (R95). -/
theorem judgeGrip_held {s : State} {k : Nat} {c : Carriage} {form : GripForm} {f : Frame} {g : GripFields} {l : LoadRecord}
    {h : HeadRecord} {clamped : Cups} (hl : c.load = some l) (hh : s.head k = some h)
    (hi : resultingImage form g.cups c.image c.modulesInForce &&&
      allowedMask s k h.r c.modulesInForce l.length l.width = clamped) (hn : h.minHold ≤ cupCount clamped) :
    judgeGrip s k c form f g =
      forwardGrip s k form f g clamped fun s => setLoad s k { l with mask := clamped } := by
  subst hi
  simp only [judgeGrip, hl, hh, if_pos hn]

/-- Settles O19: the cups bit by bit, then the preconditions of R92 in their order, and the two judgements that leave the
load's state. -/
theorem gripJudged : Obligations.GripJudged := by
  unfold Obligations.GripJudged
  refine ⟨fun form cups image modules i hi => ?_, fun s k r modules length width i hi => ?_, ?_⟩
  · have himage := resultingImage_getLsbD form cups image modules hi
    cases form <;> exact himage
  · exact allowedMask_getLsbD s k r modules length width hi
  intro s k form dst src seq payload h hp ho hb hr run reference refused forwarded
  have refuse {cause : Cause} (hg : gripFrame s.heardU k form ⟨dst, src, Kind.grip form, seq, payload⟩ =
      refuseGrip s.heardU k ((parseGrip form payload).bind (·.job)) cause) : refused cause :=
    exec_grip_refused h hp ho hb hr hg
  refine ⟨fun hc => refuse ?_, fun c hc => ⟨fun hm => refuse ?_, fun hm he => refuse ?_,
    fun hm he hl => refuse (gripFrame_busy (s := s.heardU) hc hm he hl),
    fun hm he hl => ⟨fun hg => refuse (gripFrame_badField (s := s.heardU) hc hm he hl hg), fun g hg => ?_⟩⟩⟩
  · simp [gripFrame, show s.heardU.carriage k = none from hc]
  · simp [gripFrame, show s.heardU.carriage k = some c from hc, hm]
  · simp [gripFrame, show s.heardU.carriage k = some c from hc, hm, show s.heardU.inputs.emergency = true from he]
  have hjudged := gripFrame_judged (s := s.heardU) (form := form) (f := ⟨dst, src, Kind.grip form, seq, payload⟩)
    hc hm he hl hg
  have forward {image : Cups} {load : Option LoadRecord} {effect : State → State}
      (hf : judgeGrip s.heardU k c form ⟨dst, src, Kind.grip form, seq, payload⟩ g =
        forwardGrip s.heardU k form ⟨dst, src, Kind.grip form, seq, payload⟩ g image effect)
      (he : ∀ u : State, u.carriages = s.carriages →
        effect (u.modCarriage k fun c => { c with image := image }) =
          u.modCarriage k fun c => { c with image := image, load := load }) : forwarded g image load :=
    exec_grip_forwarded h hp ho hb hr hg (hjudged.trans hf) he
  intro image
  constructor
  · intro hnone hoff
    refine forward (judgeGrip_off (s := s.heardU) hnone hoff) fun u hu => modCarriage_congr fun d hd => ?_
    have hd : s.carriage k = some d := (State.carriage_congr hu k).symm.trans hd
    cases hd.symm.trans hc
    simp [hnone]
  · intro l head hload hhead clamped hhold
    exact forward (judgeGrip_held (s := s.heardU) hload hhead rfl hhold) fun u _ => modCarriage_modCarriage ..

end Sys2Proof.Machine
end

section
/-! PROOFS. The gap between reservations (R34, R42): what leaves it (`State.Calm`), and what a change of one carriage's
reservation has to keep to (`State.Gapped.reserve`). -/

namespace Sys2Proof.Machine

/-! Carriages that are placed. -/

/-- An EXCLUDED carriage is HALTED, and every other one out of UNSEEN has a reservation. -/
theorem Carriage.placed_iff (c : Carriage) :
    c.placed = true ↔
      (c.ctx.membership = .excluded → c.ctx.runState = .halted) ∧
        (c.ctx.membership ≠ .excluded → c.ctx.runState ≠ .unseen → c.reservation.isSome = true) := by
  unfold Carriage.placed
  split
  · rename_i hm
    simp [hm]
  · rename_i hm
    simp [hm, or_iff_not_imp_left]

/-- A placed carriage that is not HALTED is not EXCLUDED. -/
theorem Carriage.not_excluded_of_placed {c : Carriage} (h : c.placed = true) (hr : c.ctx.runState ≠ .halted) :
    c.ctx.membership ≠ .excluded := fun hm => hr (c.placed_iff.mp h |>.1 hm)

/-- A placed carriage out of UNSEEN that is not EXCLUDED has a reservation. -/
theorem Carriage.reservation_of_placed {c : Carriage} (h : c.placed = true) (hm : c.ctx.membership ≠ .excluded)
    (hr : c.ctx.runState ≠ .unseen) : ∃ v, c.reservation = some v :=
  Option.isSome_iff_exists.mp (c.placed_iff.mp h |>.2 hm hr)

/-- An ACTIVE carriage is not EXCLUDED and has a reservation. -/
theorem Carriage.reservation_of_active {c : Carriage} (h : c.placed = true) (ha : c.ctx.runState = .active) :
    ∃ v, c.reservation = some v :=
  Carriage.reservation_of_placed h (Carriage.not_excluded_of_placed h (by simp [ha])) (by simp [ha])

/-- A change of a carriage that leaves its reservation, and does not make it ACTIVE, UNSEEN or not placed. -/
structure Carriage.Calm (c d : Carriage) : Prop where
  reservation : d.reservation = c.reservation
  active : d.ctx.runState = .active → c.ctx.runState = .active
  unseen : d.ctx.runState = .unseen → c.ctx.runState = .unseen
  placed : c.placed = true → d.placed = true

namespace Carriage.Calm

theorem refl (c : Carriage) : c.Calm c := ⟨rfl, id, id, id⟩

theorem trans {c d e : Carriage} (h : c.Calm d) (h' : d.Calm e) : c.Calm e :=
  ⟨h'.reservation.trans h.reservation, h.active ∘ h'.active, h.unseen ∘ h'.unseen, h'.placed ∘ h.placed⟩

/-- A carriage that keeps its reservation, run state and membership. -/
theorem of_same {c d : Carriage} (hv : d.reservation = c.reservation) (hr : d.ctx.runState = c.ctx.runState)
    (hm : d.ctx.membership = c.ctx.membership) : c.Calm d :=
  ⟨hv, fun h => hr.symm.trans h, fun h => hr.symm.trans h, fun h => by
    rw [d.placed_iff, hv, hr, hm]
    exact c.placed_iff.mp h⟩

/-- A carriage out of UNSEEN that changes its run state to one that is neither ACTIVE nor UNSEEN. -/
theorem of_run {c d : Carriage} (hv : d.reservation = c.reservation) (hm : d.ctx.membership = c.ctx.membership)
    (ha : d.ctx.runState ≠ .active) (hu : d.ctx.runState ≠ .unseen) (hs : c.ctx.runState ≠ .unseen)
    (hx : c.placed = true → c.ctx.membership = .excluded → d.ctx.runState = .halted) : c.Calm d :=
  ⟨hv, fun h => absurd h ha, fun h => absurd h hu, fun h => by
    rw [d.placed_iff, hv, hm]
    exact ⟨hx h, fun hm _ => (c.placed_iff.mp h).2 hm hs⟩⟩

/-- A halt (R18). -/
theorem halted (c : Carriage) : c.Calm c.halted := by
  by_cases ha : c.ctx.runState = .active
  · refine of_run c.halted_reservation c.halted_kept.2.1 c.halted_not_active ?_ (by simp [ha]) fun hp hm => ?_
    · simp [c.halted_runState, ha]
    · exact absurd hm (Carriage.not_excluded_of_placed hp (by simp [ha]))
  · exact of_same c.halted_reservation (by rw [c.halted_runState, if_neg ha]) c.halted_kept.2.1

end Carriage.Calm

/-- A carriage that is given a reservation is placed, as it was. -/
theorem Carriage.placed_reserved {c : Carriage} (h : c.placed = true) (v : Reservation) :
    (c.reserved (some v)).placed = true :=
  (c.reserved (some v)).placed_iff.mpr ⟨(c.placed_iff.mp h).1, fun _ _ => rfl⟩

/-! Calm changes of the state. -/

/-- A change that leaves the gap: the same G, the same carriages installed, and each changed calmly. -/
structure State.Calm (s t : State) : Prop where
  rail : t.rail = s.rail
  installed : t.carriages.length = s.carriages.length
  each : ∀ j c d, s.carriage j = some c → t.carriage j = some d → c.Calm d

namespace State.Calm

/-- The carriage that a calm change comes from. -/
theorem source {s t : State} (h : s.Calm t) {j : Nat} {d : Carriage} (hd : t.carriage j = some d) :
    ∃ c, s.carriage j = some c ∧ c.Calm d := by
  have hj : j < s.carriages.length := h.installed ▸ carriage_lt hd
  exact ⟨_, List.getElem?_eq_getElem hj, h.each j _ d (List.getElem?_eq_getElem hj) hd⟩

/-- The carriage that a calm change leads to. -/
theorem image {s t : State} (h : s.Calm t) {j : Nat} {c : Carriage} (hc : s.carriage j = some c) :
    ∃ d, t.carriage j = some d ∧ c.Calm d := by
  have hj : j < t.carriages.length := h.installed ▸ carriage_lt hc
  exact ⟨_, List.getElem?_eq_getElem hj, h.each j c _ hc (List.getElem?_eq_getElem hj)⟩

theorem trans {s t u : State} (h : s.Calm t) (h' : t.Calm u) : s.Calm u := by
  refine ⟨h'.rail.trans h.rail, h'.installed.trans h.installed, fun j c e hc he => ?_⟩
  obtain ⟨d, hd, hcd⟩ := h.image hc
  exact hcd.trans (h'.each j d e hd he)

/-- What leaves the carriages and the rail record. -/
theorem of_carriages {s t : State} (hc : t.carriages = s.carriages) (hr : t.rail = s.rail) : s.Calm t :=
  ⟨hr, by rw [hc], fun j c d hs ht => by
    cases hs.symm.trans ((State.carriage_congr hc j).symm.trans ht)
    exact .refl c⟩

theorem refl (s : State) : s.Calm s := of_carriages rfl rfl

/-- A calm change of one carriage. -/
theorem of_modify {s t : State} {k : Nat} {g : Carriage → Carriage} (ht : t.carriages = s.carriages.modify k g)
    (hr : t.rail = s.rail) (hg : ∀ c, s.carriage k = some c → c.Calm (g c)) : s.Calm t := by
  refine ⟨hr, by rw [ht, List.length_modify], fun j c d hc hd => ?_⟩
  by_cases hj : j = k
  · subst hj
    rw [State.carriage_modify_self ht, hc] at hd
    cases hd
    exact hg c hc
  · cases ((State.carriage_modify_ne ht hj).symm.trans hd).symm.trans hc
    exact .refl _

/-- No carriage becomes ACTIVE. -/
theorem active {s t : State} (h : s.Calm t) {j : Nat} (hj : t.runState j = some .active) :
    s.runState j = some .active := by
  obtain ⟨d, hd, hr⟩ := Option.map_eq_some_iff.mp hj
  obtain ⟨c, hc, hcd⟩ := h.source hd
  rw [runState_eq hc, hcd.active hr]

/-- No carriage becomes UNSEEN. -/
theorem unseen {s t : State} (h : s.Calm t) {j : Nat} (hj : t.runState j = some .unseen) :
    s.runState j = some .unseen := by
  obtain ⟨d, hd, hr⟩ := Option.map_eq_some_iff.mp hj
  obtain ⟨c, hc, hcd⟩ := h.source hd
  rw [runState_eq hc, hcd.unseen hr]

/-- Calm operations folded over a list are calm. -/
theorem foldl {α : Type} {f : State → α → State} (hf : ∀ (s : State) (a : α), s.Calm (f s a)) (l : List α) (s : State) :
    s.Calm (l.foldl f s) := by
  induction l generalizing s with
  | nil => exact refl s
  | cons a l ih => exact (hf s a).trans (ih _)

end State.Calm

/-- The rail record is of the site. -/
theorem rail_of_site {s t : State} (h : t.site = s.site) : t.rail = s.rail := congrArg Site.rail h

/-! Calm operations. -/

theorem hand_calm (s : State) (a : NoticeKind) (b : Option Nat) (c : Reference) (d : Cause) (e : Detail) :
    s.Calm (hand s a b c d e) := .of_carriages (hand_carriages ..) (rail_of_site (hand_site ..))

theorem handStateChange_calm (s : State) (k : Nat) (c : Cause) : s.Calm (handStateChange s k c) := hand_calm ..

/-- A change of one carriage in place. -/
theorem modCarriage_calm {s : State} {k : Nat} {g : Carriage → Carriage}
    (hg : ∀ c, s.carriage k = some c → c.Calm (g c)) : s.Calm (s.modCarriage k g) :=
  .of_modify (State.modCarriage_carriages ..) rfl hg

/-- A change of a context that leaves its run state and membership. -/
theorem modContext_calm {k : Nat} {g : Context → Context}
    (hg : ∀ x, (g x).runState = x.runState ∧ (g x).membership = x.membership) (s : State) : s.Calm (s.modContext k g) :=
  modCarriage_calm fun c _ => .of_same rfl (hg c.ctx).1 (hg c.ctx).2

theorem countFor_calm (s : State) (k : Nat) (g : CarriageCounters → CarriageCounters) : s.Calm (s.countFor k g) :=
  modContext_calm (g := fun c => { c with counters := g c.counters }) (fun _ => ⟨rfl, rfl⟩) s

theorem endHeld_calm (s : State) (k : Nat) (c : Cause) (d : Detail) : s.Calm (endHeld s k c d) :=
  .of_modify (endHeld_carriages ..) (rail_of_site (endHeld_site ..)) fun _ _ => .of_same rfl rfl rfl

theorem clearActive_calm (s : State) (k : Nat) (a : Axis) : s.Calm (clearActive s k a) :=
  .of_modify (clearActive_carriages ..) (rail_of_site (clearActive_site ..)) fun _ _ => by
    cases a <;> exact .of_same rfl rfl rfl

theorem requestStops_calm (s : State) (k : Nat) (r : StopReason) : s.Calm (requestStops s k r) :=
  .of_modify (requestStops_carriages ..) (rail_of_site (requestStops_site ..)) fun _ _ => .of_same rfl rfl rfl

theorem raiseFlag_calm (s : State) (k : Nat) (f : Flag) : s.Calm (raiseFlag s k f) :=
  .of_modify (raiseFlag_carriages ..) (rail_of_site (raiseFlag_site ..)) fun _ _ => .of_same rfl rfl rfl

theorem haltCarriage_calm (s : State) (k : Nat) (r : StopReason) (f : Option Flag) : s.Calm (haltCarriage s k r f) := by
  have hr := rail_of_site (haltCarriage_site s k r f)
  cases f with
  | none => exact .of_modify (haltCarriage_none_carriages ..) hr fun c _ => .halted c
  | some f =>
    exact .of_modify (haltCarriage_some_carriages ..) hr fun c _ =>
      (Carriage.Calm.of_same (c := c) (d := c.flagged f) rfl rfl rfl).trans (.halted _)

theorem haltNeighbours_calm (s : State) (js : List Nat) : s.Calm (haltNeighbours s js) :=
  .foldl (fun s j => haltCarriage_calm s j _ _) js s

theorem testFences_calm (s : State) : s.Calm (testFences s) :=
  .of_carriages (testFences_carriages s) (rail_of_site (testFences_site s))

theorem withdrawMoves_calm (s : State) (n : Nat) : s.Calm (withdrawMoves s n) :=
  .of_carriages (withdrawMoves_carriages ..) (rail_of_site (withdrawMoves_site ..))

/-- A halted carriage is not ACTIVE. -/
theorem haltCarriage_not_active (s : State) (k : Nat) (r : StopReason) (f : Option Flag) :
    (haltCarriage s k r f).runState k ≠ some .active := by
  have key {g : Carriage → Carriage} (hg : (haltCarriage s k r f).carriages = s.carriages.modify k g)
      (hn : ∀ c, (g c).ctx.runState ≠ .active) : (haltCarriage s k r f).runState k ≠ some .active := by
    intro h
    obtain ⟨d, hd, hr⟩ := Option.map_eq_some_iff.mp h
    rw [State.carriage_modify_self hg] at hd
    obtain ⟨c, -, rfl⟩ := Option.map_eq_some_iff.mp hd
    exact hn c hr
  cases f with
  | none => exact key (haltCarriage_none_carriages ..) fun c => c.halted_not_active
  | some f => exact key (haltCarriage_some_carriages ..) fun c => (c.flagged f).halted_not_active

/-- No neighbour that is halted is ACTIVE. -/
theorem haltNeighbours_not_active {s : State} {js : List Nat} {j : Nat} (hj : j ∈ js) :
    (haltNeighbours s js).runState j ≠ some .active := by
  intro h
  obtain ⟨d, hd, hr⟩ := Option.map_eq_some_iff.mp h
  rw [haltNeighbours_carriage, if_pos hj] at hd
  obtain ⟨c, -, rfl⟩ := Option.map_eq_some_iff.mp hd
  exact c.halted_not_active hr

/-! The gap. -/

/-- The gap is kept: from each carriage, every neighbour keeps G if either is ACTIVE; and every carriage is placed. -/
structure State.Gapped (s : State) : Prop where
  apart : ∀ k j x, j ∈ s.neighbours k → s.span k = some x →
    s.runState k = some .active ∨ s.runState j = some .active → s.apartFrom k j x = true
  placed : ∀ k c, s.carriage k = some c → c.placed = true

theorem mem_neighbours_iff {s : State} {j k : Nat} :
    j ∈ s.neighbours k ↔ k = j + 1 ∨ j = k + 1 ∧ j < s.carriages.length := by
  unfold State.neighbours
  rw [List.mem_append]
  split <;> split <;> simp <;> omega

theorem span_eq {s : State} {k : Nat} {c : Carriage} (hc : s.carriage k = some c) :
    s.span k = c.reservation.map (·.span) := by
  simp [State.span, hc]

/-- A span lies at least G from a neighbour on its left, and from one on its right (R34). -/
theorem apartFrom_left {s : State} {j : Nat} {x : Interval} :
    s.apartFrom (j + 1) j x = true ↔ ∀ r, s.span j = some r → r.hi + s.gap ≤ x.lo := by
  unfold State.apartFrom
  cases s.span j <;> simp [Interval.apartInOrder]

theorem apartFrom_right {s : State} {k : Nat} {x : Interval} :
    s.apartFrom k (k + 1) x = true ↔ ∀ r, s.span (k + 1) = some r → x.hi + s.gap ≤ r.lo := by
  unfold State.apartFrom
  cases s.span (k + 1) <;> simp [Interval.apartInOrder]

/-- Of two known spans of neighbours, each lies apart from the other. -/
theorem apartFrom_swap {s : State} {j k : Nat} {x : Interval} (hj : j ∈ s.neighbours k) (hx : s.span k = some x) :
    s.apartFrom k j x = true ↔ ∀ y, s.span j = some y → s.apartFrom j k y = true := by
  rcases mem_neighbours_iff.mp hj with rfl | ⟨rfl, -⟩
  · simp [apartFrom_left, apartFrom_right, hx]
  · simp [apartFrom_left, apartFrom_right, hx]

/-- An installed carriage is a neighbour of its neighbours. -/
theorem mem_neighbours_swap {s : State} {j k : Nat} (hk : k < s.carriages.length) (hj : j ∈ s.neighbours k) :
    k ∈ s.neighbours j := by
  rw [mem_neighbours_iff] at hj ⊢
  omega

theorem lt_of_span {s : State} {k : Nat} {x : Interval} (hx : s.span k = some x) : k < s.carriages.length := by
  obtain ⟨v, hv, -⟩ := Option.map_eq_some_iff.mp hx
  obtain ⟨c, hc, -⟩ := Option.bind_eq_some_iff.mp hv
  exact carriage_lt hc

/-- The pairs of the model are spaced where each carriage lies apart from its right neighbour. -/
theorem pairSpaced_iff (s : State) (k : Nat) :
    s.pairSpaced k = true ↔
      ∀ x, k + 1 < s.carriages.length → s.span k = some x →
        s.runState k = some .active ∨ s.runState (k + 1) = some .active → s.apartFrom k (k + 1) x = true := by
  unfold State.pairSpaced
  cases hb : s.carriage (k + 1) with
  | none =>
    have hlen : ¬k + 1 < s.carriages.length := Nat.not_lt.mpr (List.getElem?_eq_none_iff.mp hb)
    cases s.carriage k <;> simp [hlen]
  | some b =>
    have hlen := carriage_lt hb
    obtain ⟨a, ha⟩ : ∃ a, s.carriage k = some a := ⟨_, List.getElem?_eq_getElem (by omega)⟩
    simp only [ha, apartFrom_right, span_eq ha, span_eq hb, runState_eq ha, runState_eq hb, hlen]
    cases a.reservation <;> cases b.reservation <;> simp [Interval.apartInOrder]
    tauto

theorem State.gapKept_iff (s : State) : s.gapKept = true ↔ s.Gapped := by
  have hplaced : s.carriages.all (·.placed) = true ↔ ∀ k c, s.carriage k = some c → c.placed = true := by
    rw [List.all_eq_true]
    constructor
    · exact fun h k c hc => h c (List.mem_of_getElem? hc)
    · intro h c hc
      obtain ⟨k, hk⟩ := List.getElem?_of_mem hc
      exact h k c hk
  rw [State.gapKept, Bool.and_eq_true, hplaced, State.spaced, List.all_eq_true]
  constructor
  · rintro ⟨hs, hp⟩
    have hpair (k : Nat) (hk : k < s.carriages.length) := (pairSpaced_iff s k).mp (hs k (List.mem_range.mpr hk))
    refine ⟨fun k j x hj hx ha => ?_, hp⟩
    have hk := lt_of_span hx
    rcases mem_neighbours_iff.mp hj with rfl | ⟨rfl, hlt⟩
    · refine apartFrom_left.mpr fun r hr => ?_
      exact apartFrom_right.mp (hpair j (by omega) r hk hr ha.symm) x hx
    · exact hpair k hk x hlt hx ha
  · rintro ⟨ha, hp⟩
    exact ⟨fun k _ => (pairSpaced_iff s k).mpr fun x hlt hx hact =>
      ha k (k + 1) x (mem_neighbours_iff.mpr (.inr ⟨rfl, hlt⟩)) hx hact, hp⟩

namespace State.Gapped

/-- A change of one carriage, then calm changes: carriage `k` stays placed, and where it or a neighbour is ACTIVE in the
end, its new reservation lies at least G from that neighbour's. -/
theorem reserve {s u t : State} (h : s.Gapped) {k : Nat} {g : Carriage → Carriage}
    (hu : u.carriages = s.carriages.modify k g) (hr : u.rail = s.rail) (ht : u.Calm t)
    (hp : ∀ c, s.carriage k = some c → (g c).placed = true)
    (ha : ∀ c v j, s.carriage k = some c → (g c).reservation = some v → j ∈ s.neighbours k →
      t.runState k = some .active ∨ t.runState j = some .active → s.apartFrom k j v.span = true) : t.Gapped := by
  have hgap : t.gap = s.gap := by simp only [State.gap, ht.rail, hr]
  have hlen : t.carriages.length = s.carriages.length := by rw [ht.installed, hu, List.length_modify]
  have hback {j : Nat} (hj : j ≠ k) {d : Carriage} (hd : t.carriage j = some d) :
      ∃ c, s.carriage j = some c ∧ c.Calm d := by
    obtain ⟨c, hc, hcd⟩ := ht.source hd
    exact ⟨c, (State.carriage_modify_ne hu hj).symm.trans hc, hcd⟩
  have hself {d : Carriage} (hd : t.carriage k = some d) : ∃ c, s.carriage k = some c ∧ (g c).Calm d := by
    obtain ⟨c, hc, hcd⟩ := ht.source hd
    rw [State.carriage_modify_self hu] at hc
    obtain ⟨c', hc', rfl⟩ := Option.map_eq_some_iff.mp hc
    exact ⟨c', hc', hcd⟩
  have hspan {j : Nat} (hj : j ≠ k) : t.span j = s.span j := by
    cases hd : t.carriage j with
    | none =>
      have : s.carriage j = none := List.getElem?_eq_none_iff.mpr (hlen ▸ List.getElem?_eq_none_iff.mp hd)
      simp [State.span, hd, this]
    | some d =>
      obtain ⟨c, hc, hcd⟩ := hback hj hd
      rw [span_eq hd, span_eq hc, hcd.reservation]
  have hactive {j : Nat} (hj : j ≠ k) (hx : t.runState j = some .active) : s.runState j = some .active := by
    obtain ⟨d, hd, hr⟩ := Option.map_eq_some_iff.mp hx
    obtain ⟨c, hc, hcd⟩ := hback hj hd
    rw [runState_eq hc, hcd.active hr]
  have hown {j : Nat} {x : Interval} (hj : j ∈ s.neighbours k) (hx : t.span k = some x)
      (hact : t.runState k = some .active ∨ t.runState j = some .active) : s.apartFrom k j x = true := by
    obtain ⟨v, hv, rfl⟩ := Option.map_eq_some_iff.mp hx
    obtain ⟨d, hd, hv⟩ := Option.bind_eq_some_iff.mp hv
    obtain ⟨c, hc, hcd⟩ := hself hd
    exact ha c v j hc (hcd.reservation.symm.trans hv) hj hact
  have hapart (i : Nat) {j : Nat} (hj : j ≠ k) (x : Interval) : t.apartFrom i j x = s.apartFrom i j x := by
    simp only [State.apartFrom, hspan hj, hgap]
  have hneighbours (i : Nat) : t.neighbours i = s.neighbours i := by simp only [State.neighbours, hlen]
  refine ⟨fun i j x hj hx hact => ?_, fun i d hd => ?_⟩
  · by_cases hjk : j = k
    · subst hjk
      have hij : i ≠ j := (ne_of_mem_neighbours hj).symm
      have hji := mem_neighbours_swap (lt_of_span hx) hj
      refine (apartFrom_swap hj hx).mpr fun y hy => ?_
      rw [hapart j hij]
      exact hown (hneighbours j ▸ hji) hy hact.symm
    · rw [hapart i hjk]
      rw [hneighbours] at hj
      by_cases hik : i = k
      · subst hik
        exact hown hj hx hact
      · rw [hspan hik] at hx
        exact h.apart i j x hj hx (hact.imp (hactive hik) (hactive hjk))
  · by_cases hk : i = k
    · subst hk
      obtain ⟨c, hc, hcd⟩ := hself hd
      exact hcd.placed (hp c hc)
    · obtain ⟨c, hc, hcd⟩ := hback hk hd
      exact hcd.placed (h.placed i c hc)

/-- A calm change keeps the gap. -/
theorem calm {s t : State} (h : s.Gapped) (ht : s.Calm t) : t.Gapped :=
  h.reserve (k := s.carriages.length) (g := id) (by simp) rfl ht
    (fun c hc => absurd (carriage_lt hc) (Nat.lt_irrefl _)) fun c _ _ hc => absurd (carriage_lt hc) (Nat.lt_irrefl _)

/-- What leaves the carriages and the rail record keeps the gap. -/
theorem of_carriages {s t : State} (h : s.Gapped) (hc : t.carriages = s.carriages) (hr : t.rail = s.rail) : t.Gapped :=
  h.calm (.of_carriages hc hr)

/-- With no carriage ACTIVE, the gap is kept where every carriage is placed. -/
theorem of_rest {s : State} (h : ∀ k c, s.carriage k = some c → c.placed = true ∧ c.ctx.runState ≠ .active) :
    s.Gapped := by
  have hrest (k : Nat) : s.runState k ≠ some .active := by
    intro hk
    obtain ⟨c, hc, hr⟩ := Option.map_eq_some_iff.mp hk
    exact (h k c hc).2 hr
  exact ⟨fun k j x _ _ ha => (ha.elim (hrest k) (hrest j)).elim, fun k c hc => (h k c hc).1⟩

/-- Operations folded over a list keep the gap if each does. -/
theorem foldl {α : Type} {f : State → α → State} (hf : ∀ s a, s.Gapped → (f s a).Gapped) (l : List α) {s : State}
    (h : s.Gapped) : (l.foldl f s).Gapped := by
  induction l generalizing s with
  | nil => exact h
  | cons a l ih => exact ih (hf s a h)

end State.Gapped

end Sys2Proof.Machine
end

section
/-! PROOFS. The Admission Unit keeps the gap: what a judgement forwards fits the free limits, which keep G from the known
spans of the neighbours (R53, R59). -/

namespace Sys2Proof.Machine

/-! What is forwarded fits (R38, R59). -/

/-- A span within free limits of carriage `k` (R53). -/
def State.Fits (s : State) (k : Nat) (span : Interval) : Prop :=
  ∃ occ, (s.leftFree k occ).value ≤ span.lo ∧ span.hi ≤ (s.rightFree k occ).value

/-- Carriage `k` is ACTIVE, and what it reserves for an X target fits (R59). -/
def State.MayReserve (s : State) (k target : Nat) : Prop :=
  s.runState k = some .active ∧ ∀ span, s.admittedSpan k target = some span → s.Fits k span

/-- A span that fits lies at least G from the neighbours of an ACTIVE carriage: the right limit does, since the carriage's
own span shows that there is room for G left of the neighbour. -/
theorem State.Gapped.apart_of_fits {s : State} (h : s.Gapped) {j k : Nat} {span : Interval}
    (hk : s.runState k = some .active) (hf : s.Fits k span) (hj : j ∈ s.neighbours k) : s.apartFrom k j span = true := by
  obtain ⟨occ, hl, hr⟩ := hf
  rcases mem_neighbours_iff.mp hj with rfl | ⟨rfl, hlt⟩
  · refine apartFrom_left.mpr fun r hs => ?_
    have := leftFree_ge hs occ
    omega
  · refine apartFrom_right.mpr fun r hs => ?_
    obtain ⟨c, hc, ha⟩ := Option.map_eq_some_iff.mp hk
    obtain ⟨v, hv⟩ := Carriage.reservation_of_active (h.placed k c hc) ha
    have hown := apartFrom_right.mp (h.apart k (k + 1) v.span hj (by rw [span_eq hc, hv]; rfl) (.inl hk)) r hs
    have := rightFree_le hlt hs occ
    omega

/-- The fit test forwards its target only where it fits, and offers a shorter one only where that fits (R38, R59). -/
theorem judgeFit_forward {s : State} {k : Nat} {r : CarriageRecord} {st : Standing} {x v x' v' : Nat} {c c' : Bool}
    (h : judgeFit s k r st x v c = .forward x' v' c') :
    s.Fits k ((envelope r s.railLength st.x st.v).hull (occupancy r s.railLength x')) := by
  unfold judgeFit at h
  dsimp only at h
  split at h
  · cases h
  · split at h
    · rename_i hfit
      cases h
      simp only [Bool.and_eq_true, Bool.not_eq_true', decide_eq_false_iff_not, Nat.not_lt] at hfit
      exact ⟨_, hfit⟩
    · cases h

theorem judgeFit_shorter {s : State} {k : Nat} {r : CarriageRecord} {st : Standing} {x v x' : Nat} {c : Bool} {b : Block}
    (h : judgeFit s k r st x v c = .blocked b) (hx : b.shorter = some x') :
    s.Fits k ((envelope r s.railLength st.x st.v).hull (occupancy r s.railLength x')) := by
  unfold judgeFit at h
  dsimp only at h
  split at h
  · cases h
  · split at h
    · cases h
    · cases h
      exact ⟨_, shorterTarget_fits hx⟩

/-- A judgement of an X move that is neither a refusal nor waitable is that of the fit test (R57, R59). -/
theorem judge_x_fit {s : State} {k target speed : Nat} (hr : ∀ c, judge s k false .x target speed ≠ .refuse c)
    (hw : ∀ c, judge s k false .x target speed ≠ .waitable c) :
    ∃ c r x, s.carriage k = some c ∧ s.record k = some r ∧ c.ctx.lastX = some x ∧
      judge s k false .x target speed =
        judgeFit s k r ⟨x.position, x.velocity⟩ (clampTarget r target) (clampSpeed r speed)
          (clampTarget r target != target || clampSpeed r speed != speed) := by
  revert hr hw
  unfold judge
  split
  · exact fun hr => absurd rfl (hr _)
  · split
    · rename_i c r hc hrec
      split
      · exact fun hr => absurd rfl (hr _)
      · rename_i st hst
        obtain ⟨x, hx, rfl⟩ := Option.map_eq_some_iff.mp hst
        split
        · exact fun hr => absurd rfl (hr _)
        · split
          · exact fun hr => absurd rfl (hr _)
          · dsimp only
            unfold judgeX
            split
            · exact fun _ hw => absurd rfl (hw _)
            · split
              · exact fun _ hw => absurd rfl (hw _)
              · split
                · exact fun hr => absurd rfl (hr _)
                · split
                  · exact fun hr => absurd rfl (hr _)
                  · exact fun _ _ => ⟨c, r, x, hc, hrec, hx, rfl⟩
    · exact fun hr => absurd rfl (hr _)

/-- What a forwarding reserves (R59). -/
theorem admittedSpan_eq {s : State} {k : Nat} {c : Carriage} {r : CarriageRecord} {x : AxisReport}
    (hc : s.carriage k = some c) (hr : s.record k = some r) (hx : c.ctx.lastX = some x) (target : Nat) :
    s.admittedSpan k target =
      some ((envelope r s.railLength x.position x.velocity).hull (occupancy r s.railLength target)) := by
  simp only [State.admittedSpan, currentEnvelope_eq hc hr hx, hr]

/-- A move that is forwarded may reserve its target. -/
theorem mayReserve_of_forward {s : State} {k target speed x v : Nat} {axis : Axis} {c : Bool}
    (h : judge s k false axis target speed = .forward x v c) (ha : axis = .x) : s.MayReserve k x := by
  subst ha
  obtain ⟨d, r, p, hd, hr, hp, hj⟩ := judge_x_fit (s := s) (k := k) (target := target) (speed := speed) (by simp [h]) (by simp [h])
  refine ⟨judge_active (s := s) (k := k) (a := .x) (x := target) (v := speed) (by simp [h]), fun span hs => ?_⟩
  cases (admittedSpan_eq hd hr hp x).symm.trans hs
  exact judgeFit_forward (hj.symm.trans h)

/-- Only an X move is blocked (R59). -/
theorem judge_blocked_axis {s : State} {k target speed : Nat} {axis : Axis} {b : Block}
    (h : judge s k false axis target speed = .blocked b) : axis = .x := by
  cases axis with
  | x => rfl
  | z =>
    have hz (c : Carriage) (r : CarriageRecord) (st : Standing) :
        (if c.lowers r target then judgeLowering s k c r st false target speed else judgeRaise c r target speed) ≠
          .blocked b := by
      unfold judgeLowering judgeRaise
      repeat' split
      all_goals simp
    unfold judge at h
    split at h
    · cases h
    · split at h
      · split at h
        · cases h
        · split at h
          · cases h
          · split at h
            · cases h
            · exact (hz _ _ _ h).elim
      · cases h

/-- A blocked move may reserve its shorter target (R38). -/
theorem mayReserve_of_blocked {s : State} {k target speed x : Nat} {axis : Axis} {b : Block}
    (h : judge s k false axis target speed = .blocked b) (hx : b.shorter = some x) : s.MayReserve k x := by
  obtain rfl := judge_blocked_axis h
  obtain ⟨d, r, p, hd, hr, hp, hj⟩ := judge_x_fit (s := s) (k := k) (target := target) (speed := speed) (by simp [h]) (by simp [h])
  refine ⟨judge_active (s := s) (k := k) (a := .x) (x := target) (v := speed) (by simp [h]), fun span hs => ?_⟩
  cases (admittedSpan_eq hd hr hp x).symm.trans hs
  exact judgeFit_shorter (hj.symm.trans h) hx

/-! Calm operations of the Admission Unit. -/

theorem handVerdict_calm (s : State) (k : Nat) (t : Byte) (c : Cause) (d : Detail) : s.Calm (handVerdict s k t c d) :=
  hand_calm ..

theorem verdictRefused_calm (s : State) (k : Nat) (t : Byte) (c : Cause) : s.Calm (verdictRefused s k t c) :=
  (countFor_calm ..).trans (handVerdict_calm ..)

theorem verdictClamped_calm (s : State) (k : Nat) (t : Byte) (x : Nat) : s.Calm (verdictClamped s k t x) :=
  (countFor_calm ..).trans (handVerdict_calm ..)

theorem setActive_calm (s : State) (k : Nat) (a : Axis) (m : ActiveMove) : s.Calm (setActive s k a m) := by
  cases a with
  | x => exact modContext_calm (g := fun c => { c with activeX := some m }) (fun _ => ⟨rfl, rfl⟩) s
  | z => exact modContext_calm (g := fun c => { c with activeZ := some m }) (fun _ => ⟨rfl, rfl⟩) s

theorem setSlot_calm (s : State) (k : Nat) (h : HeldMove) : s.Calm (setSlot s k h) :=
  modCarriage_calm fun _ _ => .of_same rfl rfl rfl

/-- A held move entered with the next stamp, counted and told. -/
theorem heldEntry_calm (s : State) (k : Nat) (h : HeldMove) (n : Clock) (t : Byte) (c : Cause) (d : Detail) :
    s.Calm (handVerdict (countHeld ((setSlot s k h).withStamps n) k) k t c d) := by
  have hs : s.Calm ((setSlot s k h).withStamps n) := (setSlot_calm s k h).trans (.of_carriages rfl rfl)
  exact (hs.trans (countFor_calm ..)).trans (handVerdict_calm ..)

theorem holdMove_calm (s : State) (k : Nat) (a : Axis) (m : MoveFields) (b : BlockedAction) (w : Waiting) :
    s.Calm (holdMove s k a m b w) := by
  unfold holdMove
  split
  · exact verdictRefused_calm ..
  · exact heldEntry_calm ..

theorem setVirtual_calm (s : State) (k : Nat) (a : Axis) (x : Nat) : s.Calm (setVirtual s k a x) := by
  cases a with
  | x => exact modCarriage_calm fun _ _ => .of_same rfl rfl rfl
  | z => exact .refl s

theorem handShadow_calm (s : State) (k : Nat) (t : Byte) (c : Cause) (d : Detail) : s.Calm (handShadow s k t c d) :=
  hand_calm ..

theorem shadowMove_calm (s : State) (k : Nat) (a : Axis) (m : MoveFields) (b : BlockedAction) :
    s.Calm (shadowMove s k a m b) := by
  unfold shadowMove
  split
  · exact handShadow_calm ..
  · split <;> exact handShadow_calm ..
  · dsimp only
    split <;> exact (setVirtual_calm ..).trans (handShadow_calm ..)
  · split
    · have hv (x : Nat) (b : Bool) : s.Calm (handShadow (setVirtual s k .x x) k m.tag .clamped (.position x)) :=
        (setVirtual_calm ..).trans (handShadow_calm ..)
      dsimp only
      split
      · exact (hv _ true).trans (handShadow_calm ..)
      · exact hv _ true
    · split <;> exact handShadow_calm ..

theorem endRefused_calm (s : State) (k : Nat) (c : Cause) : s.Calm (endRefused s k c) :=
  (countFor_calm ..).trans (endHeld_calm ..)

theorem recheckDeadlock_calm (s : State) (k : Nat) (b : Option Blocker) : s.Calm (recheckDeadlock s k b) := by
  unfold recheckDeadlock
  split
  · exact .refl s
  · split
    · exact .refl s
    · split
      · split
        · exact .refl s
        · split
          · split <;> exact endRefused_calm ..
          · exact .refl s
      · exact .refl s

theorem stayHeld_calm (s : State) (k : Nat) (h : HeldMove) (w : Waiting) : s.Calm (stayHeld s k h w) :=
  (setSlot_calm ..).trans (recheckDeadlock_calm ..)

/-! Forwarding and re-evaluation. -/

/-- An active move changes nothing of what a forwarding reserves. -/
theorem setActive_admittedSpan (s : State) (k : Nat) (a : Axis) (m : ActiveMove) (target : Nat) :
    (setActive s k a m).admittedSpan k target = s.admittedSpan k target := by
  have hr : (setActive s k a m).record k = s.record k := by cases a <;> rfl
  have hl : (setActive s k a m).railLength = s.railLength := by cases a <;> rfl
  have hx : ((setActive s k a m).carriage k).map (·.ctx.lastX) = (s.carriage k).map (·.ctx.lastX) := by
    cases a <;> rw [setActive, State.modContext, State.carriage_modify_self (State.modCarriage_carriages ..),
      Option.map_map] <;> rfl
  unfold State.admittedSpan State.currentEnvelope
  rw [hr, hl]
  cases hd : (setActive s k a m).carriage k with
  | none =>
    rw [hd, Option.map_none, eq_comm, Option.map_eq_none_iff] at hx
    rw [hx]
  | some d =>
    rw [hd] at hx
    obtain ⟨c, hc, hcd⟩ := Option.map_eq_some_iff.mp hx.symm
    rw [hc]
    cases s.record k <;> simp only [hcd]

/-- An X move set active, and a reservation with it. -/
theorem setActive_reserved_carriages (s : State) (k : Nat) (m : ActiveMove) (v : Reservation) :
    (setReservation (setActive s k .x m) k (some v)).carriages =
      s.carriages.modify k fun c => { c with reservation := some v, ctx := { c.ctx with activeX := some m } } := by
  rw [setReservation_carriages, setActive, State.modContext, State.modCarriage_carriages, List.modify_modify_eq]
  rfl

namespace State.Gapped

/-- A MOVE sent on the X axis for a carriage that may reserve its target; one on the Z axis reserves nothing. -/
theorem sentMove {s : State} (h : s.Gapped) {k target : Nat} {axis : Axis} (hm : axis = .x → s.MayReserve k target)
    (tag : Byte) : (sentMove s k axis target tag).Gapped := by
  cases axis with
  | z => exact h.calm (setActive_calm s k .z ⟨target, tag⟩)
  | x =>
    obtain ⟨hact, hfit⟩ := hm rfl
    cases hs : (setActive s k .x ⟨target, tag⟩).admittedSpan k target with
    | none =>
      rw [sentMove_x_none hs]
      exact h.calm (setActive_calm ..)
    | some span =>
      rw [sentMove_x_some hs]
      rw [setActive_admittedSpan] at hs
      refine h.reserve (setActive_reserved_carriages ..) ((rail_of_site (setReservation_site ..)).trans rfl) (.refl _)
        (fun c hc => ?_) fun c v j hc hv hj _ => ?_
      · exact Carriage.placed_reserved (h.placed k c hc) ⟨span, .plain⟩
      · cases hv
        exact h.apart_of_fits hact (hfit span hs) hj

theorem forwardMove {s t : State} (h : s.Gapped) {k target : Nat} {axis : Axis} {f : Frame} {tag : Byte}
    (hm : axis = .x → s.MayReserve k target) (ht : forwardMove s k axis f target tag = some t) : t.Gapped := by
  rw [forwardMove_eq, placeDown_eq] at ht
  split at ht
  · cases ht
    exact sentMove (s := s.sentDown f) (h.of_carriages rfl rfl) hm tag
  · cases ht

theorem generateMove {s t : State} (h : s.Gapped) {k target speed : Nat} {m : HeldMove} {clamped : Bool}
    (hm : m.axis = .x → s.MayReserve k target) (ht : generateMove s k m target speed clamped = some t) : t.Gapped := by
  unfold Machine.generateMove at ht
  split at ht
  · cases ht
  · obtain ⟨u, hu, rfl⟩ := Option.map_eq_some_iff.mp ht
    exact (h.forwardMove hm hu).of_carriages rfl rfl

theorem decideBlocked {s : State} (h : s.Gapped) {k target speed : Nat} {axis : Axis} {b : Block}
    (hj : judge s k false axis target speed = .blocked b) (f : Frame) (m : MoveFields) (a : BlockedAction) :
    (decideBlocked s k f m a b).1.Gapped := by
  unfold Machine.decideBlocked
  split
  · rename_i x hx
    split
    · exact h
    · rename_i t ht
      have hc : b.shorter = some x := (Option.ite_none_right_eq_some.mp hx).2
      have hv := (h.forwardMove (fun _ => mayReserve_of_blocked hj hc) ht).calm (verdictClamped_calm t k m.tag x)
      dsimp only
      split
      · exact hv.calm (holdMove_calm ..)
      · exact hv
  · split
    · exact h.calm (holdMove_calm ..)
    · exact h.calm (verdictRefused_calm ..)

theorem decideMove {s : State} (h : s.Gapped) (k : Nat) (a : Axis) (f : Frame) (m : MoveFields) (b : BlockedAction) :
    (decideMove s k a f m b).1.Gapped := by
  unfold Machine.decideMove
  split
  · exact h.calm (verdictRefused_calm ..)
  · split <;> dsimp only
    · exact h.calm (holdMove_calm ..)
    · exact h.calm (verdictRefused_calm ..)
  · rename_i hj
    exact h.decideBlocked hj ..
  · rename_i hj
    split
    · exact h
    · rename_i ht
      have hf := h.forwardMove (mayReserve_of_forward hj) ht
      split <;> dsimp only
      · exact hf.calm (verdictClamped_calm ..)
      · exact hf.calm (countFor_calm ..)

theorem admitMove {s : State} (h : s.Gapped) (k : Nat) (a : Axis) (f : Frame) : (admitMove s k a f).1.Gapped := by
  unfold Machine.admitMove
  dsimp only
  split
  · exact h.calm (handVerdict_calm ..)
  · split
    · exact h.calm (verdictRefused_calm ..)
    · exact h.calm (verdictRefused_calm ..)
    · split
      · split
        · split
          · exact h.calm (shadowMove_calm ..)
          · exact h.calm (handShadow_calm ..)
        · exact h.calm (handShadow_calm ..)
      · exact h.calm (handShadow_calm ..)
    · have he := h.calm (endHeld_calm s k .superseded .absent)
      split
      · split
        · split
          · exact he.decideMove ..
          · exact he.calm (verdictRefused_calm ..)
        · exact he.calm (verdictRefused_calm ..)
      · exact he.calm (verdictRefused_calm ..)

theorem reevaluate {s : State} (h : s.Gapped) (k : Nat) : (reevaluate s k).Gapped := by
  unfold Machine.reevaluate
  split
  · exact h
  · split
    · exact h.calm (endRefused_calm ..)
    · exact h.calm (stayHeld_calm ..)
    · rename_i hj
      split
      · exact h.calm (setSlot_calm ..)
      · rename_i t ht
        have hg := h.generateMove (mayReserve_of_forward hj) ht
        split
        · exact (hg.calm (countFor_calm ..)).calm (endHeld_calm ..)
        · exact (hg.calm (countFor_calm ..)).calm (endHeld_calm ..)
    · rename_i hj
      split
      · exact h.calm (stayHeld_calm ..)
      · rename_i x hx
        split
        · split
          · exact h.calm (setSlot_calm ..)
          · rename_i t ht
            have hc := (Option.ite_none_right_eq_some.mp hx).2
            have hg := h.generateMove (fun _ => mayReserve_of_blocked hj hc) ht
            exact (hg.calm (verdictClamped_calm ..)).calm (stayHeld_calm ..)
        · exact h.calm (stayHeld_calm ..)

theorem actFor {s : State} (h : s.Gapped) (r : Report) (k : Nat) : (actFor r s k).Gapped := by
  unfold Machine.actFor
  split
  · exact h
  · split
    · refine reevaluate ?_ k
      unfold answerMark
      split
      · exact h.calm (setSlot_calm ..)
      · exact h
    · exact h

theorem actOn {s : State} (h : s.Gapped) (r : Report) : (actOn s r).Gapped := foldl (fun _ k hs => hs.actFor r k) _ h

theorem settle {s : State} (h : s.Gapped) (n : Nat) : (settle n s).Gapped := by
  induction n generalizing s with
  | zero => exact h
  | succ n ih =>
    unfold Machine.settle
    split
    · exact h
    · rename_i rs _
      exact ih ((h.of_carriages (t := s.withReports rs) rfl rfl).actOn _)

theorem finish {s : State} (h : s.Gapped) : (finish s).Gapped := h.settle _

end State.Gapped
end Sys2Proof.Machine
end

section
/-! PROOFS. The Carriage Tracker keeps the gap: a reservation follows its reports by parts that are tested against the
neighbours (R45, R50), and an expiry or first data halts whom it comes too close to (R13, R14, R16). -/

namespace Sys2Proof.Machine

/-! Spans that lie apart. -/

section
variable {s : State} {j k : Nat} (hj : j ∈ s.neighbours k)
include hj

/-- What lies within a span that lies apart lies apart. -/
theorem apartFrom_within {x y : Interval} (hy : s.apartFrom k j y = true) (hxy : x.within y = true) :
    s.apartFrom k j x = true := by
  simp only [Interval.within, Bool.and_eq_true, decide_eq_true_eq] at hxy
  obtain ⟨hl, hh⟩ := hxy
  rcases mem_neighbours_iff.mp hj with rfl | ⟨rfl, -⟩
  · refine apartFrom_left.mpr fun r hr => ?_
    have := apartFrom_left.mp hy r hr
    omega
  · refine apartFrom_right.mpr fun r hr => ?_
    have := apartFrom_right.mp hy r hr
    omega

/-- A span that reaches no further than the stored one and the candidate lies apart where the stored one and the grown
parts do (R45). -/
theorem apartFrom_grown {stored cand new : Interval} (hs : s.apartFrom k j stored = true)
    (hp : ∀ p ∈ grownParts stored cand, s.apartFrom k j p = true) (hl : min stored.lo cand.lo ≤ new.lo)
    (hh : new.hi ≤ max stored.hi cand.hi) : s.apartFrom k j new = true := by
  rcases mem_neighbours_iff.mp hj with rfl | ⟨rfl, -⟩
  · refine apartFrom_left.mpr fun r hr => ?_
    have hstored := apartFrom_left.mp hs r hr
    by_cases hg : cand.lo < stored.lo
    · have := apartFrom_left.mp (hp ⟨cand.lo, stored.lo - 1⟩ (by simp [grownParts, hg])) r hr
      dsimp only at this
      omega
    · omega
  · refine apartFrom_right.mpr fun r hr => ?_
    have hstored := apartFrom_right.mp hs r hr
    by_cases hg : stored.hi < cand.hi
    · have := apartFrom_right.mp (hp ⟨stored.hi + 1, cand.hi⟩ (by simp [grownParts, hg])) r hr
      dsimp only at this
      omega
    · omega

end

/-- The run state is one of the laws' fields. -/
theorem runState_of_legal {s t : State} (h : t.legal = s.legal) (j : Nat) : t.runState j = s.runState j := by
  have key (u : State) : u.runState j = (u.legal[j]?).map (·.runState) := by
    simp [State.runState, State.legal_getElem?, Option.map_map, Function.comp_def]
  rw [key, key, h]

/-- A carriage known to be in a run state is in no other. -/
theorem runState_ne {s : State} {k : Nat} {a b : RunState} (h : s.runState k = some a) (hab : a ≠ b) :
    s.runState k ≠ some b := fun hb => hab (Option.some.inj (h.symm.trans hb))

/-! Reservations that change. -/

theorem halts_calm (s : State) (k : Nat) (r : StopReason) (f : Option Flag) (js : List Nat) :
    s.Calm (haltNeighbours (haltCarriage s k r f) js) := (haltCarriage_calm ..).trans (haltNeighbours_calm ..)

theorem halts_not_active (s : State) (k : Nat) (r : StopReason) (f : Option Flag) (js : List Nat) :
    (haltNeighbours (haltCarriage s k r f) js).runState k ≠ some .active :=
  fun h => haltCarriage_not_active s k r f ((haltNeighbours_calm _ js).active h)

namespace State.Gapped

/-- A known reservation lies apart where the carriage or the neighbour is ACTIVE. -/
theorem apart_stored {s : State} (h : s.Gapped) {j k : Nat} {c : Carriage} {held : Reservation}
    (hc : s.carriage k = some c) (hv : c.reservation = some held) (hj : j ∈ s.neighbours k)
    (ha : s.runState k = some .active ∨ s.runState j = some .active) : s.apartFrom k j held.span = true :=
  h.apart k j held.span hj (by rw [span_eq hc, hv]; rfl) ha

/-- A reservation set, then calm changes. -/
theorem setReservation {s t : State} (h : s.Gapped) {k : Nat} {v : Reservation}
    (ht : (setReservation s k (some v)).Calm t)
    (ha : ∀ j, j ∈ s.neighbours k → t.runState k = some .active ∨ t.runState j = some .active →
      s.apartFrom k j v.span = true) : t.Gapped :=
  h.reserve (setReservation_carriages ..) (rail_of_site (setReservation_site ..)) ht
    (fun c hc => Carriage.placed_reserved (h.placed k c hc) v) fun c _ j _ hv hj hact => by
      cases hv
      exact ha j hj hact

/-- What is ACTIVE after a reservation is set and calm changes was ACTIVE before. -/
theorem active_of_setReservation {s t : State} {k j : Nat} {v : Option Reservation}
    (ht : (Machine.setReservation s k v).Calm t) (hj : t.runState j = some .active) : s.runState j = some .active :=
  (runState_of_legal (setReservation_legal s k v) j).symm.trans (ht.active hj)

/-- A reservation that grows is tested part by part (R45). -/
theorem growReservation {s : State} (h : s.Gapped) {k : Nat} {c : Carriage} {held new : Reservation} {cand : Interval}
    (hc : s.carriage k = some c) (hv : c.reservation = some held) (hl : min held.span.lo cand.lo ≤ new.span.lo)
    (hh : new.span.hi ≤ max held.span.hi cand.hi) : (growReservation s k held.span cand new).Gapped := by
  have hparts {j : Nat} (hj : j ∈ s.neighbours k) (ho : j ∉ s.offended k (grownParts held.span cand))
      (hact : s.runState k = some .active ∨ s.runState j = some .active) : s.apartFrom k j new.span = true := by
    refine apartFrom_grown hj (h.apart_stored hc hv hj hact) (fun p hp => ?_) hl hh
    by_contra hn
    exact ho (mem_offended_iff.mpr ⟨hj, p, hp, Bool.eq_false_iff.mpr hn⟩)
  by_cases hs : s.Strays k held.span cand
  · rw [growReservation_strays hs]
    have ht := halts_calm (Machine.setReservation s k (some new)) k .excursion (some .excursion)
      (s.offended k (grownParts held.span cand))
    refine h.setReservation ht fun j hj hact => hparts hj (fun ho => ?_) (hact.imp ?_ ?_)
    · exact hact.elim (halts_not_active _ _ _ _ _) (haltNeighbours_not_active ho)
    · exact active_of_setReservation ht
    · exact active_of_setReservation ht
  · rw [growReservation_silent hs]
    refine h.setReservation (.refl _) fun j hj hact => hparts hj (fun ho => hs (.inl ⟨j, ho⟩)) (hact.imp ?_ ?_)
    · exact active_of_setReservation (.refl _)
    · exact active_of_setReservation (.refl _)

/-- A candidate stored as it is, for a carriage with a reservation (R44, R47). -/
theorem followCandidate {s : State} (h : s.Gapped) {k : Nat}
    (hk : ∀ c, s.carriage k = some c → c.ctx.membership ≠ .excluded ∧ c.ctx.runState ≠ .unseen) :
    (followCandidate s k).Gapped := by
  cases hc : s.carriage k with
  | none => simpa [Machine.followCandidate, State.candidate, hc] using h
  | some c =>
    obtain ⟨hm, hr⟩ := hk c hc
    obtain ⟨held, hv⟩ := Carriage.reservation_of_placed (h.placed k c hc) hm hr
    unfold Machine.followCandidate
    rw [hc, Option.bind_some, hv]
    cases s.candidate k with
    | none => exact h
    | some cand =>
      have hg := h.growReservation (cand := cand) (new := ⟨cand, .plain⟩) hc hv (Nat.min_le_right ..) (Nat.le_max_right ..)
      dsimp only
      split
      · rename_i hin
        rwa [growReservation_silent (State.not_strays_of_within hin)] at hg
      · exact hg

theorem followStale {s : State} (h : s.Gapped) (k : Nat) : (followStale s k).Gapped := by
  unfold Machine.followStale
  split
  · rename_i cand held _ hb
    obtain ⟨c, hc, hv⟩ := Option.bind_eq_some_iff.mp hb
    split
    · exact h
    · exact h.growReservation hc hv (le_refl _) (le_refl _)
  · exact h

theorem updateReservation {s : State} (h : s.Gapped) (k : Nat) : (updateReservation s k).Gapped := by
  unfold Machine.updateReservation
  split
  · rename_i c r hc _
    split
    · rename_i ht
      simp only [Bool.and_eq_true, bne_iff_ne] at ht
      split
      · refine h.followCandidate fun d hd => ?_
        cases hc.symm.trans hd
        refine ⟨ht.2, fun hu => ?_⟩
        simp [hu, RunState.tracked] at ht
      · exact h.followStale k
    · exact h
  · exact h

/-! First data (R13). -/

/-- A carriage after first data is placed: it was UNSEEN, so it is not EXCLUDED. -/
theorem firstSeen_placed {c : Carriage} (hp : c.placed = true) (hu : c.ctx.runState = .unseen) (v : Reservation)
    (r : CarriageRecord) (p : Nat) (stopping emergency : Bool) :
    ((c.reserved (some v)).firstSeen r p stopping emergency).placed = true := by
  have hm := Carriage.not_excluded_of_placed hp (by simp [hu])
  exact (Carriage.placed_iff _).mpr ⟨fun hx => absurd hx hm, fun _ _ => rfl⟩

/-- First data halts the neighbours that its envelope is too close to, and then the carriage is STOPPING. -/
theorem firstData {s : State} (h : s.Gapped) {k : Nat} (hk : s.runState k = some .unseen) : (firstData s k).Gapped := by
  by_cases hf : ∃ c r x, s.carriage k = some c ∧ s.record k = some r ∧ c.ctx.lastX = some x
  · obtain ⟨c, r, x, hc, hr, hx⟩ := hf
    have hu : c.ctx.runState = .unseen := Option.some.inj ((runState_eq hc).symm.trans hk)
    rw [firstData_eq hc hr hx rfl rfl rfl]
    generalize envelope r s.railLength x.position x.velocity = env
    generalize hst : (decide (r.vStill < x.velocity.natAbs) || !(s.closeNeighbours k env).isEmpty) = stopping
    have hset := firstSet_carriages s k r x.position env stopping
    have hrail : (firstSet s k r x.position env stopping).rail = s.rail := by
      change (Machine.setReservation s k (some ⟨env, .plain⟩)).rail = s.rail
      exact rail_of_site (setReservation_site ..)
    have hreq (a : StopReason) : (firstSet s k r x.position env stopping).Calm
        (if stopping then requestStops (firstSet s k r x.position env stopping) k a
          else firstSet s k r x.position env stopping) := by
      split
      · exact requestStops_calm ..
      · exact .refl _
    have ht (a : StopReason) (b : Cause) := ((hreq a).trans (handStateChange_calm _ k b)).trans
      (haltNeighbours_calm _ (s.closeNeighbours k env))
    refine h.reserve hset hrail (ht _ _) (fun d hd => ?_) fun d v j _ hv hj hact => ?_
    · cases hc.symm.trans hd
      exact firstSeen_placed (h.placed k c hc) hu ..
    · cases hv
      by_contra hn
      have hclose : j ∈ s.closeNeighbours k env := mem_closeNeighbours_iff.mpr ⟨hj, Bool.eq_false_iff.mpr hn⟩
      have hempty : (s.closeNeighbours k env).isEmpty = false := by
        rw [List.isEmpty_eq_false_iff]
        exact List.ne_nil_of_mem hclose
      rw [hempty, Bool.not_false, Bool.or_true] at hst
      subst hst
      rcases hact with hact | hact
      · have := (ht _ _).active hact
        rw [State.runState, State.carriage_modify_self hset, hc] at this
        cases this
      · exact haltNeighbours_not_active hclose hact
  · rw [firstData_none fun c r x hc hr hx => hf ⟨c, r, x, hc, hr, hx⟩]
    exact h

end State.Gapped

/-! Run-state rules (R17, R19, R20). -/

/-- Unbidden motion takes a HALTED carriage back to STOPPING, an EXCLUDED one not. -/
theorem unbiddenMotion_calm {s : State} {k : Nat} (hk : s.runState k = some .halted) : s.Calm (unbiddenMotion s k) := by
  unfold unbiddenMotion
  split
  · rename_i c r hc _
    have hh : c.ctx.runState = .halted := Option.some.inj ((runState_eq hc).symm.trans hk)
    split
    · split
      · split
        · exact requestStops_calm ..
        · exact (raiseFlag_calm ..).trans (requestStops_calm ..)
      · exact requestStops_calm ..
    · rename_i hm
      have hs : s.Calm (enterStopping s k) :=
        .of_modify (enterStopping_carriages s k) (rail_of_site (enterStopping_site s k)) fun d hd => by
          cases hc.symm.trans hd
          exact .of_run rfl rfl nofun nofun (by simp [hh]) fun _ hx => absurd hx hm
      exact (hs.trans (requestStops_calm ..)).trans (handStateChange_calm ..)
  · exact .refl s

/-- A carriage out of UNSEEN becomes HALTED. -/
theorem becomeHalted_calm {s : State} {k : Nat} {g : Context → Context}
    (hg : ∀ x, (g x).runState = .halted ∧ (g x).membership = x.membership) (hk : s.runState k ≠ some .unseen) :
    s.Calm (s.modContext k g) :=
  modCarriage_calm fun c hc => by
    obtain ⟨hr, hm⟩ := hg c.ctx
    exact .of_run rfl hm (by simp [hr]) (by simp [hr]) (fun hu => hk ((runState_eq hc).trans (congrArg some hu)))
      fun _ _ => hr

theorem marked_calm (c : Carriage) (a : Axis) (still : Bool) : c.Calm (c.marked a still) := by
  cases a <;> exact .of_same rfl rfl rfl

theorem markStill_calm (s : State) (k : Nat) (a : Axis) (v : Int) : s.Calm (markStill s k a v) := by
  cases hr : s.record k with
  | none => simpa [markStill, hr] using State.Calm.refl s
  | some r =>
    have hm : s.Calm (s.modCarriage k (·.marked a (decide (v.natAbs ≤ r.vStill)))) :=
      modCarriage_calm fun c _ => marked_calm c a _
    cases hc : s.carriage k with
    | none => simpa [markStill_none hr hc] using hm
    | some c =>
      rw [markStill_eq hr hc]
      split
      · rename_i hx
        have hk := runState_eq (modCarriage_same hc (·.marked a (decide (v.natAbs ≤ r.vStill))))
        refine (hm.trans (becomeHalted_calm (g := fun x => { x with runState := .halted }) (fun _ => ⟨rfl, rfl⟩) ?_)).trans (handStateChange_calm ..)
        rw [hk, hx.1]
        nofun
      · exact hm

/-- The rules of velocity: in HALTED for a carriage that the report found so. -/
theorem applyVelocity_calm {s : State} {k : Nat} {b : RunState} (hb : b ≠ .active → s.runState k = some b)
    (f : ReportFrom) : s.Calm (applyVelocity s k b f) := by
  unfold applyVelocity
  split
  · exact .refl s
  · split
    · exact markStill_calm ..
    · split
      · exact .refl s
      · split
        · exact unbiddenMotion_calm (hb (by simp))
        · exact .refl s
    · exact .refl s

namespace State.Gapped

/-- The reservation of a recovered carriage: within the frozen span it stays apart, outside it halts the neighbours on the
offending sides (R50). -/
theorem unfreeze {s : State} (h : s.Gapped) {k : Nat} {c : Carriage} {held : Reservation} (hc : s.carriage k = some c)
    (hv : c.reservation = some held) (e : Interval) : (unfreeze s k e).Gapped := by
  cases hin : e.within held.span with
  | true =>
    rw [unfreeze_within hc hv hin]
    refine h.setReservation (.refl _) fun j hj hact => apartFrom_within hj (h.apart_stored hc hv hj (hact.imp ?_ ?_)) hin
    · exact active_of_setReservation (.refl _)
    · exact active_of_setReservation (.refl _)
  | false =>
    rw [unfreeze_outside hc hv hin]
    have ht := halts_calm (Machine.setReservation s k (some ⟨e, .plain⟩)) k .excursion (some .excursion)
      (offendingSides s k held.span e)
    refine h.setReservation ht fun j hj hact => ?_
    have hact := hact.resolve_left (halts_not_active _ _ _ _ _)
    have ho : ¬(j < k ∧ e.lo < held.span.lo ∨ k < j ∧ held.span.hi < e.hi) := fun ho =>
      haltNeighbours_not_active (mem_offendingSides_iff.mpr ⟨hj, ho⟩) hact
    have hstored := h.apart_stored hc hv hj (.inr (active_of_setReservation ht hact))
    rcases mem_neighbours_iff.mp hj with rfl | ⟨rfl, -⟩
    · refine apartFrom_left.mpr fun r hr => ?_
      have := apartFrom_left.mp hstored r hr
      dsimp only
      omega
    · refine apartFrom_right.mpr fun r hr => ?_
      have := apartFrom_right.mp hstored r hr
      dsimp only
      omega

theorem recover {s : State} (h : s.Gapped) {k : Nat} (hk : s.runState k = some .lost) (f : ReportFrom) :
    (recover s k f).Gapped := by
  unfold Machine.recover
  split
  · rename_i r e _ _
    obtain ⟨c, hc, hl⟩ := Option.map_eq_some_iff.mp hk
    have hm := Carriage.not_excluded_of_placed (h.placed k c hc) (by simp [hl])
    obtain ⟨held, hv⟩ := Carriage.reservation_of_placed (h.placed k c hc) hm (by simp [hl])
    dsimp only
    set t := handStateChange (s.modContext k fun c => { c with fresh := true, runState := .halted }) k .halted with htdef
    have ht : t.Gapped := (h.calm (becomeHalted_calm (g := fun c => { c with fresh := true, runState := .halted })
      (fun _ => ⟨rfl, rfl⟩) (runState_ne hk (by simp)))).calm (handStateChange_calm ..)
    have htc : t.carriage k = some { c with ctx := { c.ctx with fresh := true, runState := .halted } } := by
      rw [htdef, State.carriage_congr (handStateChange_carriages ..)]
      exact modContext_same hc _
    have hu := ht.unfreeze htc hv e
    have ho := State.OnlyHalts.unfreeze t k e k .halted (by simp) (runState_eq htc)
    split
    · split
      · exact hu.calm (unbiddenMotion_calm ho)
      · exact hu
    · exact hu
  · exact h

theorem returnToFresh {s : State} (h : s.Gapped) {k : Nat} {f : ReportFrom}
    (hu : (∀ v, f ≠ .drive .x v) → s.runState k ≠ some .unseen) : (returnToFresh s k f).Gapped := by
  unfold Machine.returnToFresh
  split
  · rename_i c r hc _
    split
    · rename_i hx
      simp only [Bool.and_eq_true, bne_iff_ne] at hx
      have hs := h.calm (modContext_calm (k := k) (g := fun x => { x with fresh := true }) (fun _ => ⟨rfl, rfl⟩) s)
      dsimp only
      split
      · exact hs
      · rename_i hf
        refine hs.followCandidate fun d hd => ?_
        cases (modContext_same hc _).symm.trans hd
        exact ⟨hx.1.1, fun hr => hu (fun v hv => hf v hv) ((runState_eq hc).trans (congrArg some hr))⟩
    · exact h
  · exact h

theorem runStateRules {s : State} (h : s.Gapped) {k : Nat} {b : RunState} {f : ReportFrom}
    (hb : b ≠ .active → s.runState k = some b)
    (hu : (∀ v, f ≠ .drive .x v) → s.runState k = some .unseen → b = .unseen) : (runStateRules s k b f).Gapped := by
  unfold Machine.runStateRules
  split
  · split
    · split
      · exact h.firstData (hb (by simp))
      · exact h
    · split
      · exact h.recover (hb (by simp)) f
      · exact h
    · rename_i hn _
      exact (h.returnToFresh fun hf hk => hn (hu hf hk)).calm
        (applyVelocity_calm (fun hx => State.OnlyHalts.returnToFresh s k f k b hx (hb hx)) f)
  · exact h

end State.Gapped

/-! The reading of a report (R10, R12). -/

theorem arrived_calm (k : Nat) (now : Clock) (n : Node) (s : State) : s.Calm (s.modContext k fun c => c.arrived now n) :=
  modContext_calm (g := fun c => c.arrived now n) (fun _ => by cases n <;> exact ⟨rfl, rfl⟩) s

theorem recordState_calm (s : State) (k : Nat) (a : Axis) (rep : StateReport) : s.Calm (recordState s k a rep) :=
  modContext_calm (g := fun c => (c.arrived s.lineClock (driveNode a)).reported rep a)
    (fun _ => by cases a <;> exact ⟨rfl, rfl⟩) s

theorem faultState_calm (s : State) (k : Nat) (rep : StateReport) : s.Calm (faultState s k rep) := by
  unfold faultState
  split
  · exact haltCarriage_calm ..
  · exact .refl s

theorem stateReports_calm (s : State) (k : Nat) (a : Axis) : s.Calm (stateReports s k a) := by
  unfold stateReports
  repeat' split
  all_goals exact .of_carriages rfl rfl

namespace State.Gapped

theorem readState {s : State} (h : s.Gapped) (k : Nat) (a : Axis) (rep : StateReport) : (readState s k a rep).Gapped := by
  cases hb : s.runState k with
  | none => simpa [Machine.readState, hb] using h
  | some before =>
    have hc : s.Calm (faultState (recordState s k a rep) k rep) := (recordState_calm ..).trans (faultState_calm ..)
    have hg : (updateFor (faultState (recordState s k a rep) k rep) k a).Gapped := by
      cases a with
      | x => exact (h.calm hc).updateReservation k
      | z => exact h.calm hc
    have ho : s.OnlyHalts (updateFor (faultState (recordState s k a rep) k rep) k a) :=
      (State.OnlyHalts.of_legal (recordState_legal s k a rep)).trans
        ((State.OnlyHalts.faultState _ k rep).trans (State.OnlyHalts.updateFor _ k a))
    rw [readState_eq hb]
    refine (hg.runStateRules (fun hn => ho k _ hn hb) fun hf hk => ?_).calm (stateReports_calm ..)
    cases a with
    | x => exact absurd rfl (hf _)
    | z => exact Option.some.inj (hb.symm.trans (hc.unseen hk))

theorem readHeadArrival {s : State} (h : s.Gapped) (k : Nat) : (readHeadArrival s k).Gapped := by
  unfold Machine.readHeadArrival
  split
  · exact h
  · rename_i before hb
    have hc := arrived_calm k s.lineClock .head s
    have hl : (s.modContext k fun c => c.arrived s.lineClock .head).legal = s.legal := modContext_legal (fun _ => rfl) s
    refine (h.calm hc).runStateRules (fun hn => State.OnlyHalts.of_legal hl k _ hn hb) fun _ hk => ?_
    exact Option.some.inj (hb.symm.trans (hc.unseen hk))

/-! Expiries (R14, R16). -/

/-- The stale expiry halts the carriage and whom its widened span is too close to. -/
theorem takeStale {s : State} (h : s.Gapped) (k : Nat) : (takeStale s k).Gapped := by
  by_cases hi : ∃ c d, s.carriage k = some c ∧ s.staleDeadline k = some d ∧ c.ctx.fresh = true ∧
      reached s.lineClock d = true
  · obtain ⟨c, d, hc, hd, hf, hx⟩ := hi
    obtain ⟨ht, hm, r, hr⟩ := reportDeadline_some hc hd
    obtain ⟨held, hv⟩ := Carriage.reservation_of_placed (h.placed k c hc) hm fun hu => by simp [hu, RunState.tracked] at ht
    have hset := enterStale_carriages (r := r) hc hv
    have hrail : (enterStale s k r).rail = s.rail :=
      (congrArg State.rail (enterStale_eq hc hv)).trans ((rail_of_site (setReservation_site ..)).trans rfl)
    generalize hw : held.span.widen s.railLength (dStale r) = wide at hset
    have hspan : (enterStale s k r).span k = some wide := by
      rw [State.span, State.carriage_modify_self hset, hc]
      rfl
    have key {t : State} (hst : (enterStale s k r).Calm t) (ha : ∀ j, j ∈ s.closeNeighbours k wide →
        t.runState k ≠ some .active ∧ t.runState j ≠ some .active) : t.Gapped := by
      refine h.reserve hset hrail hst (fun e he => ?_) fun e v j _ hv hj hact => ?_
      · exact (Carriage.placed_iff _).mpr ⟨((Carriage.placed_iff e).mp (h.placed k e he)).1, fun _ _ => rfl⟩
      · cases hv
        by_contra hn
        obtain ⟨hk, hj⟩ := ha j (mem_closeNeighbours_iff.mpr ⟨hj, Bool.eq_false_iff.mpr hn⟩)
        exact hact.elim hk hj
    rw [takeStale_due hc hr hd hf hx, hspan]
    dsimp only
    rw [closeNeighbours_of_modify hset hrail]
    split
    · rename_i he
      have hempty := List.isEmpty_iff.mp (Bool.and_eq_true _ _ ▸ he).1
      exact key (.refl _) fun j hj => by simp [hempty] at hj
    · exact key (halts_calm ..) fun j hj => ⟨halts_not_active _ _ _ _ _, haltNeighbours_not_active hj⟩
  · rw [takeStale_idle fun c d hc hd => by
      by_contra hn
      simp only [not_or, Bool.not_eq_false] at hn
      exact hi ⟨c, d, hc, hd, hn⟩]
    exact h

/-- The lost expiry leaves its carriage in LOST, and halts whom its frozen span is too close to. -/
theorem takeLost {s : State} (h : s.Gapped) (k : Nat) : (takeLost s k).Gapped := by
  by_cases hi : ∃ c d, s.carriage k = some c ∧ s.lostDeadline k = some d ∧ c.ctx.fresh = false ∧
      reached s.lineClock d = true
  · obtain ⟨c, d, hc, hd, hf, hx⟩ := hi
    obtain ⟨ht, hm, r, hr⟩ := reportDeadline_some hc hd
    obtain ⟨held, hv⟩ := Carriage.reservation_of_placed (h.placed k c hc) hm fun hu => by simp [hu, RunState.tracked] at ht
    have hset := enterLost_carriages (r := r) hc hv
    have hrail : (enterLost s k r).rail = s.rail := rail_of_site (enterLost_keeps hc hv).site
    rw [takeLost_eq hc hv hr hd hf hx rfl]
    have hcalm := haltNeighbours_calm (enterLost s k r)
      (s.closeNeighbours k (held.span.widen s.railLength (stopDistance r s.railLength r.vmax)))
    refine h.reserve hset hrail hcalm (fun e he => ?_) fun e v j _ hv hj hact => ?_
    · cases hc.symm.trans he
      exact (Carriage.placed_iff _).mpr ⟨fun hx => absurd hx hm, fun _ _ => rfl⟩
    · cases hv
      by_contra hn
      rcases hact with hact | hact
      · have := hcalm.active hact
        rw [State.runState, State.carriage_modify_self hset, hc] at this
        cases this
      · exact haltNeighbours_not_active (mem_closeNeighbours_iff.mpr ⟨hj, Bool.eq_false_iff.mpr hn⟩) hact
  · rw [takeLost_idle fun c d hc hd => by
      by_contra hn
      simp only [not_or, Bool.not_eq_false, Bool.not_eq_true] at hn
      exact hi ⟨c, d, hc, hd, hn⟩]
    exact h

end State.Gapped
end Sys2Proof.Machine
end

section
/-! PROOFS. The Head Unit, the line reset and the commands of the cell controller keep the gap: a load is no part of it, a
line reset leaves no carriage ACTIVE, RESUME tests it (R24), and so does EXCLUDED for the park window (R28). -/

namespace Sys2Proof.Machine

/-! The Head Unit. -/

theorem setLoad_calm (s : State) (k : Nat) (l : LoadRecord) : s.Calm (setLoad s k l) :=
  modCarriage_calm fun _ _ => .of_same rfl rfl rfl

theorem emptyLoad_calm (s : State) (k : Nat) : s.Calm (emptyLoad s k) := modCarriage_calm fun _ _ => .of_same rfl rfl rfl

theorem setModules_calm (s : State) (k m : Nat) : s.Calm (setModules s k m) :=
  modCarriage_calm fun _ _ => .of_same rfl rfl rfl

theorem report_calm (s : State) (r : Report) : s.Calm (s.report r) := .of_carriages rfl rfl

theorem placeDown_calm {s t : State} {f : Frame} (h : placeDown s f = some t) : s.Calm t :=
  .of_carriages (placeDown_carriages h) (rail_of_site (placeDown_site h))

theorem refuseGrip_calm (s : State) (k : Nat) (j : Option (Nat × Nat)) (c : Cause) : s.Calm (refuseGrip s k j c).1 :=
  hand_calm ..

theorem handGrip_calm (s : State) (k : Nat) (j : Option (Nat × Nat)) (c : Cause) (d : Detail) :
    s.Calm (handGrip s k j c d) := hand_calm ..

theorem forwardGrip_calm (s : State) (k : Nat) (form : GripForm) (f : Frame) (g : GripFields) (image : Cups)
    (effect : State → State) (he : ∀ u : State, u.Calm (effect u)) :
    s.Calm (forwardGrip s k form f g image effect).1 := by
  unfold forwardGrip
  split
  · exact .refl s
  · rename_i t hp
    have hi : t.Calm (t.modCarriage k fun c => { c with image := image }) :=
      modCarriage_calm fun _ _ => .of_same rfl rfl rfl
    have ht := ((placeDown_calm hp).trans hi).trans (he _)
    dsimp only
    split
    · exact ht
    · exact ht.trans (handGrip_calm ..)

theorem beginLoad_calm (k : Nat) (h : HeadRecord) (j q : Nat) (a : PickAnswer) (image : Cups) (s : State) :
    s.Calm (beginLoad k h j q a image s) := (setLoad_calm s k _).trans (.of_carriages rfl rfl)

theorem beginRelease_calm (k : Nat) (h : HeadRecord) (l : LoadRecord) (b : Bool) (image : Cups) (s : State) :
    s.Calm (beginRelease k h l b image s) := setLoad_calm ..

theorem judgePick_calm (s : State) (k : Nat) (c : Carriage) (h : HeadRecord) (x z : Nat) (form : GripForm) (f : Frame)
    (g : GripFields) (image : Cups) : s.Calm (judgePick s k c h x z form f g image).1 := by
  unfold judgePick
  split
  · exact refuseGrip_calm ..
  · split
    · exact refuseGrip_calm ..
    · dsimp only
      split
      · exact refuseGrip_calm ..
      · split
        · exact refuseGrip_calm ..
        · exact forwardGrip_calm _ _ _ _ _ _ _ (beginLoad_calm _ _ _ _ _ _)

theorem judgeRelease_calm (s : State) (k : Nat) (h : HeadRecord) (l : LoadRecord) (x z : Nat) (form : GripForm)
    (f : Frame) (g : GripFields) (image : Cups) : s.Calm (judgeRelease s k h l x z form f g image).1 := by
  unfold judgeRelease
  split
  · exact refuseGrip_calm ..
  · split
    · exact forwardGrip_calm _ _ _ _ _ _ _ (beginRelease_calm _ _ _ _ _)
    · split
      · split
        · exact refuseGrip_calm ..
        · exact forwardGrip_calm _ _ _ _ _ _ _ (beginRelease_calm _ _ _ _ _)
      · exact refuseGrip_calm ..

theorem judgeGrip_calm (s : State) (k : Nat) (c : Carriage) (form : GripForm) (f : Frame) (g : GripFields) :
    s.Calm (judgeGrip s k c form f g).1 := by
  unfold judgeGrip
  dsimp only
  split
  · split
    · exact forwardGrip_calm _ _ _ _ _ _ _ State.Calm.refl
    · split
      · exact judgePick_calm ..
      · exact refuseGrip_calm ..
  · split
    · exact refuseGrip_calm ..
    · split
      · exact forwardGrip_calm _ _ _ _ _ _ _ fun u => setLoad_calm u k _
      · split
        · exact judgeRelease_calm ..
        · exact refuseGrip_calm ..

theorem gripFrame_calm (s : State) (k : Nat) (form : GripForm) (f : Frame) : s.Calm (gripFrame s k form f).1 := by
  unfold gripFrame
  dsimp only
  split
  · exact refuseGrip_calm ..
  · split
    · exact refuseGrip_calm ..
    · split
      · exact refuseGrip_calm ..
      · split
        · exact refuseGrip_calm ..
        · split
          · exact refuseGrip_calm ..
          · exact judgeGrip_calm ..

/-- The outcome of a pick told, counted, and reported to held moves. -/
theorem tellPick_calm (s : State) (k : Nat) (l : LoadRecord) (c : Cause) (d : Detail)
    (g : CarriageCounters → CarriageCounters) (r : Report) : s.Calm (((handPick s k l c d).countFor k g).report r) :=
  ((hand_calm ..).trans (countFor_calm ..)).trans (report_calm ..)

theorem decideThickness_calm (s : State) (k : Nat) (l : LoadRecord) (t : Thickness) : s.Calm (decideThickness s k l t) := by
  have hl (l : LoadRecord) := setLoad_calm s k l
  cases t with
  | ok =>
    have hb : s.Calm ((setLoad s k { l with phase := .loaded }).modBay l.originBay (·.confirmPick)) :=
      (hl _).trans (.of_carriages rfl rfl)
    exact hb.trans (tellPick_calm ..)
  | double => exact (hl _).trans (tellPick_calm ..)
  | thin => exact (hl _).trans (tellPick_calm ..)

theorem countReading_calm (s : State) (k : Nat) (h : HeadRecord) (l : LoadRecord) (r : Nat) :
    s.Calm (countReading s k h l r) := by
  unfold countReading
  split
  · exact .refl s
  · split
    · exact .refl s
    · dsimp only
      split
      · exact decideThickness_calm ..
      · exact setLoad_calm ..

theorem confirmRelease_calm (s : State) (k : Nat) (l : LoadRecord) : s.Calm (confirmRelease s k l) := by
  have hend {t : State} (ht : s.Calm t) : s.Calm ((emptyLoad t k).report (.loadFree k)) :=
    (ht.trans (emptyLoad_calm ..)).trans (report_calm ..)
  unfold confirmRelease
  refine hend ?_
  split
  · have hq : s.Calm (s.modEntry l.jobSaw l.jobSeq (·.queue)) := .of_carriages rfl rfl
    dsimp only
    split
    · have hb : s.Calm ((s.modEntry l.jobSaw l.jobSeq (·.queue)).modBay l.originBay (·.putBack)) := .of_carriages rfl rfl
      exact hb.trans (hand_calm ..)
    · exact hq.trans (hand_calm ..)
  · have hp : s.Calm ((s.removeEntry l.jobSaw l.jobSeq).modSaw l.jobSaw fun saw => { saw with placed := bump saw.placed }) :=
      .of_carriages rfl rfl
    exact (hp.trans (hand_calm ..)).trans (countFor_calm ..)

theorem takeGripDeadline_calm (s : State) (k : Nat) : s.Calm (takeGripDeadline s k) := by
  unfold takeGripDeadline
  split
  · exact .refl s
  · rename_i l _
    split
    · split
      · have hq : s.Calm (s.modEntry l.jobSaw l.jobSeq (·.queue)) := .of_carriages rfl rfl
        exact ((hq.trans (emptyLoad_calm ..)).trans (hand_calm ..)).trans (report_calm ..)
      · exact .refl s
    · exact .refl s

theorem dropVacuum_calm (s : State) (k : Nat) (l : LoadRecord) : s.Calm (dropVacuum s k l) := by
  have hh := haltCarriage_calm s k .vacuumDrop (some .vacuumDrop)
  have hend {t : State} (ht : s.Calm t) :
      s.Calm (if l.phase = .checking then (emptyLoad t k).report (.loadFree k) else emptyLoad t k) := by
    split
    · exact (ht.trans (emptyLoad_calm ..)).trans (report_calm ..)
    · exact ht.trans (emptyLoad_calm ..)
  unfold dropVacuum
  refine hend ?_
  split
  · exact hh.trans (.of_carriages rfl rfl)
  · exact hh.trans (.of_carriages rfl rfl)

theorem readHead_calm (s : State) (k : Nat) (r : HeadReport) : s.Calm (readHead s k r) := by
  have hs := setModules_calm s k r.modules
  unfold readHead
  dsimp only
  split
  · split
    · split
      · exact hs.trans (setLoad_calm ..)
      · exact hs
    · split
      · exact hs.trans (dropVacuum_calm ..)
      · exact hs.trans (countReading_calm ..)
    · split
      · exact hs.trans (dropVacuum_calm ..)
      · exact hs
    · split
      · exact hs.trans (dropVacuum_calm ..)
      · exact hs
    · split
      · exact hs.trans (confirmRelease_calm ..)
      · exact hs
  · exact hs

theorem takeReleaseDeadline_calm (s : State) (k : Nat) : s.Calm (takeReleaseDeadline s k) := by
  unfold takeReleaseDeadline
  split
  · exact .refl s
  · split
    · split
      · exact (haltCarriage_calm ..).trans (setLoad_calm ..)
      · exact .refl s
    · exact .refl s

/-! Resets (R7, R170). -/

/-- A carriage at a line reset is placed and not ACTIVE: EXCLUDED it is HALTED, otherwise UNSEEN. -/
theorem resetCarriage_rests (s : State) (k : Nat) (c : Carriage) :
    (resetCarriage s k c).placed = true ∧ (resetCarriage s k c).ctx.runState ≠ .active := by
  rw [Carriage.placed_iff]
  by_cases hm : c.ctx.membership = .excluded <;> simp [resetCarriage, Context.lineReset, Context.emptySet, hm]

/-- After a line reset the gap is kept, whatever stood before. -/
theorem lineReset_gapped (s : State) (source : Cause) : (lineReset s source).Gapped := by
  have hr : (resetCarriages (resetPort s)).Gapped := State.Gapped.of_rest fun k d hd => by
    rw [State.carriage, resetCarriages, State.withCarriages_carriages, List.getElem?_mapIdx] at hd
    obtain ⟨c, -, rfl⟩ := Option.map_eq_some_iff.mp hd
    exact resetCarriage_rests ..
  unfold lineReset
  refine State.Gapped.calm (State.Gapped.calm (hr.calm ?_) (hand_calm ..)) (testFences_calm _)
  exact .of_carriages rfl rfl

theorem powerOn_gapped (s : State) (straps : BitVec 6) (a b : Bool) : (powerOn s straps a b).Gapped :=
  State.Gapped.of_rest fun k c hc => by simp [State.carriage, powerOn, State.reset] at hc

/-! Memberships (R25 to R28). -/

theorem setMembership_rail (s : State) (k : Nat) (m : Membership) : (setMembership s k m).rail = s.rail := by
  unfold setMembership
  exact (rail_of_site (handStateChange_site ..)).trans rfl

/-- A membership that is not EXCLUDED, set where none was. -/
theorem setMembership_calm {s : State} {k : Nat} {m : Membership} (hm : m ≠ .excluded)
    (hx : ∀ c, s.carriage k = some c → c.ctx.membership ≠ .excluded) : s.Calm (setMembership s k m) :=
  .of_modify (setMembership_carriages ..) (setMembership_rail ..) fun c hc =>
    ⟨rfl, id, id, fun hp => (c.joined m).placed_iff.mpr
      ⟨fun h => absurd h hm, fun _ => (c.placed_iff.mp hp).2 (hx c hc)⟩⟩

namespace State.Gapped

theorem accept {s : State} (h : s.Gapped) : (accept s).after.Gapped := h

theorem commandHalt {s : State} (h : s.Gapped) (k : Nat) : (commandHalt s k).after.Gapped := by
  unfold Machine.commandHalt
  split
  · exact h
  · exact (h.calm (haltCarriage_calm ..)).accept
  · exact (h.calm (requestStops_calm ..)).accept
  · exact h
  · exact h
  · exact h

/-- RESUME tests the gap before the carriage becomes ACTIVE (R24). -/
theorem commandResume {s : State} (h : s.Gapped) (k : Nat) : (commandResume s k).after.Gapped := by
  unfold Machine.commandResume
  split
  · exact h
  · rename_i c hc
    split
    · exact h
    · rename_i hh
      split
      · rename_i hx
        split
        · rename_i hclear
          have hm : c.ctx.membership = .normal := beq_iff_eq.mp (Bool.and_eq_true _ _ ▸ hx).2
          obtain ⟨held, hv⟩ := Carriage.reservation_of_placed (h.placed k c hc) (by simp [hm]) (by simp [hh])
          have hempty : s.closeNeighbours k held.span = [] := by
            unfold State.clearToResume at hclear
            rw [span_eq hc, hv, Option.map_some] at hclear
            split at hclear
            · rename_i hs _
              cases hs
              exact List.isEmpty_iff.mp (Bool.and_eq_true _ _ ▸ hclear).1
            · cases hclear
          refine accept (h.reserve (State.modCarriage_carriages s k _) rfl (handStateChange_calm ..) (fun d hd => ?_)
            fun d v j hd hw hj _ => ?_)
          · cases hc.symm.trans hd
            refine (Carriage.placed_iff _).mpr ⟨fun hx => ?_, fun _ _ => by rw [hv]; rfl⟩
            cases hm.symm.trans hx
          · cases hc.symm.trans hd
            cases hv.symm.trans hw
            by_contra hn
            have := mem_closeNeighbours_iff.mpr ⟨hj, Bool.eq_false_iff.mpr hn⟩
            simp [hempty] at this
        · exact h
      · exact h
    · exact h
    · exact h
    · exact h

theorem membershipWorking {s : State} (h : s.Gapped) {k : Nat} {c : Carriage} (hc : s.carriage k = some c)
    {m : Membership} (hm : m ≠ .excluded) : (membershipWorking s k c m).after.Gapped := by
  unfold Machine.membershipWorking
  split
  · exact h
  · rename_i hx
    have hs : (Machine.setMembership s k m).Gapped := h.calm (setMembership_calm hm fun d hd => by
      cases hc.symm.trans hd
      exact hx)
    split
    · exact h
    · split
      · split
        · exact h
        · split
          · exact hs
          · exact h
      · exact hs

/-- A HALTED carriage becomes EXCLUDED with a park window that is tested against its neighbours (R28). -/
theorem membershipExcluded {s : State} (h : s.Gapped) {k : Nat} {c : Carriage} (hc : s.carriage k = some c) :
    (membershipExcluded s k c).after.Gapped := by
  unfold Machine.membershipExcluded
  split
  · rename_i park occ _ _
    split
    · exact h
    · rename_i hx
      split
      · exact h
      · rename_i hclose
        have hr : c.ctx.runState = .halted := by
          simp only [Bool.or_eq_true, decide_eq_true_eq, not_or, not_not] at hx
          exact hx.1
        have hempty : s.closeNeighbours k park = [] := by simpa using hclose
        have hset : (Machine.setReservation ((Machine.setMembership s k .excluded).modContext k fun x =>
            { x with fresh := false }) k (some ⟨park, .park⟩)).carriages =
              s.carriages.modify k fun c =>
                { c.joined .excluded with
                  reservation := some ⟨park, .park⟩
                  ctx := { (c.joined .excluded).ctx with fresh := false } } := by
          rw [setReservation_carriages, State.modContext, State.modCarriage_carriages, setMembership_carriages,
            List.modify_modify_eq, List.modify_modify_eq]
          rfl
        have hrail := (rail_of_site (setReservation_site ((Machine.setMembership s k .excluded).modContext k fun x =>
            { x with fresh := false }) k (some ⟨park, .park⟩))).trans (setMembership_rail s k .excluded)
        refine accept (h.reserve hset hrail (.refl _) (fun d hd => ?_) fun d v j _ hv hj _ => ?_)
        · cases hc.symm.trans hd
          exact (Carriage.placed_iff _).mpr ⟨fun _ => hr, fun _ _ => rfl⟩
        · cases hv
          by_contra hn
          have := mem_closeNeighbours_iff.mpr ⟨hj, Bool.eq_false_iff.mpr hn⟩
          simp [hempty] at this
  · exact h

/-- A carriage that leaves EXCLUDED is UNSEEN and has no reservation; one that is isolated otherwise keeps its own. -/
theorem membershipIsolated {s : State} (h : s.Gapped) {k : Nat} {c : Carriage} (hc : s.carriage k = some c) :
    (membershipIsolated s k c).Gapped := by
  unfold Machine.membershipIsolated
  split
  · refine h.reserve (k := k) (g := fun c =>
      { c.joined .isolated with
        reservation := none
        ctx :=
          { (c.joined .isolated).ctx.emptySet with
            runState := .unseen
            unseenOrigin := some .unexclude
            fresh := false
            lastX := none
            lastZ := none
            arrivalX := none
            arrivalZ := none
            arrivalHead := none } }) ?_ ?_ (.refl _) (fun d _ => ?_) fun d v j _ hv => ?_
    · rw [setReservation_carriages, handStateChange_carriages, State.modContext, State.modCarriage_carriages,
        setMembership_carriages, List.modify_modify_eq, List.modify_modify_eq]
      rfl
    · exact (rail_of_site (setReservation_site ..)).trans
        ((rail_of_site (handStateChange_site ..)).trans (setMembership_rail s k .isolated))
    · exact (Carriage.placed_iff _).mpr ⟨nofun, fun _ hu => absurd rfl hu⟩
    · cases hv
  · rename_i hx
    have he := h.calm (endHeld_calm s k .notNormal .absent)
    have hs := he.calm (setMembership_calm (k := k) (m := .isolated) (by simp) fun d hd => by
      rw [State.carriage_modify_self (endHeld_carriages ..), hc] at hd
      cases hd
      exact hx)
    dsimp only
    split
    · exact hs.calm (haltCarriage_calm ..)
    · exact hs

theorem commandMembership {s : State} (h : s.Gapped) (k : Nat) (m : Membership) : (commandMembership s k m).after.Gapped := by
  unfold Machine.commandMembership
  split
  · exact h
  · rename_i c hc
    split
    · exact h
    · split
      · exact h.membershipWorking hc (by simp)
      · exact h.membershipWorking hc (by simp)
      · exact h.membershipIsolated hc
      · exact h.membershipExcluded hc

/-! The other commands (R83, R85, R108, R118, R130). -/

theorem commandClearFaults {s : State} (h : s.Gapped) (k : Nat) : (commandClearFaults s k).after.Gapped := by
  unfold Machine.commandClearFaults
  split
  · exact h
  · split
    · exact h
    · exact h.calm (modCarriage_calm fun c _ => .of_same rfl rfl rfl)

theorem setFence {s : State} (h : s.Gapped) (i : Nat) (f : Fence) (st : FenceState) : (setFence s i f st).Gapped :=
  State.Gapped.calm (s := s.withFences (s.fences.set i { f with state := st })) (h.of_carriages rfl rfl) (hand_calm ..)

theorem commandFenceOn {s : State} (h : s.Gapped) (i : Nat) : (commandFenceOn s i).after.Gapped := by
  unfold Machine.commandFenceOn
  split
  · exact h
  · split
    · exact h.setFence ..
    · exact h
    · exact h

theorem commandFenceOff {s : State} (h : s.Gapped) (i : Nat) : (commandFenceOff s i).after.Gapped := by
  unfold Machine.commandFenceOff
  split
  · exact h
  · split
    · exact h
    · exact (h.setFence ..).calm (report_calm ..)
    · exact (h.setFence ..).calm (report_calm ..)

end State.Gapped

/-- Both of two answers keep the gap, so a choice of them does. -/
theorem ite_gapped {c : Prop} [Decidable c] {a b : Answer} (ha : a.after.Gapped) (hb : b.after.Gapped) :
    (if c then a else b).after.Gapped := by
  split <;> assumption

namespace State.Gapped

theorem commandBayRestock {s : State} (h : s.Gapped) (b : Nat) : (commandBayRestock s b).after.Gapped := by
  unfold Machine.commandBayRestock
  split
  · exact h
  · exact ite_gapped h (h.of_carriages rfl rfl)

theorem commandRetire {s : State} (h : s.Gapped) (j q : Nat) : (commandRetire s j q).after.Gapped := by
  unfold Machine.commandRetire
  split
  · exact h
  · split
    · exact h
    · exact ite_gapped h (h.of_carriages rfl rfl)

theorem commandRequeue {s : State} (h : s.Gapped) (j q : Nat) : (commandRequeue s j q).after.Gapped := by
  unfold Machine.commandRequeue
  split
  · exact h
  · split
    · exact h
    · exact ite_gapped (h.of_carriages rfl rfl) h

theorem indexed {s : State} (h : s.Gapped) (bound size : Nat) (ops : List Byte) {owner : Nat → Answer}
    (ho : ∀ k, (owner k).after.Gapped) : (indexed s bound size ops owner).after.Gapped :=
  ite_gapped h (ite_gapped h (ho _))

theorem decodeMembership {s : State} (h : s.Gapped) (ops : List Byte) : (decodeMembership s ops).after.Gapped := by
  refine h.indexed _ _ _ fun k => ?_
  split
  · exact h
  · exact h.commandMembership ..

theorem issueCommand {s : State} (h : s.Gapped) (code : Nat) (ops : List Byte) : (issueCommand s code ops).after.Gapped :=
  ite_gapped (h.decodeMembership ops) <| ite_gapped (h.indexed _ _ _ h.commandHalt) <|
    ite_gapped (h.indexed _ _ _ h.commandResume) <| ite_gapped (h.indexed _ _ _ h.commandClearFaults) <|
    ite_gapped (h.indexed _ _ _ h.commandFenceOn) <| ite_gapped (h.indexed _ _ _ h.commandFenceOff) <|
    ite_gapped (h.indexed _ _ _ h.commandBayRestock) <| ite_gapped (h.indexed _ _ _ fun j => h.commandRetire j _) <|
    ite_gapped (h.indexed _ _ _ fun j => h.commandRequeue j _) <|
    ite_gapped (ite_gapped h (lineReset_gapped s .command).accept) h

end State.Gapped
end Sys2Proof.Machine
end

section
/-! PROOFS. Table writes, requests, the frames of both ports, the pins and time keep the gap, and with that every step does
(R34, R42). -/

namespace Sys2Proof.Machine

/-! Reservations recomputed (R5, R52). -/

/-- A recomputed reservation makes no carriage ACTIVE. -/
theorem active_of_recompute {s : State} {j k : Nat} (hj : (recompute s k).runState j = some .active) :
    s.runState j = some .active := by
  unfold recompute at hj
  split at hj
  · exact hj
  · split at hj
    · exact hj
    · exact State.Gapped.active_of_setReservation (haltNeighbours_calm ..) hj

namespace State.Gapped

/-- The reservation of a carriage that is not ACTIVE recomputed: whom it comes too close to is halted. -/
theorem recompute {s : State} (h : s.Gapped) {k : Nat} (hk : s.runState k ≠ some .active) : (recompute s k).Gapped := by
  unfold Machine.recompute
  split
  · exact h
  · split
    · exact h
    · have ht := haltNeighbours_calm (Machine.setReservation s k (some (recomputed s k ‹_›)))
        (s.closeNeighbours k (recomputed s k ‹_›).span)
      refine h.setReservation ht fun j hj hact => ?_
      by_contra hn
      rcases hact with hact | hact
      · exact hk (active_of_setReservation ht hact)
      · exact haltNeighbours_not_active (mem_closeNeighbours_iff.mpr ⟨hj, Bool.eq_false_iff.mpr hn⟩) hact

theorem recomputeAll {s : State} (h : s.Gapped) (hr : ∀ j, s.runState j ≠ some .active) (l : List Nat) :
    (l.foldl Machine.recompute s).Gapped := by
  induction l generalizing s with
  | nil => exact h
  | cons k l ih => exact ih (h.recompute (hr k)) fun j hj => hr j (active_of_recompute hj)

/-- A RAIL write on an idle line, where no carriage is ACTIVE, may change G and the carriages installed (R2, R3). -/
theorem applyRail {s : State} (h : s.Gapped) (hi : s.lineIdle = true) (r : RailRecord) : (applyRail s r).Gapped := by
  have hrest : ∀ k c, ({ s with rail := some r, carriages := resizeCarriages s.carriages r.n } : State).carriage k = some c →
      c.placed = true ∧ c.ctx.runState ≠ .active := by
    intro k c hc
    rcases List.mem_append.mp (List.mem_of_getElem? hc) with hm | hm
    · have hm := List.mem_of_mem_take hm
      obtain ⟨i, hi'⟩ := List.getElem?_of_mem hm
      have hidle := List.all_eq_true.mp hi c hm
      simp only [Bool.and_eq_true, bne_iff_ne] at hidle
      exact ⟨h.placed i c hi', hidle.1.2⟩
    · rw [(List.mem_replicate.mp hm).2]
      exact ⟨rfl, nofun⟩
  have hs := State.Gapped.of_rest hrest
  unfold Machine.applyRail
  refine State.Gapped.calm ?_ (testFences_calm _)
  split
  · exact hs
  · refine hs.recomputeAll (fun j hj => ?_) _
    obtain ⟨c, hc, ha⟩ := Option.map_eq_some_iff.mp hj
    exact (hrest j c hc).2 ha

/-! Table writes (R157). -/

theorem setRole {s : State} (h : s.Gapped) (a : Nat) (e : Option Role) : (setRole s a e).Gapped := by
  unfold Machine.setRole
  dsimp only
  split <;> exact h.of_carriages rfl rfl

theorem writeNodeMap {s : State} (h : s.Gapped) (i : Nat) (b : List Byte) : (writeNodeMap s i b).after.Gapped := by
  refine ite_gapped h (ite_gapped h ?_)
  split
  · exact h
  · exact ite_gapped h (ite_gapped h (h.setRole ..))

theorem writeRail {s : State} (h : s.Gapped) (i : Nat) (b : List Byte) : (writeRail s i b).after.Gapped := by
  refine ite_gapped h (ite_gapped h (ite_gapped h ?_))
  by_cases hi : s.lineIdle = true
  · exact ite_gapped h (ite_gapped h (h.applyRail hi _).accept)
  · rw [if_pos (by simpa using hi)]
    exact h

/-- A carriage whose record may be written is not ACTIVE (R5). -/
theorem not_active_of_configurable {s : State} {k : Nat} {c : Carriage} (hc : s.carriage k = some c)
    (hf : c.configurable = true) : s.runState k ≠ some .active := by
  intro ha
  rw [runState_eq hc] at ha
  simp [Carriage.configurable, Option.some.inj ha] at hf

theorem writeCarriage {s : State} (h : s.Gapped) (i : Nat) (b : List Byte) : (writeCarriage s i b).after.Gapped := by
  refine ite_gapped h (ite_gapped h ?_)
  split
  · exact h
  · rename_i r _
    have hs : (setRecord s i r).Gapped := h.of_carriages rfl rfl
    refine ite_gapped h ?_
    split
    · exact hs
    · rename_i c hc
      by_cases hf : c.configurable = true
      · refine ite_gapped h (ite_gapped h ?_)
        unfold afterRecord
        show State.Gapped (if _ then _ else _)
        split
        · exact hs.calm (modContext_calm (g := (·.emptySet)) (fun _ => ⟨rfl, rfl⟩) _)
        · split
          · exact hs
          · exact hs.recompute (not_active_of_configurable (s := setRecord s i r) hc hf)
      · rw [if_pos (by simpa using hf)]
        exact h

theorem writeSaw {s : State} (h : s.Gapped) (i : Nat) (b : List Byte) : (writeSaw s i b).after.Gapped := by
  unfold Machine.writeSaw
  split
  · exact h
  · exact ite_gapped h (ite_gapped h (ite_gapped h (h.of_carriages rfl rfl)))

theorem writeBay {s : State} (h : s.Gapped) (i : Nat) (b : List Byte) : (writeBay s i b).after.Gapped := by
  unfold Machine.writeBay
  split
  · exact h
  · refine ite_gapped h ?_
    split
    · exact h
    · exact ite_gapped h (ite_gapped h (h.of_carriages rfl rfl))

theorem writeQueue {s : State} (h : s.Gapped) (i : Nat) (b : List Byte) : (writeQueue s i b).after.Gapped := by
  unfold Machine.writeQueue
  split
  · exact h
  · exact ite_gapped h (ite_gapped h (ite_gapped h (ite_gapped h (h.of_carriages rfl rfl))))

theorem writeFence {s : State} (h : s.Gapped) (i : Nat) (b : List Byte) : (writeFence s i b).after.Gapped := by
  unfold Machine.writeFence
  split
  · exact h
  · exact ite_gapped h (ite_gapped h (ite_gapped h (h.of_carriages rfl rfl)))

theorem writeLamp {s : State} (h : s.Gapped) (i : Nat) (b : List Byte) : (writeLamp s i b).after.Gapped := by
  refine ite_gapped h (ite_gapped h ?_)
  split
  · exact h.of_carriages rfl rfl
  · exact h

theorem writeHead {s : State} (h : s.Gapped) (i : Nat) (b : List Byte) : (writeHead s i b).after.Gapped :=
  ite_gapped h (ite_gapped h (ite_gapped h (ite_gapped h (h.of_carriages rfl rfl))))

theorem writeCupLayout {s : State} (h : s.Gapped) (i : Nat) (b : List Byte) : (writeCupLayout s i b).after.Gapped :=
  ite_gapped h (ite_gapped h (ite_gapped h (ite_gapped h (h.of_carriages rfl rfl))))

theorem writeTable {s : State} (h : s.Gapped) (table i : Nat) (b : List Byte) : (writeTable s table i b).after.Gapped :=
  ite_gapped (h.writeNodeMap ..) <| ite_gapped (h.writeRail ..) <| ite_gapped (h.writeCarriage ..) <|
    ite_gapped (h.writeHead ..) <| ite_gapped (h.writeCupLayout ..) <| ite_gapped (h.writeSaw ..) <|
    ite_gapped (h.writeBay ..) <| ite_gapped (h.writeQueue ..) <| ite_gapped (h.writeFence ..) <|
    ite_gapped (h.writeLamp ..) h

/-! Reads (R158 to R162). -/

theorem readRecord {s : State} (h : s.Gapped) (r : Option (List Byte)) (ops : List Byte) :
    (readRecord s r ops).after.Gapped := by
  unfold Machine.readRecord
  split
  · exact h
  · exact ite_gapped h h

theorem readQueue {s : State} (h : s.Gapped) (i : Nat) (ops : List Byte) : (readQueue s i ops).after.Gapped := by
  unfold Machine.readQueue
  split
  · exact h
  · refine ite_gapped h (ite_gapped h (ite_gapped h ?_))
    split <;> exact h

theorem readCarriageStatus {s : State} (h : s.Gapped) (i : Nat) (ops : List Byte) :
    (readCarriageStatus s i ops).after.Gapped := by
  unfold Machine.readCarriageStatus
  split
  · exact h
  · exact ite_gapped h (ite_gapped h h)

theorem readPartStatus {s : State} (h : s.Gapped) (i : Nat) (ops : List Byte) : (readPartStatus s i ops).after.Gapped :=
  ite_gapped h (ite_gapped h (h.of_carriages rfl rfl))

end State.Gapped

/-- The counters of a group, written back. -/
theorem counterGroup_calm {s : State} {g i : Nat} {all : List Nat} {wb : List Nat → State}
    (h : counterGroup s g i = some (all, wb)) (l : List Nat) : s.Calm (wb l) := by
  unfold counterGroup at h
  split at h
  · split at h
    · cases h
      exact .of_carriages rfl rfl
    · cases h
  · split at h
    · split at h
      · cases h
        exact .of_carriages rfl rfl
      · cases h
    · split at h
      · obtain ⟨c, -, hc⟩ := Option.map_eq_some_iff.mp h
        cases hc
        exact countFor_calm ..
      · obtain ⟨c, -, hc⟩ := Option.map_eq_some_iff.mp h
        cases hc
        exact .of_carriages rfl rfl

namespace State.Gapped

theorem readCounters {s : State} (h : s.Gapped) (i : Nat) (ops : List Byte) : (readCounters s i ops).after.Gapped := by
  unfold Machine.readCounters
  split
  · exact h
  · split
    · exact h
    · rename_i hg
      split
      · exact h
      · split
        · dsimp only
          split
          · exact h.calm (counterGroup_calm hg _)
          · exact h
        · exact h

theorem readTable {s : State} (h : s.Gapped) (table i : Nat) (ops : List Byte) : (readTable s table i ops).after.Gapped :=
  ite_gapped (h.readRecord ..) <| ite_gapped (h.readRecord ..) <| ite_gapped (h.readRecord ..) <|
    ite_gapped (h.readRecord ..) <| ite_gapped (h.readRecord ..) <| ite_gapped (h.readRecord ..) <|
    ite_gapped (h.readRecord ..) <| ite_gapped (h.readQueue ..) <| ite_gapped (h.readRecord ..) <|
    ite_gapped (h.readRecord ..) <| ite_gapped (h.readCarriageStatus ..) <| ite_gapped (h.readRecord ..) <|
    ite_gapped (h.readPartStatus ..) <| ite_gapped (h.readCounters ..) h

/-! Requests taken (R154). -/

theorem carryOut {s : State} (h : s.Gapped) (f : Frame) : (carryOut s f).after.Gapped := by
  unfold Machine.carryOut
  split
  · split
    · exact h.issueCommand ..
    · exact h
  · split
    · split
      · exact h.writeTable ..
      · exact h.readTable ..
    · exact h
    · exact h

theorem takeRequest {s : State} (h : s.Gapped) : (takeRequest s).Gapped := by
  unfold Machine.takeRequest
  split
  · exact h
  · rename_i f rest _
    have ht : (s.withManagement { s.management with requests := rest }).Gapped := h.of_carriages rfl rfl
    exact of_carriages (ht.carryOut f).finish rfl rfl

theorem takeRequests {s : State} (h : s.Gapped) (n : Nat) : (takeRequests n s).Gapped := by
  induction n generalizing s with
  | zero => exact h
  | succ n ih =>
    unfold Machine.takeRequests
    split
    · exact h
    · exact ih h.takeRequest

theorem serveRequests {s : State} (h : s.Gapped) : (serveRequests s).Gapped := h.takeRequests _

/-! Port U (R144). -/

theorem passDown {s : State} (h : s.Gapped) (f : Frame) : (passDown s f).1.Gapped := by
  unfold Machine.passDown
  split
  · exact h
  · rename_i hp
    exact h.calm (placeDown_calm hp)

theorem acceptRequest {s : State} (h : s.Gapped) (f : Frame) : (acceptRequest s f).1.Gapped := by
  unfold Machine.acceptRequest
  extract_lets allowed
  by_cases ha : (!allowed) = true
  · rwa [if_pos ha]
  · rw [if_neg ha]
    split
    · exact h.of_carriages rfl rfl
    · exact h

theorem takeStop {s : State} (h : s.Gapped) (k : Nat) (a : Axis) (f : Frame) : (takeStop s k a f).Gapped := by
  have he : s.Calm (enterControllerStop s f.dst.toNat f) := by
    unfold enterControllerStop
    split <;> exact .of_carriages rfl rfl
  exact h.calm (((he.trans (clearActive_calm ..)).trans (endHeld_calm ..)).trans (withdrawMoves_calm ..))

theorem routeMove {s : State} (h : s.Gapped) (f : Frame) : (routeMove s f).1.Gapped := by
  unfold Machine.routeMove
  split
  · exact h
  · split
    · exact h.passDown f
    · exact h.admitMove ..
    · exact h.admitMove ..
    · exact h
    · exact h
    · exact h

theorem routeGrip {s : State} (h : s.Gapped) (form : GripForm) (f : Frame) : (routeGrip s form f).1.Gapped := by
  unfold Machine.routeGrip
  split
  · exact h
  · split
    · exact h.passDown f
    · exact h.calm (gripFrame_calm ..)
    · exact h
    · exact h
    · exact h
    · exact h

theorem routeStop {s : State} (h : s.Gapped) (f : Frame) : (routeStop s f).1.Gapped := by
  unfold Machine.routeStop
  split
  · exact h.takeStop ..
  · exact h.takeStop ..
  · exact h.passDown f
  · exact h.passDown f
  · exact h.passDown f
  · exact h.passDown f

theorem routeU {s : State} (h : s.Gapped) (f : Frame) : (routeU s f).1.Gapped := by
  unfold Machine.routeU
  split
  · split
    · exact h.acceptRequest f
    · exact h
  · split
    · exact h.routeMove f
    · split
      · exact h.routeGrip ..
      · split
        · exact h.routeStop f
        · exact h.passDown f

/-! Port D (R146). -/

theorem readReport {s : State} (h : s.Gapped) (f : Frame) : (readReport s f).Gapped := by
  unfold Machine.readReport
  split
  · unfold readStateFrame
    split
    · exact h.readState ..
    · exact h.readState ..
    · exact h
  · split
    · unfold readSenseHead
      split
      · split
        · exact h
        · exact (h.readHeadArrival _).calm (readHead_calm ..)
      · exact h
    · split
      · unfold readSenseSaw
        split
        · exact h.of_carriages rfl rfl
        · exact h
      · exact h

theorem passUp {s : State} (h : s.Gapped) (f : Frame) : (passUp s f).1.Gapped := by
  unfold Machine.passUp
  split
  · exact h.of_carriages rfl rfl
  · exact h

theorem routeD {s : State} (h : s.Gapped) (f : Frame) : (routeD s f).1.Gapped := by
  unfold Machine.routeD
  split
  · exact h
  · exact (h.readReport f).passUp f

/-! Reception and transmission. -/

theorem setReceiver {s : State} (h : s.Gapped) (p : Port) (r : Receiver) : (setReceiver s p r).Gapped := by
  cases p <;> exact h.of_carriages rfl rfl

theorem countAt {s : State} (h : s.Gapped) (p : Port) (f : PortCounters → PortCounters) : (countAt s p f).Gapped := by
  cases p <;> exact h.of_carriages rfl rfl

theorem routeAndCount {s : State} (h : s.Gapped) (p : Port) (f : Frame) : (routeAndCount s p f).Gapped := by
  cases p with
  | u => exact (h.routeU f).countAt .u (·.addRouting (Machine.routeU s f).2)
  | d => exact (h.routeD f).countAt .d (·.addRouting (Machine.routeD s f).2)

theorem receiveU {s : State} (h : s.Gapped) (f : Frame) : (receiveU s f).Gapped := by
  have hs := h.setReceiver .u .between
  unfold Machine.receiveU
  dsimp only
  split
  · exact hs.countAt ..
  · unfold goodU
    dsimp only
    split
    · exact (hs.routeAndCount ..).serveRequests
    · exact hs.routeAndCount ..

theorem request {s : State} (h : s.Gapped) (kind src seq : Byte) (payload : List Byte) :
    (request s kind src seq payload).Gapped := h.receiveU _

theorem receiveD {s : State} (h : s.Gapped) (f : Frame) : (receiveD s f).Gapped := by
  have hs := h.setReceiver .d .between
  unfold Machine.receiveD
  dsimp only
  split
  · exact hs.countAt ..
  · exact hs.routeAndCount ..

theorem endFrame {s : State} (h : s.Gapped) (p : Port) (bytes : List Byte) : (endFrame s p bytes).Gapped := by
  have hs := h.setReceiver p .between
  unfold Machine.endFrame
  split
  · exact hs.countAt ..
  · exact hs.countAt ..
  · exact hs.countAt ..
  · cases p with
    | u => exact h.receiveU _
    | d => exact h.receiveD _

theorem endStray {s : State} (h : s.Gapped) (p : Port) (e : StrayEnd) : (endStray s p e).Gapped := by
  unfold Machine.endStray
  split
  · exact h
  · cases e with
    | gap => exact h.countAt ..
    | marker => exact (h.countAt ..).setReceiver ..

theorem startStop {s : State} (h : s.Gapped) : (startStop s).Gapped := by
  unfold Machine.startStop
  split
  · exact h.of_carriages rfl rfl
  · exact h

theorem startDown {s : State} (h : s.Gapped) : (startDown s).Gapped := by
  unfold Machine.startDown
  split
  · exact h.of_carriages ((reportRoom_carriages _).trans rfl) ((rail_of_site (reportRoom_site _)).trans rfl)
  · exact h

theorem endTransmission {s : State} (h : s.Gapped) (p : Port) : (endTransmission s p).Gapped := by
  unfold Machine.endTransmission
  split
  · exact h
  · have hs : (Machine.countAt (setTransmitter s p .free) p (·.addSent)).Gapped := by
      cases p <;> exact h.of_carriages rfl rfl
    dsimp only
    split
    · exact hs.of_carriages rfl rfl
    · exact hs

theorem startUp {s : State} (h : s.Gapped) : (startUp s).Gapped := by
  unfold Machine.startUp
  split
  · exact h.of_carriages rfl rfl
  · exact h

theorem startReply {s : State} (h : s.Gapped) : (startReply s).Gapped := by
  unfold Machine.startReply
  split
  · exact State.Gapped.serveRequests (h.of_carriages rfl rfl)
  · exact h

theorem startNotice {s : State} (h : s.Gapped) : (startNotice s).Gapped := by
  unfold Machine.startNotice
  split
  · exact h.of_carriages rfl rfl
  · exact h

/-! Pins and time. -/

theorem setLrst {s : State} (h : s.Gapped) (high : Bool) : (setLrst s high).Gapped := h.of_carriages rfl rfl

theorem setEstop {s : State} (h : s.Gapped) (high : Bool) : (setEstop s high).Gapped := h.of_carriages rfl rfl

theorem assertEstop {s : State} (h : s.Gapped) : (assertEstop s).Gapped := by
  refine foldl (fun t k ht => ?_) _ ((h.setEstop false).calm (hand_calm ..))
  unfold emergencyStop
  split
  · exact ht.calm (haltCarriage_calm ..)
  · exact ht.calm (requestStops_calm ..)
  · exact ht

theorem releaseEstop {s : State} (h : s.Gapped) : (releaseEstop s).Gapped := (h.setEstop true).calm (hand_calm ..)

theorem forgetArrival {s : State} (h : s.Gapped) (r : Role) : (forgetArrival s r).Gapped := by
  cases r with
  | saw j => exact h.of_carriages rfl rfl
  | controller => exact h
  | xDrive k => exact h.calm (modContext_calm (g := fun c => { c with arrivalX := none }) (fun _ => ⟨rfl, rfl⟩) s)
  | zDrive k => exact h.calm (modContext_calm (g := fun c => { c with arrivalZ := none }) (fun _ => ⟨rfl, rfl⟩) s)
  | head k => exact h.calm (modContext_calm (g := fun c => { c with arrivalHead := none }) (fun _ => ⟨rfl, rfl⟩) s)

theorem passPoint {s : State} (h : s.Gapped) (b : Blink) : (passPoint s b).Gapped := by
  cases b <;> exact h.of_carriages rfl rfl

theorem takeRoomReport {s : State} (h : s.Gapped) : (takeRoomReport s).Gapped := by
  unfold Machine.takeRoomReport
  split
  · exact h.of_carriages rfl rfl
  · exact h

/-- A choice between an effect and none. -/
theorem ite {s t : State} (h : s.Gapped) (ht : t.Gapped) {c : Prop} [Decidable c] : (if c then t else s).Gapped := by
  split <;> assumption

/-! Every command and every step. -/

/-- The effect of every command keeps the gap. -/
theorem effectOf {s : State} (h : s.Gapped) (i : Instr) : (Machine.effectOf i s).Gapped := by
  cases i with
  | powerOnReset a b c => exact h
  | resetNLow => exact h
  | lrstNAssertion => exact h.ite (lineReset_gapped _ .lrstN)
  | lrstNRise => exact h.ite (h.setLrst true)
  | estopAssertion => exact h.ite h.assertEstop
  | estopRelease => exact h.ite h.releaseEstop
  | strayRun p ending => exact h.endStray p ending
  | startMarker p => exact h.setReceiver p .inFrame
  | frameDropped p collected => exact h.endFrame p collected
  | state dst src seq payload => exact h.receiveD _
  | senseHead dst src seq payload => exact h.receiveD _
  | senseSaw dst src seq payload => exact h.receiveD _
  | upstreamForward kind dst src seq payload => exact h.receiveD _
  | staleExpiry k => exact h.takeStale k
  | lostExpiry k => exact h.takeLost k
  | holdTimeout k => exact h.ite (h.calm (endHeld_calm ..))
  | gripDeadline k => exact h.calm (takeGripDeadline_calm ..)
  | releaseDeadline k => exact h.calm (takeReleaseDeadline_calm ..)
  | arrivalTimeAbsent role => exact h.ite (h.forgetArrival role)
  | waitingForRoom => exact h.takeRoomReport
  | stopSend => exact h.startStop
  | dForwardSend => exact h.startDown
  | frameSent p => exact h.endTransmission p
  | uForwardSend => exact h.startUp
  | mgReply => exact h.startReply
  | notice => exact h.startNotice
  | blinkPeriod b => exact h.ite (h.passPoint b)
  | move dst src seq payload => exact h.receiveU _
  | grip form dst src seq payload => exact h.receiveU _
  | stop dst src seq payload => exact h.receiveU _
  | param kind dst src seq payload => exact h.receiveU _
  | mgRequest kind dst src seq payload => exact h.receiveU _
  | _ => exact h.request _ _ _ _

/-- Every command keeps the gap. -/
theorem exec {s t : State} (h : s.Gapped) (i : Instr) (ht : exec i s = .next t) : t.Gapped := by
  by_cases hp : ∃ a b c, i = .powerOnReset a b c
  · obtain ⟨a, b, c, rfl⟩ := hp
    cases ht
    exact powerOn_gapped ..
  · by_cases hr : i = .resetNLow
    · subst hr
      cases ht
      exact h.of_carriages rfl rfl
    · rw [exec_eq_live i s (fun a b c hx => hp ⟨a, b, c, hx⟩) hr, live] at ht
      split at ht
      · cases ht
        exact h
      · cases ht
        exact (h.effectOf i).finish

/-- Every step keeps the gap. -/
theorem step {s t : State} (h : s.Gapped) (ht : step s = .next t) : t.Gapped := by
  unfold Machine.step at ht
  split at ht
  · rename_i rest _
    exact State.Gapped.exec (h.of_carriages (t := { s with pending := rest }) rfl rfl) _ ht
  · split at ht
    · exact h.exec _ ht
    · cases ht
      unfold tick
      split
      · exact h
      · exact h.of_carriages rfl rfl

end State.Gapped

/-- Settles O56: a span is stored only where it was tested against the neighbours, or for a carriage that the same step
leaves not ACTIVE, with the neighbours that it comes too close to halted. -/
theorem gapKeptByEveryStep : Obligations.GapKeptByEveryStep :=
  fun s t hg ht => t.gapKept_iff.mpr ((s.gapKept_iff.mp hg).step ht)

end Sys2Proof.Machine
end

section
/-! PROOFS. A MOVE for the drive of a carriage, from its frame to its verdict (R55, R56, R61, R66, R71): what the
membership and the judgement make of it, and the step that it is. -/

namespace Sys2Proof.Machine

/-! A move handed to its slot (R71). -/

/-- The held move that a MOVE becomes when it enters the slot: its deadline, and the next entry stamp (R70, R71). -/
def State.heldEntry (s : State) (holdTime : Nat) (axis : Axis) (m : MoveFields) (a : BlockedAction) (w : Waiting) :
    HeldMove :=
  { axis := axis
    target := m.target
    speed := m.speed
    tag := m.tag
    action := if axis = .z then .wait else a
    cause := w.cause
    side := w.side
    blocker := w.blocker
    arrival := s.lineClock
    deadline := s.lineClock + BitVec.ofNat 32 holdTime
    stamp := s.stampCounter
    lastClamped := w.lastClamped
    waitingForRoom := false }

/-- A carriage whose slot a move enters, counted (R66, R71). -/
def Carriage.holding (h : HeldMove) (c : Carriage) : Carriage :=
  { c with slot := some h, ctx := { c.ctx with counters := { c.ctx.counters with held := bump c.ctx.counters.held } } }

/-- The state after a move has entered the slot of carriage `k`, and its verdict is told (R66, R71). -/
def enterHeld (s : State) (k : Nat) (h : HeldMove) : State :=
  hand ((s.modCarriage k (·.holding h)).withStamps (s.stampCounter + 1)) .verdict (some k) (.tag h.tag) .held
    (.cause h.cause)

/-- A move handed to its slot is refused DEADLOCK, or enters it (R71, R72). -/
theorem holdMove_eq (s : State) (k : Nat) (axis : Axis) (m : MoveFields) (a : BlockedAction) (w : Waiting) :
    holdMove s k axis m a w =
      if s.waitsOnEachOther k w.blocker then verdictRefused s k m.tag .deadlock
      else enterHeld s k (s.heldEntry (((s.record k).map (·.holdTime)).getD 0) axis m a w) := by
  refine if_congr Iff.rfl rfl ?_
  show hand (((s.modCarriage k _).modCarriage k _).withStamps _) .verdict _ _ .held _ = _
  rw [modCarriage_modCarriage]
  rfl

theorem holdMove_deadlock {s : State} {k : Nat} {w : Waiting} (h : s.waitsOnEachOther k w.blocker = true) (axis : Axis)
    (m : MoveFields) (a : BlockedAction) : holdMove s k axis m a w = verdictRefused s k m.tag .deadlock := by
  rw [holdMove_eq, if_pos h]

theorem holdMove_entered {s : State} {k : Nat} {r : CarriageRecord} {w : Waiting}
    (h : s.waitsOnEachOther k w.blocker = false) (hr : s.record k = some r) (axis : Axis) (m : MoveFields)
    (a : BlockedAction) : holdMove s k axis m a w = enterHeld s k (s.heldEntry r.holdTime axis m a w) := by
  rw [holdMove_eq, if_neg (Bool.eq_false_iff.mp h), hr]
  rfl

/-- The deadlock check, as R72 says it. -/
theorem waitsOnEachOther_iff {s : State} {k : Nat} {b : Option Blocker} :
    s.waitsOnEachOther k b = true ↔
      ∃ j h, b = some (.carriage j) ∧ (s.carriage j).bind (·.slot) = some h ∧ h.blocker = some (.carriage k) := by
  unfold State.waitsOnEachOther State.held
  split
  · rename_i j
    cases hj : (s.carriage j).bind (·.slot) <;> simp [hj]
  · rename_i hne
    simp only [Bool.false_eq_true, false_iff]
    rintro ⟨j, h, rfl, -⟩
    exact hne j rfl

/-- Where no carriage blocks, there is no deadlock. -/
theorem waitsOnEachOther_none (s : State) (k : Nat) : s.waitsOnEachOther k none = false := rfl

@[simp] theorem verdictRefused_reports (s : State) (k : Nat) (tag : Byte) (cause : Cause) :
    (verdictRefused s k tag cause).reports = s.reports := hand_reports ..

@[simp] theorem enterHeld_reports (s : State) (k : Nat) (h : HeldMove) : (enterHeld s k h).reports = s.reports :=
  hand_reports ..

@[simp] theorem handShadow_reports (s : State) (k : Nat) (tag : Byte) (cause : Cause) (detail : Detail) :
    (handShadow s k tag cause detail).reports = s.reports := hand_reports ..

/-! The receiver, which no verdict looks at. -/

theorem verdictRefused_heardU (s : State) (k : Nat) (tag : Byte) (cause : Cause) :
    verdictRefused s.heardU k tag cause = (verdictRefused s k tag cause).heardU := hand_heardU (countRefused s k) ..

theorem verdictClamped_heardU (s : State) (k : Nat) (tag : Byte) (target : Nat) :
    verdictClamped s.heardU k tag target = (verdictClamped s k tag target).heardU := hand_heardU (countClamped s k) ..

theorem handShadow_heardU (s : State) (k : Nat) (tag : Byte) (cause : Cause) (detail : Detail) :
    handShadow s.heardU k tag cause detail = (handShadow s k tag cause detail).heardU := hand_heardU ..

theorem setVirtual_heardU (s : State) (k : Nat) (axis : Axis) (x : Nat) :
    setVirtual s.heardU k axis x = (setVirtual s k axis x).heardU := by
  cases axis <;> rfl

theorem endHeld_heardU (s : State) (k : Nat) (cause : Cause) (detail : Detail) :
    endHeld s.heardU k cause detail = (endHeld s k cause detail).heardU := by
  cases hs : (s.carriage k).bind (·.slot) with
  | none => rw [endHeld_empty hs, endHeld_empty (s := s.heardU) hs]
  | some h =>
    rw [endHeld_held hs, endHeld_held (s := s.heardU) hs]
    exact hand_heardU (s.modCarriage k _) ..

theorem holdMove_heardU (s : State) (k : Nat) (axis : Axis) (m : MoveFields) (a : BlockedAction) (w : Waiting) :
    holdMove s.heardU k axis m a w = (holdMove s k axis m a w).heardU := by
  rw [holdMove_eq, holdMove_eq, apply_ite State.heardU]
  exact if_congr Iff.rfl (verdictRefused_heardU ..) (hand_heardU ((s.modCarriage k _).withStamps _) ..)

theorem forwardMove_heardU (s : State) (k : Nat) (axis : Axis) (f : Frame) (target : Nat) (tag : Byte) :
    forwardMove s.heardU k axis f target tag = (forwardMove s k axis f target tag).map State.heardU := by
  have hroom : placeDown s.heardU f = (placeDown s f).map State.heardU := by
    rw [placeDown_eq, placeDown_eq, apply_ite (Option.map State.heardU)]
    rfl
  rw [forwardMove_eq, forwardMove_eq, hroom, Option.map_map, Option.map_map]
  exact congrArg (Option.map · _) (funext fun t => sentMove_heardU t ..)

theorem decideBlocked_heardU (s : State) (k : Nat) (f : Frame) (m : MoveFields) (a : BlockedAction) (b : Block) :
    decideBlocked s.heardU k f m a b = (decideBlocked s k f m a b).map State.heardU id := by
  unfold decideBlocked
  split
  · rw [forwardMove_heardU]
    cases forwardMove s k .x _ _ m.tag with
    | none => rfl
    | some t =>
      dsimp only [Option.map_some]
      rw [verdictClamped_heardU, holdMove_heardU]
      split <;> rfl
  · rw [holdMove_heardU, verdictRefused_heardU]
    split <;> rfl

theorem decideMove_heardU (s : State) (k : Nat) (axis : Axis) (f : Frame) (m : MoveFields) (a : BlockedAction) :
    decideMove s.heardU k axis f m a = (decideMove s k axis f m a).map State.heardU id := by
  unfold decideMove
  rw [show judge s.heardU k false axis m.target m.speed = judge s k false axis m.target m.speed from rfl]
  split
  · rw [verdictRefused_heardU]
    rfl
  · rw [holdMove_heardU, verdictRefused_heardU]
    split <;> rfl
  · exact decideBlocked_heardU ..
  · rw [forwardMove_heardU]
    cases forwardMove s k axis _ _ m.tag with
    | none => rfl
    | some t =>
      dsimp only [Option.map_some]
      rw [verdictClamped_heardU]
      split <;> rfl

theorem shadowMove_heardU (s : State) (k : Nat) (axis : Axis) (m : MoveFields) (a : BlockedAction) :
    shadowMove s.heardU k axis m a = (shadowMove s k axis m a).heardU := by
  unfold shadowMove
  rw [show judge s.heardU k true axis m.target m.speed = judge s k true axis m.target m.speed from rfl]
  split
  · exact handShadow_heardU ..
  · split <;> exact handShadow_heardU ..
  · dsimp only
    rw [setVirtual_heardU]
    split <;> exact handShadow_heardU ..
  · split
    · dsimp only
      rw [setVirtual_heardU, handShadow_heardU, handShadow_heardU]
      split <;> rfl
    · split <;> exact handShadow_heardU ..

/-! A MOVE by membership (R55, R56). -/

section
variable {s : State} {k : Nat} {axis : Axis} {f : Frame}

theorem admitMove_absent (hc : s.carriage k = none) :
    admitMove s k axis f = (handVerdict s k (f.payload.headD 0) .refused (.cause .notNormal), .good) := by
  simp [admitMove, hc]

variable {c : Carriage} (hc : s.carriage k = some c)
include hc

theorem admitMove_notNormal (hm : c.ctx.membership = .isolated ∨ c.ctx.membership = .excluded) :
    admitMove s k axis f = (verdictRefused s k (f.payload.headD 0) .notNormal, .good) := by
  rcases hm with hm | hm <;> simp [admitMove, hc, hm]

/-- A MOVE of a wrong length, axis or action for a NORMAL carriage that holds none (R176). -/
theorem admitMove_badField (hn : c.ctx.membership = .normal) (hs : c.slot = none)
    (hb : ∀ m, parseMove f.payload = some m → m.action = none ∨ m.axis ≠ some axis) :
    admitMove s k axis f = (verdictRefused s k (f.payload.headD 0) .badField, .good) := by
  have he : endHeld s k .superseded .absent = s := endHeld_empty (by simp [hc, hs]) ..
  cases hm : parseMove f.payload with
  | none => simp [admitMove, hc, hn, he, hm]
  | some m =>
    cases ha : m.action with
    | none => simp [admitMove, hc, hn, he, hm, ha]
    | some a =>
      have hx : m.axis ≠ some axis := (hb m hm).resolve_left (by simp [ha])
      simp [admitMove, hc, hn, he, hm, ha, hx]

/-- A held move that a MOVE finds ends SUPERSEDED, and the MOVE is then judged as with an EMPTY slot (R71). -/
theorem admitMove_superseded (hn : c.ctx.membership = .normal) :
    admitMove (endHeld s k .superseded .absent) k axis f = admitMove s k axis f := by
  have hc' : (endHeld s k .superseded .absent).carriage k = some c.unheld := by
    rw [State.carriage_modify_self (endHeld_carriages ..), hc, Option.map_some]
  have he : endHeld (endHeld s k .superseded .absent) k .superseded .absent = endHeld s k .superseded .absent :=
    endHeld_empty (by rw [hc']; rfl) ..
  simp only [admitMove, hc, hc', hn, show c.unheld.ctx.membership = .normal from hn, he]

/-- A MOVE of a wrong length, axis or action for a SHADOW carriage (R56). -/
theorem admitMove_shadow_badField (hn : c.ctx.membership = .shadow)
    (hb : ∀ m, parseMove f.payload = some m → m.action = none ∨ m.axis ≠ some axis) :
    admitMove s k axis f = (handShadow s k (f.payload.headD 0) .refused (.cause .badField), .good) := by
  cases hm : parseMove f.payload with
  | none => simp [admitMove, hc, hn, hm]
  | some m =>
    cases ha : m.action with
    | none => simp [admitMove, hc, hn, hm, ha]
    | some a =>
      have hx : m.axis ≠ some axis := (hb m hm).resolve_left (by simp [ha])
      simp [admitMove, hc, hn, hm, ha, hx]

/-- Every other MOVE for a SHADOW carriage is only judged and reported (R67, R68). -/
theorem admitMove_shadow (hn : c.ctx.membership = .shadow) {m : MoveFields} {a : BlockedAction}
    (hm : parseMove f.payload = some m) (hx : m.axis = some axis) (ha : m.action = some a) :
    admitMove s k axis f = (shadowMove s k axis m a, .good) := by
  simp [admitMove, hc, hn, hm, hx, ha]

end

theorem admitMove_heardU (s : State) (k : Nat) (axis : Axis) (f : Frame) :
    admitMove s.heardU k axis f = (admitMove s k axis f).map State.heardU id := by
  have hb (t : State) (tag : Byte) (cause : Cause) : (verdictRefused t.heardU k tag cause, Routing.good) =
      ((verdictRefused t k tag cause, Routing.good) : State × Routing).map State.heardU id := by
    rw [verdictRefused_heardU]
    rfl
  have hs (tag : Byte) (cause : Cause) : (handShadow s.heardU k tag .refused (.cause cause), Routing.good) =
      ((handShadow s k tag .refused (.cause cause), Routing.good) : State × Routing).map State.heardU id := by
    rw [handShadow_heardU]
    rfl
  unfold admitMove
  rw [show s.heardU.carriage k = s.carriage k from rfl]
  dsimp only
  split
  · exact congrArg (·, Routing.good) (hand_heardU s ..)
  · split
    · exact hb s _ _
    · exact hb s _ _
    · split
      · split
        · split
          · exact congrArg (·, Routing.good) (shadowMove_heardU ..)
          · exact hs _ _
        · exact hs _ _
      · exact hs _ _
    · rw [endHeld_heardU]
      split
      · split
        · split
          · exact decideMove_heardU ..
          · exact hb _ _ _
        · exact hb _ _ _
      · exact hb _ _ _

/-! The step that a MOVE is (R144). -/

section
variable {s : State} {k : Nat} {axis : Axis} {dst src seq : Byte} {payload : List Byte} (h : s.Running)
  (hp : payload.length ≤ 48) (ho : ¬s.Own dst) (hb : dst.toNat ≠ 63) (hr : s.roleOf dst.toNat = some (driveRole k axis))
include h hp ho hb hr

/-- A MOVE carried out: admitted, counted by what that came to, and its reports acted on. -/
theorem exec_move {t : State} {r : Routing} (ht : admitMove s k axis ⟨dst, src, Kind.move, seq, payload⟩ = (t, r)) :
    exec (.move dst src seq payload) s = .next (finish (t.tookU r)) := by
  have hrec : receiveU s ⟨dst, src, Kind.move, seq, payload⟩ = t.tookU r :=
    receiveU_move (t := t.heardU) hp ho hb hr (by rw [admitMove_heardU, ht]; rfl)
  exact live_running h (g := fun s => receiveU s ⟨dst, src, Kind.move, seq, payload⟩) hrec

/-- A MOVE that makes no report. -/
theorem exec_move_settled {t : State} {r : Routing}
    (ht : admitMove s k axis ⟨dst, src, Kind.move, seq, payload⟩ = (t, r)) (hn : t.reports = []) :
    exec (.move dst src seq payload) s = .next (t.tookU r) := by
  rw [exec_move h hp ho hb hr ht, finish_of_settled (s := t.tookU r) hn]

/-- A MOVE refused: counted, with its notice, and nothing else (R66). -/
theorem exec_move_refused {tag : Byte} {cause : Cause}
    (ht : admitMove s k axis ⟨dst, src, Kind.move, seq, payload⟩ = (verdictRefused s k tag cause, .good)) :
    exec (.move dst src seq payload) s = .next ((verdictRefused s k tag cause).tookU .good) :=
  exec_move_settled h hp ho hb hr ht (by simp [h.settled])

end

/-! A MOVE for a NORMAL carriage by its judgement (R57, R61). -/

theorem BlockedAction.waits_iff {a : BlockedAction} : a.waits = true ↔ a = .wait ∨ a = .clampWait := by
  cases a <;> decide

section
variable {s : State} {k : Nat} {axis : Axis} {f : Frame} {m : MoveFields} {a : BlockedAction}

theorem decideMove_refuse {cause : Cause} (hj : judge s k false axis m.target m.speed = .refuse cause) :
    decideMove s k axis f m a = (verdictRefused s k m.tag cause, .good) := by
  simp [decideMove, hj]

theorem decideMove_blocked {b : Block} (hj : judge s k false axis m.target m.speed = .blocked b) :
    decideMove s k axis f m a = decideBlocked s k f m a b := by
  simp [decideMove, hj]

variable {cause : Cause} (hj : judge s k false axis m.target m.speed = .waitable cause)
include hj

/-- A precondition that may be waited for is refused where the action does not wait, -/
theorem decideMove_waitable_refused (ha : a.waits = false) :
    decideMove s k axis f m a = (verdictRefused s k m.tag cause, .good) := by
  simp [decideMove, hj, ha]

/-- and held for without side and blocker where it does. -/
theorem decideMove_waitable_held {r : CarriageRecord} (hr : s.record k = some r) (ha : a.waits = true) :
    decideMove s k axis f m a =
      (enterHeld s k (s.heldEntry r.holdTime axis m a ⟨cause, none, none, none⟩), .good) := by
  have hh := holdMove_entered (w := ⟨cause, none, none, none⟩) (waitsOnEachOther_none s k) hr axis m a
  simp [decideMove, hj, ha, hh]

end

end Sys2Proof.Machine
end

section
/-! PROOFS. What refuses a MOVE or makes it wait, precondition by precondition, in the order of R57, R63, R64 and R65. -/

namespace Sys2Proof.Machine

/-! The preconditions that every move shares (R57). -/

theorem judge_estop {s : State} (he : s.inputs.emergency = true) (k : Nat) (shadow : Bool) (axis : Axis)
    (target speed : Nat) : judge s k shadow axis target speed = .refuse .estop := by
  simp [judge, he]

theorem judge_notActive {s : State} {k : Nat} {c : Carriage} (he : s.inputs.emergency = false)
    (hc : s.carriage k = some c) (ha : c.ctx.runState ≠ .active) (axis : Axis) (target speed : Nat) :
    judge s k false axis target speed = .refuse .notActive := by
  cases hr : s.record k with
  | none => simp [judge, he, hc, hr]
  | some r =>
    cases hx : c.standing false with
    | none => simp [judge, he, hc, hr, hx]
    | some st => simp [judge, he, hc, hr, hx, Carriage.mayMove, ha]

theorem judge_stale {s : State} {k : Nat} {c : Carriage} {r : CarriageRecord} {x : AxisReport}
    (he : s.inputs.emergency = false) (hc : s.carriage k = some c) (hr : s.record k = some r)
    (hx : c.ctx.lastX = some x) (ha : c.ctx.runState = .active) (hf : c.ctx.fresh = false) (axis : Axis)
    (target speed : Nat) : judge s k false axis target speed = .refuse .stale := by
  simp [judge, he, hc, hr, Carriage.standing, hx, Carriage.mayMove, ha, hf]

/-! What a carriage's context and load are asked. -/

theorem Carriage.loadIn_iff {c : Carriage} {phases : List LoadPhase} :
    c.loadIn phases = true ↔ ∃ l, c.load = some l ∧ l.phase ∈ phases := by
  unfold Carriage.loadIn
  cases c.load <;> simp

/-- A load in none of some states is in none of fewer. -/
theorem Carriage.loadIn_of_subset {c : Carriage} {phases more : List LoadPhase} (h : ¬c.loadIn more = true)
    (hs : phases ⊆ more) : c.loadIn phases = false :=
  Bool.eq_false_iff.mpr fun hp =>
    h (Carriage.loadIn_iff.mpr ((Carriage.loadIn_iff.mp hp).imp fun _ hx => ⟨hx.1, hs hx.2⟩))

theorem Carriage.headLow_iff {c : Carriage} {r : CarriageRecord} :
    c.headLow r = true ↔
      (∀ z, c.ctx.lastZ = some z → z.position < r.zClear) ∨ ∃ z, c.ctx.activeZ = some z ∧ z.target < r.zClear := by
  rw [Carriage.headLow, Bool.or_eq_true]
  refine or_congr ?_ ?_
  · cases c.ctx.lastZ <;> simp
  · cases c.ctx.activeZ <;> simp

theorem Carriage.lowers_iff {c : Carriage} {r : CarriageRecord} {target : Nat} :
    c.lowers r target = true ↔ ∃ z, c.ctx.lastZ = some z ∧ target < z.position ∧ target < r.zClear := by
  unfold Carriage.lowers
  cases c.ctx.lastZ <;> simp

theorem Carriage.xAtRest_iff {c : Carriage} {r : CarriageRecord} {x : AxisReport} (hx : c.ctx.lastX = some x) :
    c.xAtRest r = true ↔ ¬(c.ctx.activeX ≠ none ∨ r.vStill < x.velocity.natAbs) := by
  simp [Carriage.xAtRest, hx]

/-! An X MOVE (R57). -/

section
variable {s : State} {k : Nat} {c : Carriage} {r : CarriageRecord} {st : Standing} {target speed : Nat}

theorem judgeX_headLow (hl : c.headLow r = true) : judgeX s k c r st target speed = .waitable .headLow := by
  simp [judgeX, hl]

variable (hl : ¬c.headLow r = true)
include hl

theorem judgeX_loadBusy (hb : c.loadIn [.gripping, .checking, .releasing] = true) :
    judgeX s k c r st target speed = .waitable .loadBusy := by
  simp [judgeX, hl, hb]

theorem judgeX_loadRejected (hb : c.loadIn [.rejected] = true) :
    judgeX s k c r st target speed = .refuse .loadRejected := by
  obtain ⟨l, hload, hphase⟩ := Carriage.loadIn_iff.mp hb
  have hbusy : c.loadIn [.gripping, .checking, .releasing] = false :=
    loadIn_eq_false fun l' hl' => by
      cases hload.symm.trans hl'
      simp [List.mem_singleton.mp hphase]
  simp [judgeX, hl, hbusy, hb]

variable (hb : ¬c.loadIn [.gripping, .checking, .releasing, .rejected] = true)
include hb

/-- An X MOVE whose load does not hinder it is refused for a speed limit of 0, -/
theorem judgeX_badField (hs : speed = 0) : judgeX s k c r st target speed = .refuse .badField := by
  have hbusy : c.loadIn [.gripping, .checking, .releasing] = false := Carriage.loadIn_of_subset hb (by decide)
  have hrejected : c.loadIn [.rejected] = false := Carriage.loadIn_of_subset hb (by decide)
  simp [judgeX, hl, hbusy, hrejected, hs]

/-- and put to the fit test with its clamped target and speed limit otherwise (R59). -/
theorem judgeX_fit (hs : speed ≠ 0) :
    judgeX s k c r st target speed =
      judgeFit s k r st (clampTarget r target) (clampSpeed r speed)
        (clampTarget r target != target || clampSpeed r speed != speed) := by
  have hbusy : c.loadIn [.gripping, .checking, .releasing] = false := Carriage.loadIn_of_subset hb (by decide)
  have hrejected : c.loadIn [.rejected] = false := Carriage.loadIn_of_subset hb (by decide)
  simp [judgeX, hl, hbusy, hrejected, hs]

end

/-! A Z MOVE (R63, R64). -/

section
variable {c : Carriage} {r : CarriageRecord} {target speed : Nat}

theorem judgeRaise_loadBusy (hb : c.loadIn [.gripping, .releasing] = true) :
    judgeRaise c r target speed = .waitable .loadBusy := by
  simp [judgeRaise, hb]

theorem judgeRaise_badField (hb : ¬c.loadIn [.gripping, .releasing] = true) (hs : speed = 0) :
    judgeRaise c r target speed = .refuse .badField := by
  simp [judgeRaise, hb, hs]

variable {s : State} {k : Nat} {st : Standing} {shadow : Bool}

theorem judgeLowering_loadBusy (hb : c.loadIn [.gripping, .checking, .releasing] = true) :
    judgeLowering s k c r st shadow target speed = .waitable .loadBusy := by
  simp [judgeLowering, hb]

variable (hb : ¬c.loadIn [.gripping, .checking, .releasing] = true)
include hb

theorem judgeLowering_xMoving (hx : ¬c.xAtRest r = true) :
    judgeLowering s k c r st false target speed = .waitable .xMoving := by
  simp [judgeLowering, hb, hx]

theorem judgeLowering_badField (hx : c.xAtRest r = true) (hs : speed = 0) :
    judgeLowering s k c r st shadow target speed = .refuse .badField := by
  simp [judgeLowering, hb, hx, hs]

/-- A lowering is refused with what the window under it objects (R65). -/
theorem judgeLowering_window (hx : c.xAtRest r = true) (hs : speed ≠ 0) {cause : Cause}
    (hf : loweringFloor s k c st.x = .error cause) :
    judgeLowering s k c r st shadow target speed = .refuse cause := by
  simp [judgeLowering, hb, hx, hs, hf]

end

/-! The window under a lowering (R65). -/

section
variable {s : State} {k p : Nat} {c : Carriage}

theorem sawAt_eq_none (h : ∀ j, ¬s.InSawWindow p j) : s.sawAt p = none := by
  cases hj : s.sawAt p with
  | none => rfl
  | some j => exact absurd (sawAt_eq_some.mp hj).1 (h j)

theorem loweringFloor_noWindow (hb : ∀ b, ¬s.InBayWindow p b) (hj : ∀ j, ¬s.InSawWindow p j) :
    loweringFloor s k c p = .error .noWindow := by
  simp [loweringFloor, bayAt_eq_none hb, sawAt_eq_none hj]

theorem loweringFloor_objection {b : Nat} {bay : Bay} {cause : Cause} (ho : s.OverBay p b) (hb : s.bays[b]? = some bay)
    (hx : bayObjection bay b c.load = some cause) : loweringFloor s k c p = .error cause := by
  simp [loweringFloor, bayAt_eq_some.mpr ho, hb, hx]

theorem loweringFloor_noLoad {j : Nat} (ho : s.OverSaw p j) (hl : ¬c.loadIn [.loaded] = true) :
    loweringFloor s k c p = .error .noLoad := by
  obtain ⟨saw, cfg, hs, hc, -⟩ := ho.2.1
  cases hload : c.load with
  | none => simp [loweringFloor, bayAt_eq_none ho.1, sawAt_eq_some.mpr ho.2, hs, hc, hload]
  | some l =>
    have hp : l.phase ≠ .loaded := fun hp => hl (Carriage.loadIn_iff.mpr ⟨l, hload, by simp [hp]⟩)
    simp [loweringFloor, bayAt_eq_none ho.1, sawAt_eq_some.mpr ho.2, hs, hc, hload, hp]

end

section
variable {bay : Bay} {b : Nat} {load : Option LoadRecord}

theorem bayObjection_restock (h : bay.state = .restock) : bayObjection bay b load = some .bayRestock := by
  simp [bayObjection, h]

variable (ho : ¬∃ l, load = some l ∧ l.originBay = b)
include ho

/-- An EMPTY bay objects to all but the panel that came from it, -/
theorem bayObjection_empty (h : bay.state = .empty) : bayObjection bay b load = some .bayEmpty := by
  cases load with
  | none => simp [bayObjection, h]
  | some l =>
    have hl : l.originBay ≠ b := fun hl => ho ⟨l, rfl, hl⟩
    simp [bayObjection, h, LoadRecord.fromBay, hl]

/-- and an ACTIVE one to a panel that came from another. -/
theorem bayObjection_wrongBay (h : bay.state = .active) (hload : load ≠ none)
    (hp : ∀ l, load = some l → l.phase = .loaded ∨ l.phase = .rejected) :
    bayObjection bay b load = some .wrongBay := by
  obtain ⟨l, rfl⟩ := Option.ne_none_iff_exists'.mp hload
  have hl : l.originBay ≠ b := fun hl => ho ⟨l, rfl, hl⟩
  simp [bayObjection, h, hp l rfl, hl]

end

/-- A load that is not being gripped, checked or released is carried. -/
theorem Carriage.carried_of_not_busy {c : Carriage} (hb : ¬c.loadIn [.gripping, .checking, .releasing] = true)
    {l : LoadRecord} (hl : c.load = some l) : l.phase = .loaded ∨ l.phase = .rejected := by
  have hn : l.phase ∉ [LoadPhase.gripping, .checking, .releasing] := fun h => hb (Carriage.loadIn_iff.mpr ⟨l, hl, h⟩)
  cases hp : l.phase <;> simp_all

/-! The refusals. -/

/-- A held move that a MOVE finds ends SUPERSEDED, and the step is that of the MOVE with an EMPTY slot (R71). -/
theorem exec_move_superseded {s : State} {k : Nat} {axis : Axis} {dst src seq : Byte} {payload : List Byte}
    {c : Carriage} {held : HeldMove} (h : s.Running) (hp : payload.length ≤ 48) (ho : ¬s.Own dst) (hb : dst.toNat ≠ 63)
    (hr : s.roleOf dst.toNat = some (driveRole k axis)) (hc : s.carriage k = some c) (hn : c.ctx.membership = .normal)
    (hs : c.slot = some held) :
    exec (.move dst src seq payload) s =
      exec (.move dst src seq payload)
        (hand (s.changed k fun c => { c with slot := none }) .holdEnd (some k) (.tag held.tag) .superseded .absent) := by
  have hend : endHeld s k .superseded .absent =
      hand (s.changed k fun c => { c with slot := none }) .holdEnd (some k) (.tag held.tag) .superseded .absent :=
    endHeld_held (by simp [hc, hs]) ..
  have hrun : (endHeld s k .superseded .absent).Running := by
    rw [hend, hand_eq]
    exact ⟨h.running, h.settled⟩
  have hport : (endHeld s k .superseded .absent).port = s.port := by rw [hend, hand_eq]; rfl
  have hown : ¬(endHeld s k .superseded .absent).Own dst := by rwa [State.Own, hport]
  have hrole : (endHeld s k .superseded .absent).roleOf dst.toNat = some (driveRole k axis) := by
    rwa [State.roleOf, hport]
  rw [← hend, exec_move h hp ho hb hr rfl, exec_move hrun hp hown hb hrole (admitMove_superseded hc hn)]

/-- Settles O14: each precondition by its own lemma on the judgement, and what a verdict or a held move leaves by
`exec_move_refused` and `decideMove_waitable_held`. -/
theorem moveRefused : Obligations.MoveRefused := by
  unfold Obligations.MoveRefused
  intro s k dst src seq payload h hp ho hb
  refine ⟨fun axis hr hc => exec_move_settled h hp ho hb hr (admitMove_absent hc) ((hand_reports ..).trans h.settled),
    fun c hc => ?_⟩
  intro refused
  refine ⟨fun axis hr hm => exec_move_refused h hp ho hb hr (admitMove_notNormal hc hm),
    fun axis hr hn hs hbad => exec_move_refused h hp ho hb hr (admitMove_badField hc hn hs hbad),
    fun axis held hr hn hs => exec_move_superseded h hp ho hb hr hc hn hs, ?_⟩
  intro axis m a hr hn hs hm hx ha judged fails
  have hadmit := admitMove_normal (f := ⟨dst, src, Kind.move, seq, payload⟩) hc hn hs hm hx ha
  have refuse {cause : Cause} (hj : judge s k false axis m.target m.speed = .refuse cause) : fails cause := by
    have he := exec_move_refused h hp ho hb hr (hadmit.trans (decideMove_refuse hj))
    rw [← parseMove_tag hm] at he
    exact ⟨he, hj⟩
  refine ⟨fun he => refuse (judge_estop he ..), fun he hact => refuse (judge_notActive he hc hact ..), ?_⟩
  intro r x hrec hlast waits loaded waitsOn
  have wait {cause : Cause} (hj : judge s k false axis m.target m.speed = .waitable cause) : waitsOn cause := by
    refine ⟨hj, fun hw => ?_, fun hw => ?_⟩
    · have he := exec_move_refused h hp ho hb hr
        (hadmit.trans (decideMove_waitable_refused hj (Bool.eq_false_iff.mpr (mt BlockedAction.waits_iff.mp hw))))
      rw [← parseMove_tag hm] at he
      exact he
    · exact exec_move_settled h hp ho hb hr
        (hadmit.trans (decideMove_waitable_held hj hrec (BlockedAction.waits_iff.mpr hw)))
        ((hand_reports ..).trans h.settled)
  refine ⟨fun he hact hf => refuse (judge_stale he hc hrec hlast hact hf ..), fun he hact hf => ?_⟩
  intro low lowering moving
  have hjx := judge_x hc hrec hlast he hact hf m.target m.speed
  have hjz := judge_z hc hrec hlast he hact hf m.target m.speed
  refine ⟨?_, ?_, ?_⟩
  · rintro rfl
    refine ⟨fun hlow => wait (hjx.trans (judgeX_headLow (Carriage.headLow_iff.mpr hlow))), fun hlow hl => ?_,
      fun hlow hl => ?_, fun hlow hl h0 => ?_⟩
    · exact wait (hjx.trans (judgeX_loadBusy (mt Carriage.headLow_iff.mp hlow) (Carriage.loadIn_iff.mpr hl)))
    · exact refuse (hjx.trans (judgeX_loadRejected (mt Carriage.headLow_iff.mp hlow) (Carriage.loadIn_iff.mpr hl)))
    · exact refuse
        (hjx.trans (judgeX_badField (mt Carriage.headLow_iff.mp hlow) (mt Carriage.loadIn_iff.mp hl) h0))
  · rintro rfl hup
    rw [if_neg (mt Carriage.lowers_iff.mp hup)] at hjz
    exact ⟨fun hl => wait (hjz.trans (judgeRaise_loadBusy (Carriage.loadIn_iff.mpr hl))),
      fun hl h0 => refuse (hjz.trans (judgeRaise_badField (mt Carriage.loadIn_iff.mp hl) h0))⟩
  · rintro rfl hdown
    rw [if_pos (Carriage.lowers_iff.mpr hdown)] at hjz
    refine ⟨fun hl => wait (hjz.trans (judgeLowering_loadBusy (Carriage.loadIn_iff.mpr hl))), fun hl => ?_⟩
    have hfree : ¬c.loadIn [.gripping, .checking, .releasing] = true := mt Carriage.loadIn_iff.mp hl
    refine ⟨fun hmove =>
        wait (hjz.trans (judgeLowering_xMoving hfree fun hr => (Carriage.xAtRest_iff hlast).mp hr hmove)),
      fun hstill h0 => refuse (hjz.trans (judgeLowering_badField hfree ((Carriage.xAtRest_iff hlast).mpr hstill) h0)),
      fun hstill h0 => ?_⟩
    have window {cause : Cause} (hw : loweringFloor s k c x.position = .error cause) : fails cause :=
      refuse (hjz.trans (judgeLowering_window hfree ((Carriage.xAtRest_iff hlast).mpr hstill) h0 hw))
    refine ⟨fun hnb hns => window (loweringFloor_noWindow hnb hns), fun b bay hover hbay => ?_,
      fun j hover hnl => window (loweringFloor_noLoad hover (mt Carriage.loadIn_iff.mp hnl))⟩
    intro own
    exact ⟨fun hst => window (loweringFloor_objection hover hbay (bayObjection_restock hst)),
      fun hst hno => window (loweringFloor_objection hover hbay (bayObjection_empty hno hst)),
      fun hst hload hno => window (loweringFloor_objection hover hbay
        (bayObjection_wrongBay hno hst hload fun _ => Carriage.carried_of_not_busy hfree))⟩

end Sys2Proof.Machine
end

section
/-! PROOFS. An X MOVE that does not fit its free limits: the block it meets, and what its blocked action makes of it
(R58 to R61, R70 to R72). -/

namespace Sys2Proof.Machine

/-! The block (R53, R54, R58, R59). -/

/-- The block that an X move meets: the side that its span passes, both sides the side of travel, with that limit's
blocker and the shorter target of R38. -/
def State.blockOf (s : State) (k : Nat) (r : CarriageRecord) (st : Standing) (x speed : Nat) : Block :=
  let occ := occupancy r s.railLength st.x
  let e := envelope r s.railLength st.x st.v
  let span := e.hull (occupancy r s.railLength x)
  let left := s.leftFree k occ
  let right := s.rightFree k occ
  let side : Side :=
    if span.lo < left.value ∧ right.value < span.hi then (if x < st.x then .left else .right)
    else if span.lo < left.value then .left
    else .right
  { side := side
    blocker := if side = .left then left.blocker else right.blocker
    shorter := shorterTarget r st.x x left.value right.value e
    rightward := decide (st.x < x)
    speed := speed }

section
variable {s : State} {k : Nat} {r : CarriageRecord} {st : Standing} {x speed : Nat} {clamped : Bool}

theorem judgeFit_fenced
    (hf : s.fencedTarget (occupancy r s.railLength st.x) (occupancy r s.railLength x) = true) :
    judgeFit s k r st x speed clamped = .refuse .fenced := by
  simp [judgeFit, hf]

theorem judgeFit_blocked
    (hf : s.fencedTarget (occupancy r s.railLength st.x) (occupancy r s.railLength x) = false)
    (ho : ((envelope r s.railLength st.x st.v).hull (occupancy r s.railLength x)).lo <
        (s.leftFree k (occupancy r s.railLength st.x)).value ∨
      (s.rightFree k (occupancy r s.railLength st.x)).value <
        ((envelope r s.railLength st.x st.v).hull (occupancy r s.railLength x)).hi) :
    judgeFit s k r st x speed clamped = .blocked (s.blockOf k r st x speed) := by
  unfold judgeFit
  dsimp only
  rw [if_neg (Bool.eq_false_iff.mp hf), if_neg]
  · simp only [Bool.and_eq_true, decide_eq_true_eq]
    rfl
  · simp only [Bool.and_eq_true, Bool.not_eq_true', decide_eq_false_iff_not]
    exact fun hn => ho.elim hn.1 hn.2

end

/-! The blocked action (R58, R60, R61). -/

/-- What follows a MOVE forwarded to a shorter target: CLAMPED is told, and where the action waits the rest of the MOVE
is handed to the slot (R60, R61). -/
def tellShorter (k : Nat) (m : MoveFields) (a : BlockedAction) (b : Block) (x' : Nat) (s : State) : State :=
  if a.waits then holdMove (verdictClamped s k m.tag x') k .x m a ⟨.blocked, some b.side, b.blocker, some x'⟩
  else verdictClamped s k m.tag x'

section
variable {s : State} {k : Nat} {f : Frame} {m : MoveFields} {a : BlockedAction} {b : Block}

/-- Without a shorter target to take, a blocked MOVE is handed to the slot or refused. -/
theorem decideBlocked_still (hx : a.clamps = true → b.shorter = none) :
    decideBlocked s k f m a b =
      (if a.waits then holdMove s k .x m a ⟨.blocked, some b.side, b.blocker, none⟩
        else verdictRefused s k m.tag a.blockedCause, .good) := by
  have hn : (if a.clamps then b.shorter else none) = none := by
    split
    · exact hx ‹_›
    · rfl
  simp only [decideBlocked, hn]
  split <;> rfl

variable {x' : Nat} (ha : a.clamps = true) (hx : b.shorter = some x')
include ha hx

theorem decideBlocked_full (hq : 8 ≤ s.port.dForward.length) : decideBlocked s k f m a b = (s, .overrun) := by
  simp [decideBlocked, ha, hx, forwardMove_eq, placeDown_eq, Nat.not_lt.mpr hq]

/-- With a shorter target and room, a blocked MOVE is forwarded to it. -/
theorem decideBlocked_sent (hq : s.port.dForward.length < 8) :
    decideBlocked s k f m a b =
      (tellShorter k m a b x'
        (sentMove (s.sentDown (rewriteMove f m.tag .x x' b.speed a true)) k .x x' m.tag), .good) := by
  simp only [decideBlocked, ha, hx, if_true, forwardMove_eq, placeDown_eq, if_pos hq, Option.map_some, tellShorter]
  split <;> rfl

end

/-! The reports of a shorter target's reservation, which wake no held move (R43, R74). -/

namespace State.Local

variable {s : State} {k : Nat} {f : State → State}

/-- An operation that adds no report leaves those that stand. -/
theorem silent (h : s.Local k 0 f) (rs : List Report) : f (s.withReports rs) = (f s).withReports rs := by
  obtain ⟨l, -, hl, hf⟩ := h.reports
  rw [hf, List.length_eq_zero_iff.mp (Nat.le_zero.mp hl), List.append_nil]

theorem silent_reports (h : s.Local k 0 f) : (f s).reports = s.reports := by
  have hs := congrArg State.reports (h.silent s.reports)
  exact hs

theorem verdictRefused (s : State) (k : Nat) (tag : Byte) (cause : Cause) :
    s.Local k 0 (Machine.verdictRefused · k tag cause) := (modCarriage s k _).andThen (hand ..)

theorem verdictClamped (s : State) (k : Nat) (tag : Byte) (x : Nat) : s.Local k 0 (Machine.verdictClamped · k tag x) :=
  (modCarriage s k _).andThen (hand ..)

theorem enterHeld (s : State) (k : Nat) (m : HeldMove) : s.Local k 0 (Machine.enterHeld · k m) :=
  of_silent (fun _ hj => State.carriage_modify_ne (hand_carriages ..) hj) fun _ =>
    hand_withReports ((s.modCarriage k (·.holding m)).withStamps (s.stampCounter + 1)) ..

theorem holdMove (s : State) (k : Nat) (axis : Axis) (m : MoveFields) (a : BlockedAction) (w : Waiting) :
    s.Local k 0 (Machine.holdMove · k axis m a w) := by
  cases hd : s.waitsOnEachOther k w.blocker with
  | true => exact (verdictRefused s k m.tag .deadlock).congr fun rs => holdMove_deadlock (s := s.withReports rs) hd ..
  | false =>
    refine (enterHeld s k (s.heldEntry (((s.record k).map (·.holdTime)).getD 0) axis m a w)).congr fun rs => ?_
    exact (holdMove_eq ..).trans (if_neg (Bool.eq_false_iff.mp hd))

theorem tellShorter (s : State) (k : Nat) (m : MoveFields) (a : BlockedAction) (b : Block) (x' : Nat) :
    s.Local k 0 (Machine.tellShorter k m a b x') := by
  cases ha : a.waits with
  | true =>
    exact ((verdictClamped s k m.tag x').andThen (holdMove ..)).congr fun rs => by rw [Machine.tellShorter, if_pos ha]
  | false => exact (verdictClamped s k m.tag x').congr fun rs => by simp [Machine.tellShorter, ha]

end State.Local

theorem State.NoHeld.noneHeldBut {s : State} (h : s.NoHeld) (k : Nat) : s.NoneHeldBut k :=
  fun _ _ c hc => h c (List.mem_of_getElem? hc)

/-- A reservation that grows, or stays, makes no report (R43). -/
theorem reservationReports_grown {k : Nat} {held new : Reservation} (hlo : new.span.lo ≤ held.span.lo)
    (hhi : held.span.hi ≤ new.span.hi) : reservationReports k (some held) (some new) = [] := by
  simp [reservationReports, Nat.not_lt.mpr hlo, Nat.not_lt.mpr hhi]

/-- The reports of a change of carriage `k`'s reservation, where there are none or no other carriage holds a move, do
nothing at the end of the step. -/
theorem finish_reserved {s : State} {k : Nat} {before after : Option Reservation} (hs : s.reports = [])
    (h : reservationReports k before after = [] ∨ s.NoneHeldBut k) :
    finish (s.withReports (reservationReports k before after)) = s := by
  rcases h with hn | hh
  · rw [hn, withReports_of_settled hs, finish_of_settled hs]
  · have hlen := (reservationReports_length_le k before after).trans (by decide : 2 ≤ 64)
    exact (finish_asleep (s := s.withReports (reservationReports k before after)) hh hlen
      fun r hr m _ => reservationReports_idle hr m).trans (withReports_of_settled hs)

/-! What a forwarding to a shorter target leaves. -/

/-- The state after a MOVE has been placed for carriage `k` with an X target: its active move, its reservation, and the
fences tested (R59). -/
def placedX (s : State) (k : Nat) (f : Frame) (target : Nat) (tag : Byte) (span : Interval) : State :=
  testFences ((s.changed k (·.bound target tag span)).sentDown f)

/-- What CLAMPED leaves, as the obligations write it (R66). -/
theorem verdictClamped_eq (s : State) (k : Nat) (tag : Byte) (x : Nat) :
    verdictClamped s k tag x =
      hand
        (s.changed k fun c =>
          { c with ctx := { c.ctx with counters := { c.ctx.counters with clamped := bump c.ctx.counters.clamped } } })
        .verdict (some k) (.tag tag) .clamped (.position x) := rfl

section
variable (s : State) (k : Nat) (f : Frame) (target : Nat) (tag : Byte) (span : Interval) (tag' : Byte) (x' : Nat)

theorem verdictClamped_placedX_lineClock :
    (verdictClamped (placedX s k f target tag span) k tag' x').lineClock = s.lineClock := by
  simp [verdictClamped, handVerdict, hand_eq, placedX, testFences_eq, countClamped, State.sentDown, State.changed]

theorem verdictClamped_placedX_stampCounter :
    (verdictClamped (placedX s k f target tag span) k tag' x').stampCounter = s.stampCounter := by
  simp [verdictClamped, handVerdict, hand_eq, placedX, testFences_eq, countClamped, State.sentDown, State.changed]

theorem verdictClamped_placedX_record (j : Nat) :
    (verdictClamped (placedX s k f target tag span) k tag' x').record j = s.record j := by
  simp [State.record, verdictClamped, handVerdict, hand_eq, placedX, testFences_eq, countClamped, State.sentDown,
    State.changed]

theorem verdictClamped_placedX_held (j : Nat) :
    (verdictClamped (placedX s k f target tag span) k tag' x').held j = s.held j := by
  have hcount : (verdictClamped (placedX s k f target tag span) k tag' x').carriages =
      (countClamped (placedX s k f target tag span) k).carriages := by
    rw [verdictClamped, handVerdict, hand_carriages]
  have hplaced : (placedX s k f target tag span).carriages = s.carriages.modify k (·.bound target tag span) :=
    testFences_carriages _
  exact (State.held_of_modify hcount (fun _ => rfl) j).trans (State.held_of_modify hplaced (fun _ => rfl) j)

end

/-- A move enters the slot by the clock and the entry stamp alone (R71). -/
theorem State.heldEntry_congr {s t : State} (hl : t.lineClock = s.lineClock) (hs : t.stampCounter = s.stampCounter)
    (holdTime : Nat) (axis : Axis) (m : MoveFields) (a : BlockedAction) (w : Waiting) :
    t.heldEntry holdTime axis m a w = s.heldEntry holdTime axis m a w := by
  simp only [State.heldEntry, hl, hs]

/-- The deadlock check looks at the held moves alone. -/
theorem waitsOnEachOther_congr {s t : State} (h : ∀ j, t.held j = s.held j) (k : Nat) (b : Option Blocker) :
    t.waitsOnEachOther k b = s.waitsOnEachOther k b := by
  simp only [State.waitsOnEachOther, h]

section
variable {s : State} {k : Nat} {m : MoveFields} {b : Block}

/-- Under CLAMP_WAIT the rest of a MOVE that is forwarded to a shorter target is refused DEADLOCK, as it would be without
the forwarding (R72), -/
theorem tellShorter_deadlock (hd : s.waitsOnEachOther k b.blocker = true) (f : Frame) (x' : Nat) (tag : Byte)
    (span : Interval) :
    tellShorter k m .clampWait b x' (placedX s k f x' tag span) =
      verdictRefused (verdictClamped (placedX s k f x' tag span) k m.tag x') k m.tag .deadlock := by
  refine holdMove_deadlock (w := ⟨.blocked, some b.side, b.blocker, some x'⟩) ?_ ..
  exact (waitsOnEachOther_congr (verdictClamped_placedX_held s k f x' tag span m.tag x') ..).trans hd

/-- or enters the slot (R61, R71). -/
theorem tellShorter_held {r : CarriageRecord} (hd : s.waitsOnEachOther k b.blocker = false) (hr : s.record k = some r)
    (f : Frame) (x' : Nat) (tag : Byte) (span : Interval) :
    tellShorter k m .clampWait b x' (placedX s k f x' tag span) =
      hand
        { (verdictClamped (placedX s k f x' tag span) k m.tag x').changed k
            (·.holding (s.heldEntry r.holdTime .x m .clampWait ⟨.blocked, some b.side, b.blocker, some x'⟩)) with
          stampCounter := s.stampCounter + 1 }
        .verdict (some k) (.tag m.tag) .held (.cause .blocked) := by
  have hfree := (waitsOnEachOther_congr (verdictClamped_placedX_held s k f x' tag span m.tag x') k b.blocker).trans hd
  have hrec := (verdictClamped_placedX_record s k f x' tag span m.tag x' k).trans hr
  refine (holdMove_entered (w := ⟨.blocked, some b.side, b.blocker, some x'⟩) hfree hrec ..).trans ?_
  rw [enterHeld, State.heldEntry_congr (verdictClamped_placedX_lineClock s k f x' tag span m.tag x')
    (verdictClamped_placedX_stampCounter s k f x' tag span m.tag x'), verdictClamped_placedX_stampCounter]
  rfl

end

/-! The step of a blocked MOVE. -/

theorem BlockedAction.clamps_iff {a : BlockedAction} : a.clamps = true ↔ a = .clamp ∨ a = .clampWait := by
  cases a <;> decide

section
variable {s : State} {k : Nat} {dst src seq : Byte} {payload : List Byte} {m : MoveFields} {a : BlockedAction}
  {c : Carriage} {r : CarriageRecord} {x : AxisReport} {b : Block} {x' : Nat} (h : s.Running) (ho : ¬s.Own dst)
  (hb : dst.toNat ≠ 63) (hrole : s.roleOf dst.toNat = some (driveRole k .x)) (hm : parseMove payload = some m)
  (hd : admitMove s k .x ⟨dst, src, Kind.move, seq, payload⟩ =
    decideBlocked s k ⟨dst, src, Kind.move, seq, payload⟩ m a b)
include h ho hb hrole hm hd

/-- A blocked MOVE that takes no shorter target: handed to the slot, or refused. -/
theorem exec_move_still {t : State} (hx : a.clamps = true → b.shorter = none)
    (ht : (if a.waits then holdMove s k .x m a ⟨.blocked, some b.side, b.blocker, none⟩
      else verdictRefused s k m.tag a.blockedCause) = t) (hn : t.reports = s.reports) :
    exec (.move dst src seq payload) s = .next (t.tookU .good) := by
  subst ht
  exact exec_move_settled h (parseMove_length hm) ho hb hrole (hd.trans (decideBlocked_still hx)) (hn.trans h.settled)

variable (ha : a.clamps = true) (hx : b.shorter = some x')
include ha hx

theorem exec_move_shorter_full (hq : 8 ≤ s.port.dForward.length) :
    exec (.move dst src seq payload) s = .next (s.tookU .overrun) :=
  exec_move_settled h (parseMove_length hm) ho hb hrole (hd.trans (decideBlocked_full ha hx hq)) h.settled

/-- A blocked MOVE forwarded to its shorter target: the reports of its reservation, where there are any, wake no move. -/
theorem exec_move_shorter (hc : s.carriage k = some c) (hr : s.record k = some r) (hlast : c.ctx.lastX = some x)
    (hq : s.port.dForward.length < 8) {new : Interval}
    (hnew : (envelope r s.railLength x.position x.velocity).hull (occupancy r s.railLength x') = new)
    (hnr : s.NoHeld ∨ ∃ held, c.reservation = some held ∧ new.lo ≤ held.span.lo ∧ held.span.hi ≤ new.hi) :
    exec (.move dst src seq payload) s =
      .next
        ((tellShorter k m a b x'
          (placedX s k ⟨dst, src, Kind.move, seq, moveBytes m.tag .x x' b.speed a true⟩ x' m.tag new)).tookU .good) := by
  subst hnew
  have hsent := decideBlocked_sent (k := k) (f := ⟨dst, src, Kind.move, seq, payload⟩) (m := m) ha hx hq
  rw [sentMove_x (s := s.sentDown _) hc hr hlast, show (s.sentDown _).reports = [] from h.settled,
    List.nil_append] at hsent
  rw [exec_move h (parseMove_length hm) ho hb hrole (hd.trans hsent)]
  have hloc (t : State) : t.Local k 0 (tellShorter k m a b x') := State.Local.tellShorter ..
  refine congrArg Host.Outcome.next ?_
  refine (congrArg (fun t => finish (t.tookU .good)) ((hloc (placedX s k _ x' m.tag _)).silent _)).trans ?_
  refine finish_reserved (s := (tellShorter k m a b x' (placedX s k _ x' m.tag _)).tookU .good) (k := k) ?_ ?_
  · exact (hloc _).silent_reports.trans ((testFences_reports _).trans h.settled)
  · rcases hnr with hh | ⟨held, hv, hlo, hhi⟩
    · have hno : (placedX s k ⟨dst, src, Kind.move, seq, moveBytes m.tag .x x' b.speed a true⟩ x' m.tag
          ((envelope r s.railLength x.position x.velocity).hull (occupancy r s.railLength x'))).NoHeld :=
        State.NoHeld.of_modify hh (testFences_carriages _) fun _ hs => hs
      exact .inr ((hloc _).noneHeldBut (hno.noneHeldBut k))
    · rw [hv]
      exact .inl (reservationReports_grown hlo hhi)

end

/-- Settles O16: the fit test answers the block, its blocked action decides it, and a forwarding to the shorter target
goes before what the action makes of the rest. -/
theorem xMoveBlocked : Obligations.XMoveBlocked := by
  unfold Obligations.XMoveBlocked
  intro s k dst src seq payload m a c r x z h hslot ho hb hrole hm haxis ha hc hr hlast hz he hn hact hf hzc hza hload
    hspeed target speed occ env span left right side blocker shorter deadlock refusedIn heldIn answers judged
  have hrole : s.roleOf dst.toNat = some (driveRole k .x) := hrole
  have hfit : judge s k false .x m.target m.speed =
      judgeFit s k r ⟨x.position, x.velocity⟩ target speed (target != m.target || speed != m.speed) := by
    have hlow := Bool.eq_false_iff.mp (headLow_eq_false hz hzc hza)
    have hfree : c.loadIn [.gripping, .checking, .releasing, .rejected] = false :=
      loadIn_eq_false fun l hl => by simp [hload l hl]
    exact (judge_x hc hr hlast he hact hf ..).trans (judgeX_fit hlow (Bool.eq_false_iff.mp hfree) hspeed)
  have hadmit := admitMove_normal (f := ⟨dst, src, Kind.move, seq, payload⟩) hc hn hslot hm haxis ha
  refine ⟨fun hfen => ?_, fun hfen hover => ?_⟩
  · have hj := hfit.trans (judgeFit_fenced (st := ⟨x.position, x.velocity⟩) hfen)
    exact ⟨hj, exec_move_refused h (parseMove_length hm) ho hb hrole (hadmit.trans (decideMove_refuse hj))⟩
  have hj := hfit.trans (judgeFit_blocked (st := ⟨x.position, x.velocity⟩) hfen hover)
  have hd := hadmit.trans (decideMove_blocked hj)
  have hdead : s.waitsOnEachOther k blocker = true ↔ deadlock := waitsOnEachOther_iff
  have waiting (hw : a = .wait ∨ a = .clampWait ∧ shorter = none) :
      a.waits = true ∧ (a.clamps = true → shorter = none) := by
    rcases hw with rfl | ⟨rfl, hx⟩
    · exact ⟨rfl, nofun⟩
    · exact ⟨rfl, fun _ => hx⟩
  refine ⟨hj, ?_, ?_, fun hw hdl => ?_, fun hw hdl => ?_, fun x' hx hclamps => ?_⟩
  · rintro rfl
    exact exec_move_still h ho hb hrole hm hd nofun rfl (verdictRefused_reports ..)
  · rintro rfl hx
    exact exec_move_still h ho hb hrole hm hd (fun _ => hx) rfl (verdictRefused_reports ..)
  · obtain ⟨hwaits, hstill⟩ := waiting hw
    exact exec_move_still h ho hb hrole hm hd hstill
      ((if_pos hwaits).trans (holdMove_deadlock (hdead.mpr hdl) ..)) (verdictRefused_reports ..)
  · obtain ⟨hwaits, hstill⟩ := waiting hw
    exact exec_move_still h ho hb hrole hm hd hstill
      ((if_pos hwaits).trans (holdMove_entered (Bool.eq_false_iff.mpr (mt hdead.mp hdl)) hr ..)) (hand_reports ..)
  intro new moved clamped noReport
  have hcl := BlockedAction.clamps_iff.mpr hclamps
  refine ⟨exec_move_shorter_full h ho hb hrole hm hd hcl hx, fun hq hnr => ?_⟩
  have hexec := exec_move_shorter h ho hb hrole hm hd hcl hx hc hr hlast hq rfl hnr
  refine ⟨?_, ?_, ?_⟩
  · rintro rfl
    have htell := hexec.trans (congrArg (fun t => Host.Outcome.next (t.tookU .good)) (verdictClamped_eq ..))
    exact htell
  · rintro rfl hdl
    rw [tellShorter_held (b := s.blockOf k r ⟨x.position, x.velocity⟩ target speed)
      (Bool.eq_false_iff.mpr (mt hdead.mp hdl)) hr] at hexec
    exact hexec
  · rintro rfl hdl
    rw [tellShorter_deadlock (b := s.blockOf k r ⟨x.position, x.velocity⟩ target speed) (hdead.mpr hdl)] at hexec
    exact hexec

end Sys2Proof.Machine
end

section
/-! PROOFS. The SHADOW path (R67 to R69): the rehearsed judgement is that of NORMAL on the state in which the carriage
stands at its virtual position, and each judgement has its line of R69. -/

namespace Sys2Proof.Machine

/-! The state in which a rehearsal is judged (R68). -/

/-- A SHADOW carriage as its rehearsal takes it: NORMAL and ACTIVE, at its virtual position at velocity 0, with no active
X move and no held move. -/
def Carriage.rehearsed (p : Nat) (c : Carriage) : Carriage :=
  { c with
    slot := none
    ctx :=
      { c.ctx with
        membership := .normal
        runState := .active
        activeX := none
        lastX := some ⟨p, 0, ⟨true, false, true⟩⟩ } }

theorem Carriage.rehearsed_xAtRest (p : Nat) (c : Carriage) (r : CarriageRecord) :
    (c.rehearsed p).xAtRest r = true := by
  simp [Carriage.xAtRest, Carriage.rehearsed]

/-- A rehearsal is judged in ACTIVE and in HALTED (R68). -/
theorem Carriage.mayMove_shadow {c : Carriage} (h : c.ctx.runState = .active ∨ c.ctx.runState = .halted) :
    c.mayMove true = true := by
  rcases h with h | h <;> simp [Carriage.mayMove, h]

/-- A change of one carriage that leaves its reservation leaves every known span. -/
theorem State.span_of_modify {s t : State} {k : Nat} {g : Carriage → Carriage}
    (ht : t.carriages = s.carriages.modify k g) (hg : ∀ c, (g c).reservation = c.reservation) (j : Nat) :
    t.span j = s.span j := by
  unfold State.span
  by_cases hj : j = k
  · subst hj
    rw [State.carriage_modify_self ht]
    cases s.carriage j <;> simp [hg]
  · rw [State.carriage_modify_ne ht hj]

section
variable (s : State) (k p : Nat)

theorem span_rehearsed (j : Nat) : (s.changed k (·.rehearsed p)).span j = s.span j :=
  State.span_of_modify (k := k) (g := (·.rehearsed p)) rfl (fun _ => rfl) j

/-- The free limits are those of the state itself: no reservation and no fence is rehearsed (R53). -/
theorem leftFree_rehearsed (occ : Interval) : (s.changed k (·.rehearsed p)).leftFree k occ = s.leftFree k occ := by
  have htake : takeLeft (s.changed k (·.rehearsed p)) occ = takeLeft s occ := rfl
  simp only [State.leftFree, htake, span_rehearsed]
  rfl

theorem rightFree_rehearsed (occ : Interval) : (s.changed k (·.rehearsed p)).rightFree k occ = s.rightFree k occ := by
  have htake : takeRight (s.changed k (·.rehearsed p)) occ = takeRight s occ := rfl
  have hlen : (s.changed k (·.rehearsed p)).carriages.length = s.carriages.length := by simp [State.changed]
  simp only [State.rightFree, htake, span_rehearsed, hlen]
  rfl

variable (c : Carriage) (r : CarriageRecord) (target speed : Nat)

theorem judgeFit_rehearsed (st : Standing) (clamped : Bool) :
    judgeFit (s.changed k (·.rehearsed p)) k r st target speed clamped = judgeFit s k r st target speed clamped := by
  have hfenced : (s.changed k (·.rehearsed p)).fencedTarget = s.fencedTarget := rfl
  have hrail : (s.changed k (·.rehearsed p)).railLength = s.railLength := rfl
  simp only [judgeFit, leftFree_rehearsed, rightFree_rehearsed, hfenced, hrail]

theorem judgeX_rehearsed (st : Standing) :
    judgeX (s.changed k (·.rehearsed p)) k (c.rehearsed p) r st target speed = judgeX s k c r st target speed := by
  have hlow : (c.rehearsed p).headLow r = c.headLow r := rfl
  have hload : (c.rehearsed p).loadIn = c.loadIn := rfl
  simp only [judgeX, hlow, hload, judgeFit_rehearsed]

/-- A rehearsed lowering finds the X axis at rest (R68). -/
theorem judgeLowering_rehearsed (st : Standing) :
    judgeLowering (s.changed k (·.rehearsed p)) k (c.rehearsed p) r st false target speed =
      judgeLowering s k c r st true target speed := by
  have hload : (c.rehearsed p).loadIn = c.loadIn := rfl
  have hfloor : loweringFloor (s.changed k (·.rehearsed p)) k (c.rehearsed p) st.x = loweringFloor s k c st.x := rfl
  simp only [judgeLowering, hload, hfloor, Carriage.rehearsed_xAtRest, Bool.not_true, Bool.and_false, Bool.false_and]

end

section
variable {s : State} {k p : Nat} {c : Carriage} {r : CarriageRecord} (hc : s.carriage k = some c)
  (he : s.inputs.emergency = false) (axis : Axis) (target speed : Nat)
include hc he

/-- A rehearsal without a virtual position is refused NOT_ACTIVE, -/
theorem judge_shadow_absent (hv : c.virtualX = none) : judge s k true axis target speed = .refuse .notActive := by
  cases hr : s.record k with
  | none => simp [judge, he, hc, hr]
  | some r => simp [judge, he, hc, hr, Carriage.standing, hv]

variable (hr : s.record k = some r) (hv : c.virtualX = some p)
include hr hv

/-- and so is one out of ACTIVE and HALTED; -/
theorem judge_shadow_notActive (ha : c.ctx.runState ≠ .active) (hh : c.ctx.runState ≠ .halted) :
    judge s k true axis target speed = .refuse .notActive := by
  simp [judge, he, hc, hr, Carriage.standing, hv, Carriage.mayMove, ha, hh]

variable (hrun : c.ctx.runState = .active ∨ c.ctx.runState = .halted)
include hrun

/-- a STALE carriage is refused STALE, -/
theorem judge_shadow_stale (hf : c.ctx.fresh = false) : judge s k true axis target speed = .refuse .stale := by
  simp [judge, he, hc, hr, Carriage.standing, hv, Carriage.mayMove_shadow hrun, hf]

/-- and every other is judged from the virtual position, its X axis at rest: an X MOVE by the fit test, -/
theorem judge_shadow_x (hf : c.ctx.fresh = true) :
    judge s k true .x target speed = judgeX s k c r ⟨p, 0⟩ target speed := by
  simp [judge, he, hc, hr, Carriage.standing, hv, Carriage.mayMove_shadow hrun, hf]

/-- a Z MOVE as a lowering or a raise; -/
theorem judge_shadow_z (hf : c.ctx.fresh = true) :
    judge s k true .z target speed =
      if c.lowers r target then judgeLowering s k c r ⟨p, 0⟩ true target speed else judgeRaise c r target speed := by
  simp [judge, he, hc, hr, Carriage.standing, hv, Carriage.mayMove_shadow hrun, hf]

/-- which is the judgement of NORMAL on the state in which the carriage stands there (R68). -/
theorem judge_shadow (hf : c.ctx.fresh = true) :
    judge s k true axis target speed = judge (s.changed k (·.rehearsed p)) k false axis target speed := by
  have hc' : (s.changed k (·.rehearsed p)).carriage k = some (c.rehearsed p) := modCarriage_same hc _
  cases axis with
  | x => rw [judge_shadow_x hc he _ _ hr hv hrun hf, judge_x hc' hr rfl he rfl hf, judgeX_rehearsed]
  | z =>
    rw [judge_shadow_z hc he _ _ hr hv hrun hf, judge_z hc' hr rfl he rfl hf, judgeLowering_rehearsed]
    rfl

end

/-! The lines of R69. -/

theorem setVirtual_eq (s : State) (k : Nat) (axis : Axis) (x : Nat) :
    setVirtual s k axis x = if axis = .x then s.changed k fun c => { c with virtualX := some x } else s := by
  cases axis <;> rfl

@[simp] theorem setVirtual_reports (s : State) (k : Nat) (axis : Axis) (x : Nat) :
    (setVirtual s k axis x).reports = s.reports := by
  cases axis <;> rfl

section
variable {s : State} {k : Nat} {axis : Axis} {m : MoveFields} {a : BlockedAction}

theorem shadowMove_refuse {cause : Cause} (hj : judge s k true axis m.target m.speed = .refuse cause) :
    shadowMove s k axis m a = handShadow s k m.tag .refused (.cause cause) := by
  simp [shadowMove, hj]

theorem shadowMove_waitable {cause : Cause} (hj : judge s k true axis m.target m.speed = .waitable cause) :
    shadowMove s k axis m a = handShadow s k m.tag (if a.waits then .wouldHold else .refused) (.cause cause) := by
  simp only [shadowMove, hj]
  split <;> rfl

theorem shadowMove_forward {target speed : Nat} {clamped : Bool}
    (hj : judge s k true axis m.target m.speed = .forward target speed clamped) :
    shadowMove s k axis m a =
      if clamped then handShadow (setVirtual s k axis target) k m.tag .clamped (.position target)
      else handShadow (setVirtual s k axis target) k m.tag .admitted .absent := by
  simp only [shadowMove, hj]

variable {b : Block} (hj : judge s k true axis m.target m.speed = .blocked b)
include hj

/-- A blocked MOVE that takes no shorter target would be held or refused, -/
theorem shadowMove_still (hx : a.clamps = true → b.shorter = none) :
    shadowMove s k axis m a =
      if a.waits then handShadow s k m.tag .wouldHold (.cause .blocked)
      else handShadow s k m.tag .refused (.cause a.blockedCause) := by
  have hn : (if a.clamps then b.shorter else none) = none := by
    split
    · exact hx ‹_›
    · rfl
  simp only [shadowMove, hj, hn]

/-- and one that does moves the virtual position there; where the action waits, the rest would be held. -/
theorem shadowMove_shorter {x' : Nat} (ha : a.clamps = true) (hx : b.shorter = some x') :
    shadowMove s k axis m a =
      if a.waits then
        handShadow (handShadow (setVirtual s k .x x') k m.tag .clamped (.position x')) k m.tag .wouldHold
          (.cause .blocked)
      else handShadow (setVirtual s k .x x') k m.tag .clamped (.position x') := by
  simp only [shadowMove, hj, ha, hx, if_true]

end

/-- Settles O18: the rehearsed judgement by `judge_shadow`, and the line of R69 that it is reported with. -/
theorem shadowMoveReported : Obligations.ShadowMoveReported := by
  unfold Obligations.ShadowMoveReported
  intro s k axis dst src seq payload c h hp ho hb hrole hc hmem answers told refused
  refine ⟨fun hbad => exec_move_settled h hp ho hb hrole (admitMove_shadow_badField hc hmem hbad)
    ((handShadow_reports ..).trans h.settled), ?_⟩
  intro m a r hm hx ha hr waits heldFor movedTo
  have htold (t : State) (cause : Cause) (detail : Detail) :
      told t cause detail = handShadow t k m.tag cause detail := by
    show handShadow t k (payload.headD 0) cause detail = _
    rw [parseMove_tag hm]
  have hmoved (x : Nat) : movedTo x = setVirtual s k axis x := (setVirtual_eq ..).symm
  have answer {t : State} (ht : shadowMove s k axis m a = t) (hn : t.reports = s.reports) : answers t :=
    exec_move_settled h hp ho hb hrole (ht ▸ admitMove_shadow hc hmem hm hx ha) (hn.trans h.settled)
  have line {t : State} {cause : Cause} {detail : Detail}
      (ht : shadowMove s k axis m a = handShadow t k m.tag cause detail) (hn : t.reports = s.reports) :
      answers (told t cause detail) := by
    rw [htold]
    exact answer ht ((handShadow_reports ..).trans hn)
  have refuse {cause : Cause} (hj : judge s k true axis m.target m.speed = .refuse cause) : refused cause :=
    line (shadowMove_refuse hj) rfl
  have forward {target speed : Nat} {clamped : Bool}
      (hj : judge s k true axis m.target m.speed = .forward target speed clamped) :
      answers (if clamped = true then told (movedTo target) .clamped (.position target)
        else told (movedTo target) .admitted .absent) := by
    rw [htold, htold, hmoved]
    exact answer (shadowMove_forward hj) (by split <;> simp)
  refine ⟨fun he => refuse (judge_estop he ..), fun he hv => refuse (judge_shadow_absent hc he _ _ _ hv), ?_⟩
  intro p he hv
  refine ⟨fun hna hnh => refuse (judge_shadow_notActive hc he _ _ _ hr hv hna hnh), fun hrun => ⟨?_, ?_, ?_⟩⟩
  · exact fun hf => refuse (judge_shadow_stale hc he _ _ _ hr hv hrun hf)
  · intro hf there judged
    have hj : judge s k true axis m.target m.speed = judged := judge_shadow hc he _ _ _ hr hv hrun hf
    refine ⟨fun cause hcause => refuse (hj.trans hcause), fun cause hcause => ⟨fun hw => ?_, fun hw => ?_⟩,
      fun target speed clamped hfwd => forward (hj.trans hfwd), fun b hblock => ?_⟩
    · exact line ((shadowMove_waitable (hj.trans hcause)).trans (by rw [if_pos (BlockedAction.waits_iff.mpr hw)])) rfl
    · exact line ((shadowMove_waitable (hj.trans hcause)).trans (by rw [if_neg (mt BlockedAction.waits_iff.mp hw)])) rfl
    have hjb := hj.trans hblock
    obtain rfl : axis = .x := judge_blocked_axis hblock
    refine ⟨?_, ?_, ?_, fun x' hx' => ⟨?_, ?_⟩⟩
    · rintro rfl
      exact line (shadowMove_still hjb nofun) rfl
    · rintro rfl hnone
      exact line (shadowMove_still hjb fun _ => hnone) rfl
    · rintro (rfl | ⟨rfl, hnone⟩)
      · exact line (shadowMove_still hjb nofun) rfl
      · exact line (shadowMove_still hjb fun _ => hnone) rfl
    · rintro rfl
      exact line (shadowMove_shorter hjb rfl hx') rfl
    · rintro rfl
      rw [htold (movedTo x')]
      exact line (shadowMove_shorter hjb rfl hx') (handShadow_reports ..)
  · rintro z rfl hf hz hzc hza hload hspeed target occ span hfenced hleft hright
    have hlow := Bool.eq_false_iff.mp (headLow_eq_false hz hzc hza)
    have hfree : c.loadIn [.gripping, .checking, .releasing, .rejected] = false :=
      loadIn_eq_false fun l hl => by simp [hload l hl]
    have hfit := judgeFit_fits (st := ⟨p, 0⟩) (x := target) (speed := clampSpeed r m.speed)
      (clamped := target != m.target || clampSpeed r m.speed != m.speed) hfenced hleft hright
    have hj := (judge_shadow_x hc he _ _ hr hv hrun hf).trans
      ((judgeX_fit hlow (Bool.eq_false_iff.mp hfree) hspeed).trans hfit)
    have hflag : (target ≠ m.target ∨ r.vmax < m.speed) ↔
        (target != m.target || clampSpeed r m.speed != m.speed) = true := by
      simp [clampSpeed]
    rw [if_congr hflag rfl rfl]
    exact forward hj

end Sys2Proof.Machine
end

section
/-! PROOFS. The hold deadline (R78), a report of room taken (R74, R77, log 10), and what a re-evaluation makes of a held
move (R73, R75, R76). -/

namespace Sys2Proof.Machine

/-! Reports that wake no held move, and the report of room (R74, R77). -/

/-- A report on which no held move waits changes nothing. -/
theorem actOn_unheard {s : State} {r : Report} (h : ∀ j m, s.held j = some m → m.waitsFor j r = false) :
    actOn s r = s := by
  have hfor (j : Nat) : actFor r s j = s := by
    unfold actFor
    cases hm : s.held j with
    | none => rfl
    | some m => simp [h j m hm]
  unfold actOn
  induction List.range 4 with
  | nil => rfl
  | cons j l ih => rw [List.foldl_cons, hfor, ih]

/-- A step with one report acts on it, and then on those that it leads to. -/
theorem finish_report {s : State} (hs : s.reports = []) (r : Report) : finish (s.report r) = settle 63 (actOn s r) := by
  have hr : (s.report r).reports = [r] := by rw [State.report_reports, hs, List.nil_append]
  have hback : (s.report r).withReports [] = s := withReports_of_settled hs
  show settle 64 (s.report r) = _
  rw [settle, hr]
  dsimp only
  rw [hback]

/-- A step whose one report wakes no held move ends with it dropped. -/
theorem finish_report_unheard {s : State} {r : Report} (hs : s.reports = [])
    (h : ∀ j m, s.held j = some m → m.waitsFor j r = false) : finish (s.report r) = s := by
  rw [finish_report hs, actOn_unheard h, ← withReports_of_settled hs, settle_noReports]

section
variable {s : State} {k : Nat} (h : s.NoneHeldBut k) (hk : k < 4)
include h hk

/-- Where no other carriage holds a move, before or after, a report is acted on for carriage `k` alone. -/
theorem actOn_only {r : Report} (ha : (actFor r s k).NoneHeldBut k) : actOn s r = actFor r s k := by
  have hother {t : State} (ht : t.NoneHeldBut k) {j : Nat} (hj : j ≠ k) : actFor r t j = t := by
    simp [actFor, ht.held hj]
  have hrange : actOn s r = actFor r (actFor r (actFor r (actFor r s 0) 1) 2) 3 := rfl
  rw [hrange]
  rcases (by omega : k = 0 ∨ k = 1 ∨ k = 2 ∨ k = 3) with rfl | rfl | rfl | rfl
  · rw [hother ha (by decide), hother ha (by decide), hother ha (by decide)]
  · rw [hother h (by decide), hother ha (by decide), hother ha (by decide)]
  · rw [hother h (by decide), hother h (by decide), hother ha (by decide)]
  · rw [hother h (by decide), hother h (by decide), hother h (by decide)]

/-- A step whose one report is acted on by a re-evaluation, from a state with the same reports, ends with what that
re-evaluation reports dropped. -/
theorem finish_report_reevaluated {r : Report} {u : State} (hs : s.reports = []) (hu : u.NoneHeldBut k)
    (hur : u.reports = []) (ha : actFor r s k = reevaluate u k) :
    finish (s.report r) = (reevaluate u k).withReports [] := by
  have hloc := State.Local.reevaluate hu
  have hact : actOn s r = reevaluate u k := (actOn_only h hk (ha ▸ hloc.noneHeldBut hu)).trans ha
  obtain ⟨l, hl, hlen, hlr⟩ := hloc.reports
  have hreports : (reevaluate u k).reports = l ++ [] := by
    have hadded := congrArg State.reports (hlr [])
    rw [withReports_of_settled hur] at hadded
    exact hadded.trans (List.append_nil l).symm
  obtain ⟨n, hn⟩ : ∃ n, 63 = l.length + n := ⟨63 - l.length, by omega⟩
  rw [finish_report hs, hact, hn, settle_asleep (hloc.noneHeldBut hu) n hreports fun r hr m _ => hl r hr m,
    settle_noReports]

/-- The report that wakes carriage `k`'s held move re-evaluates it (R74). -/
theorem finish_report_awake {r : Report} {m : HeldMove} (hs : s.reports = []) (hm : s.held k = some m)
    (hw : m.waitsFor k r = true) (hroom : r ≠ .room) : finish (s.report r) = (reevaluate s k).withReports [] :=
  finish_report_reevaluated h hk hs h hs (by simp [actFor, hm, hw, answerMark_other hroom])

/-- A report of room takes the mark of carriage `k`'s held move and re-evaluates it (R77). -/
theorem finish_report_room {m : HeldMove} (hs : s.reports = []) (hm : s.held k = some m)
    (hw : m.waitingForRoom = true) :
    finish (s.report .room) = (reevaluate (setSlot s k { m with waitingForRoom := false }) k).withReports [] :=
  finish_report_reevaluated h hk hs ((State.Local.setSlot s k { m with waitingForRoom := false }).noneHeldBut h) hs
    (by simp [actFor, hm, HeldMove.waitsFor, hw, answerMark_room])

end

/-! The end of a held move, by its slot (R81). -/

/-- A change of a context leaves every held move. -/
theorem modContext_held (s : State) (k : Nat) (g : Context → Context) (j : Nat) :
    (s.modContext k g).held j = s.held j :=
  State.held_of_modify (g := fun c => { c with ctx := g c.ctx }) (State.modCarriage_carriages ..) (fun _ => rfl) j

theorem verdictClamped_held (s : State) (k : Nat) (tag : Byte) (x j : Nat) :
    (verdictClamped s k tag x).held j = s.held j :=
  State.held_of_modify (t := verdictClamped s k tag x) (hand_carriages ..) (fun _ => rfl) j

/-- A refusal ends a held move with its cause, counted as refused. -/
theorem endRefused_held {s : State} {k : Nat} {m : HeldMove} (hm : s.held k = some m) (cause : Cause) :
    endRefused s k cause =
      hand ((countRefused s k).modCarriage k fun c => { c with slot := none }) .holdEnd (some k) (.tag m.tag) cause
        .absent :=
  endHeld_held ((modContext_held s k _ k).trans hm) ..

/-! A held move that stays (R73, R75, R76). -/

/-- A held move with the outcome of a new judgement. -/
def HeldMove.judgedAs (h : HeldMove) (w : Waiting) : HeldMove :=
  { h with cause := w.cause, side := w.side, blocker := w.blocker, lastClamped := w.lastClamped }

theorem setSlot_held_ne (s : State) {j k : Nat} (h : j ≠ k) (m : HeldMove) : (setSlot s k m).held j = s.held j := by
  have hj : (setSlot s k m).carriage j = s.carriage j := State.carriage_modCarriage_ne s h.symm _
  rw [State.held, State.held, hj]

/-- With its new blocker, carriage `j`, the held move of carriage `k` waits for a move that waits for it (R73). -/
def State.Crossed (s : State) (k : Nat) (old new : Option Blocker) (j : Nat) (g : HeldMove) : Prop :=
  new ≠ old ∧ new = some (.carriage j) ∧ j ≠ k ∧ s.held j = some g ∧ g.blocker = some (.carriage k)

section
variable {s : State} {k : Nat} {h : HeldMove} (hh : s.held k = some h) (w : Waiting)
include hh

theorem held_setSlot (m : HeldMove) : (setSlot s k m).held k = some m := by
  obtain ⟨c, hc, -⟩ := Option.bind_eq_some_iff.mp hh
  rw [State.held, setSlot, modCarriage_same hc]
  rfl

theorem stayHeld_uncrossed (hno : ∀ j g, ¬s.Crossed k h.blocker w.blocker j g)
    (hself : w.blocker ≠ some (.carriage k)) :
    stayHeld s k h w = setSlot s k (h.judgedAs w) := by
  have hk : (setSlot s k (h.judgedAs w)).held k = some (h.judgedAs w) := held_setSlot hh _
  show recheckDeadlock (setSlot s k (h.judgedAs w)) k h.blocker = _
  unfold recheckDeadlock
  rw [hk]
  dsimp only
  split
  · rfl
  · rename_i hnew
    split
    · rename_i j hj
      have hjk : j ≠ k := fun hx => hself (hx ▸ hj)
      rw [setSlot_held_ne s hjk]
      cases hg : s.held j with
      | none => rfl
      | some g => exact if_neg fun hb => hno j g ⟨hnew, hj, hjk, hg, hb⟩
    · rfl

theorem stayHeld_crossed {j : Nat} {g : HeldMove} (hx : s.Crossed k h.blocker w.blocker j g) :
    stayHeld s k h w =
      if (h.stamp - g.stamp).toNat < 2147483648 then endRefused (setSlot s k (h.judgedAs w)) k .deadlock
      else endRefused (setSlot s k (h.judgedAs w)) j .deadlock := by
  obtain ⟨hnew, hj, hjk, hg, hb⟩ := hx
  have hk : (setSlot s k (h.judgedAs w)).held k = some (h.judgedAs w) := held_setSlot hh _
  have hother : (setSlot s k (h.judgedAs w)).held j = some g :=
    (setSlot_held_ne s hjk _).trans hg
  show recheckDeadlock (setSlot s k (h.judgedAs w)) k h.blocker = _
  have hblock : (h.judgedAs w).blocker = some (.carriage j) := hj
  simp only [recheckDeadlock, hk, hblock, hother, hb, if_neg (hj ▸ hnew), laterStamp, decide_eq_true_eq, if_true]
  rfl

end

/-! The reports, which neither the end of a held move nor the deadlock check looks at. -/

section
variable (s : State) (rs : List Report)

theorem endHeld_withReports (k : Nat) (cause : Cause) (detail : Detail) :
    endHeld (s.withReports rs) k cause detail = (endHeld s k cause detail).withReports rs :=
  (State.Local.endHeld s k cause detail).silent rs

theorem endRefused_withReports (k : Nat) (cause : Cause) :
    endRefused (s.withReports rs) k cause = (endRefused s k cause).withReports rs :=
  (State.Local.endRefused s k cause).silent rs

theorem recheckDeadlock_withReports (k : Nat) (b : Option Blocker) :
    recheckDeadlock (s.withReports rs) k b = (recheckDeadlock s k b).withReports rs := by
  have hheld (j : Nat) : (s.withReports rs).held j = s.held j := rfl
  unfold recheckDeadlock
  simp only [hheld, endRefused_withReports]
  cases s.held k with
  | none => rfl
  | some h =>
    by_cases hb : h.blocker = b
    · simp only [if_pos hb]
    · simp only [if_neg hb]
      cases h.blocker with
      | none => rfl
      | some w =>
        cases w with
        | fence i => rfl
        | carriage j =>
          dsimp only
          cases s.held j with
          | none => rfl
          | some g =>
            dsimp only
            split
            · split <;> rfl
            · rfl

theorem stayHeld_withReports (k : Nat) (h : HeldMove) (w : Waiting) :
    stayHeld (s.withReports rs) k h w = (stayHeld s k h w).withReports rs :=
  recheckDeadlock_withReports (setSlot s k (h.judgedAs w)) rs k h.blocker

theorem verdictClamped_withReports (k : Nat) (tag : Byte) (x : Nat) :
    verdictClamped (s.withReports rs) k tag x = (verdictClamped s k tag x).withReports rs :=
  (State.Local.verdictClamped s k tag x).silent rs

/-- A held move that ends counted, the reports set aside. -/
theorem endHeld_counted {t : State} {k : Nat} {h : HeldMove} (ht : t.held k = some h)
    (f : CarriageCounters → CarriageCounters) (cause : Cause) (detail : Detail) :
    (endHeld (t.countFor k f) k cause detail).withReports rs =
      hand (((t.withReports rs).countFor k f).changed k fun c => { c with slot := none }) .holdEnd (some k) (.tag h.tag)
        cause detail := by
  have hk : ((t.withReports rs).countFor k f).held k = some h := (modContext_held (t.withReports rs) k _ k).trans ht
  rw [← endHeld_withReports]
  exact endHeld_held hk cause detail

end

/-! A MOVE generated for a held move (R77). -/

section
variable {s : State} {k node : Nat} {m : HeldMove} {x v : Nat} {c : Bool}

theorem generateMove_full (hq : 8 ≤ s.port.dForward.length) : generateMove s k m x v c = none := by
  unfold generateMove
  split
  · rfl
  · simp [forwardMove_eq, placeDown_eq, Nat.not_lt.mpr hq]

theorem generateMove_sent (ha : s.addressOf (driveRole k m.axis) = some node) (hq : s.port.dForward.length < 8) :
    generateMove s k m x v c = some (generatedMove s k m x v c node) := by
  simp only [generateMove, ha, forwardMove_eq, placeDown_eq, if_pos hq]
  rfl

/-- The part after it has placed a generated MOVE and taken its sequence value (R77, R152). -/
def State.sentFor (s : State) (m : HeldMove) (x v : Nat) (c : Bool) (node : Nat) : State :=
  takeSeq (s.sentDown (moveFor s m x v c node))

theorem generatedMove_z (ha : m.axis = .z) :
    generatedMove s k m x v c node = setActive (s.sentFor m x v c node) k .z ⟨x, m.tag⟩ := by
  rw [generatedMove, ha]
  rfl

theorem generatedMove_x_unplaced (ha : m.axis = .x) (hs : s.admittedSpan k x = none) :
    generatedMove s k m x v c node = setActive (s.sentFor m x v c node) k .x ⟨x, m.tag⟩ := by
  have hs' : (setActive (s.sentDown (moveFor s m x v c node)) k .x ⟨x, m.tag⟩).admittedSpan k x = none :=
    (setActive_admittedSpan ..).trans hs
  rw [generatedMove, ha]
  exact congrArg takeSeq (sentMove_x_none hs')

theorem generatedMove_x_placed {d : Carriage} (hd : s.carriage k = some d) (ha : m.axis = .x) {span : Interval}
    (hs : s.admittedSpan k x = some span) :
    (generatedMove s k m x v c node).withReports s.reports =
      testFences
        ((setActive (s.sentFor m x v c node) k .x ⟨x, m.tag⟩).changed k fun d =>
          { d with reservation := some ⟨span, .plain⟩ }) := by
  have hs' : (setActive (s.sentDown (moveFor s m x v c node)) k .x ⟨x, m.tag⟩).admittedSpan k x = some span :=
    (setActive_admittedSpan ..).trans hs
  have hc : (setActive (s.sentDown (moveFor s m x v c node)) k .x ⟨x, m.tag⟩).carriage k = some _ :=
    modCarriage_same (s := s.sentDown (moveFor s m x v c node)) hd _
  rw [generatedMove, ha]
  have hsent := congrArg (fun t => (takeSeq t).withReports s.reports)
    ((sentMove_x_some hs').trans (setReservation_tested hc (some ⟨span, .plain⟩)))
  refine hsent.trans ?_
  simp only [testFences_eq]
  rfl

/-- The part after a generated MOVE, its reports set aside: the MOVE placed, its active move set, and on the X axis the
reservation, with the fences tested (R59, R77). -/
def State.generated (s : State) (k : Nat) (m : HeldMove) (node x v : Nat) (c : Bool) : State :=
  match m.axis with
  | .z => setActive (s.sentFor m x v c node) k .z ⟨x, m.tag⟩
  | .x =>
    let moved := setActive (s.sentFor m x v c node) k .x ⟨x, m.tag⟩
    match s.currentEnvelope k, s.record k with
    | some e, some r =>
      testFences (moved.changed k fun d => { d with reservation := some ⟨e.hull (occupancy r s.railLength x), .plain⟩ })
    | _, _ => moved

theorem generatedMove_settled {d : Carriage} (hd : s.carriage k = some d) :
    (generatedMove s k m x v c node).withReports s.reports = s.generated k m node x v c := by
  unfold State.generated
  split
  · rename_i ha
    rw [generatedMove_z ha]
    rfl
  · rename_i ha
    dsimp only
    split
    · rename_i e r he hr
      exact generatedMove_x_placed hd ha (by simp [State.admittedSpan, he, hr])
    · rename_i hno
      rw [generatedMove_x_unplaced ha]
      · rfl
      · unfold State.admittedSpan
        split
        · rename_i e r he hr
          exact (hno e r he hr).elim
        · rfl

/-- A generated MOVE leaves every held move. -/
theorem generatedMove_held (j : Nat) : (generatedMove s k m x v c node).held j = s.held j := by
  have hset (t : State) (axis : Axis) (a : ActiveMove) (j : Nat) : (setActive t k axis a).held j = t.held j := by
    cases axis <;> exact modContext_held t k _ j
  have hsent (t : State) : (sentMove t k m.axis x m.tag).held j = t.held j := by
    cases m.axis with
    | z => exact hset ..
    | x =>
      cases hs : (setActive t k .x ⟨x, m.tag⟩).admittedSpan k x with
      | none => rw [sentMove_x_none hs, hset]
      | some span =>
        rw [sentMove_x_some hs]
        exact (State.held_of_modify (setReservation_carriages ..) (fun _ => rfl) j).trans (hset ..)
  exact hsent (s.sentDown (moveFor s m x v c node))

end

/-! The hold deadline and the report of room, as steps (R77, R78). -/

section
variable {s : State} {k : Nat}

/-- The hold deadline reached ends the held move (R78). -/
theorem holdTimeout_due {h : HeldMove} (hs : s.Running) (hh : s.held k = some h)
    (hd : reached s.lineClock h.deadline = true) :
    exec (.holdTimeout k) s =
      .next
        (hand (s.changed k fun c => { c with slot := none }) .holdEnd (some k) (.tag h.tag) .holdTimeout .absent) := by
  have hdue : s.holdDue k = true := by simp [State.holdDue, hh, hd]
  exact live_settled hs ((if_pos hdue).trans (endHeld_held hh ..)) ((hand_reports ..).trans hs.settled)

theorem holdTimeout_idle (hs : s.Running) (hd : s.holdDue k = false) : exec (.holdTimeout k) s = .next s :=
  live_settled hs (if_neg (Bool.eq_false_iff.mp hd)) hs.settled

/-- The part with a number of reports of room standing. -/
def State.withRoom (s : State) (n : Nat) : State := s.withPort { s.port with roomReports := n }

/-- One of the reports of room that stand is taken, to be acted on. -/
theorem takeRoomReport_succ {n : Nat} (hr : s.port.roomReports = n + 1) :
    takeRoomReport s = (s.withRoom n).report .room := by
  rw [takeRoomReport_some (by omega), hr]
  rfl

/-- No held move waits for room, and the report of room goes with nothing done (R147). -/
theorem waitingForRoom_unheard (hs : s.Running) {n : Nat} (hr : s.port.roomReports = n + 1)
    (hno : ∀ c ∈ s.carriages, ∀ h, c.slot = some h → h.waitingForRoom = false) :
    exec .waitingForRoom s = .next (s.withRoom n) := by
  have hwait (j : Nat) (m : HeldMove) (hm : s.held j = some m) : m.waitingForRoom = false := by
    obtain ⟨c, hc, hslot⟩ := Option.bind_eq_some_iff.mp hm
    exact hno c (List.mem_of_getElem? hc) m hslot
  show live s takeRoomReport = _
  rw [live, hs.running, if_neg Bool.false_ne_true, takeRoomReport_succ hr]
  exact congrArg Host.Outcome.next (finish_report_unheard hs.settled hwait)

/-- The one held move that waits for room is re-evaluated, its mark taken off first (R77). -/
theorem waitingForRoom_heard {h : HeldMove} (hs : s.Running) {n : Nat} (hr : s.port.roomReports = n + 1)
    (hn : s.NoneHeldBut k) (hk : k < 4) (hh : s.held k = some h) (hw : h.waitingForRoom = true) :
    exec .waitingForRoom s =
      .next ((reevaluate (setSlot (s.withRoom n) k { h with waitingForRoom := false }) k).withReports []) := by
  show live s takeRoomReport = _
  rw [live, hs.running, if_neg Bool.false_ne_true, takeRoomReport_succ hr]
  exact congrArg Host.Outcome.next (finish_report_room (s := s.withRoom n) hn hk hs.settled hh hw)

end

/-! What a re-evaluation comes to, by its judgement (R75, R76). -/

theorem beyondLast_iff {rightward : Bool} {x : Nat} {o : Option Nat} :
    beyondLast rightward x o = true ↔ ∀ last, o = some last → if rightward = true then last < x else x < last := by
  cases o with
  | none => simp [beyondLast]
  | some last => cases rightward <;> simp [beyondLast]

/-- A blocked held move inches to a shorter target: under CLAMP_WAIT, beyond the last it was forwarded to (R76). -/
def HeldMove.Inches (h : HeldMove) (b : Block) (x : Nat) : Prop :=
  h.action = .clampWait ∧ b.shorter = some x ∧
    ∀ last, h.lastClamped = some last → if b.rightward = true then last < x else x < last

section
variable {s : State} {k : Nat} {h : HeldMove} (hh : s.held k = some h)
include hh

theorem reevaluate_refused {cause : Cause} (hj : judge s k false h.axis h.target h.speed = .refuse cause) :
    reevaluate s k = endRefused s k cause := by
  simp [reevaluate, hh, hj]

theorem reevaluate_waits {cause : Cause} (hj : judge s k false h.axis h.target h.speed = .waitable cause) :
    reevaluate s k = stayHeld s k h ⟨cause, none, none, h.lastClamped⟩ := by
  simp [reevaluate, hh, hj]

section
variable {target speed : Nat} {clamped : Bool}
  (hj : judge s k false h.axis h.target h.speed = .forward target speed clamped)
include hj

theorem reevaluate_forward_full (hq : 8 ≤ s.port.dForward.length) :
    reevaluate s k = setSlot s k { h with waitingForRoom := true } := by
  simp [reevaluate, hh, hj, generateMove_full hq]

theorem reevaluate_forward_sent {node : Nat} (ha : s.addressOf (driveRole k h.axis) = some node)
    (hq : s.port.dForward.length < 8) :
    reevaluate s k =
      if clamped then
        endHeld (countClamped (generatedMove s k h target speed true node) k) k .clamped (.position target)
      else endHeld (countAdmitted (generatedMove s k h target speed false node) k) k .admitted .absent := by
  cases clamped <;> simp [reevaluate, hh, hj, generateMove_sent ha hq]

end

section
variable {b : Block} (hj : judge s k false h.axis h.target h.speed = .blocked b)
include hj

theorem reevaluate_still (hno : ∀ x, ¬h.Inches b x) :
    reevaluate s k = stayHeld s k h ⟨.blocked, some b.side, b.blocker, h.lastClamped⟩ := by
  cases hx : (if h.action = .clampWait then b.shorter else none) with
  | none => simp [reevaluate, hh, hj, hx]
  | some x =>
    obtain ⟨ha, hb⟩ := Option.ite_none_right_eq_some.mp hx
    have hbeyond : ¬beyondLast b.rightward x h.lastClamped = true := fun hl => hno x ⟨ha, hb, beyondLast_iff.mp hl⟩
    simp [reevaluate, hh, hj, hx, hbeyond]

variable {x : Nat} (hx : h.Inches b x)
include hx

theorem reevaluate_inched_full (hq : 8 ≤ s.port.dForward.length) :
    reevaluate s k = setSlot s k { h with waitingForRoom := true } := by
  obtain ⟨ha, hb, hl⟩ := hx
  simp [reevaluate, hh, hj, ha, hb, beyondLast_iff.mpr hl, generateMove_full hq]

theorem reevaluate_inched_sent {node : Nat} (hn : s.addressOf (driveRole k h.axis) = some node)
    (hq : s.port.dForward.length < 8) :
    reevaluate s k =
      stayHeld (verdictClamped (generatedMove s k h x b.speed true node) k h.tag x) k h
        ⟨.blocked, some b.side, b.blocker, some x⟩ := by
  obtain ⟨ha, hb, hl⟩ := hx
  simp [reevaluate, hh, hj, ha, hb, beyondLast_iff.mpr hl, generateMove_sent hn hq]

end

end

/-- Settles O32: the deadline and the report of room by the end of the step, the re-evaluation by its judgement. -/
theorem heldMoveTimersAndRoom : Obligations.HeldMoveTimersAndRoom := by
  unfold Obligations.HeldMoveTimersAndRoom
  refine ⟨fun s k hs => ⟨fun h hh => ⟨holdTimeout_due hs hh, fun hd => holdTimeout_idle hs ?_⟩,
      fun hn => holdTimeout_idle hs ?_⟩,
    fun s hs => ⟨fun hr => live_settled hs (takeRoomReport_none hr) hs.settled, fun n hr =>
      ⟨waitingForRoom_unheard hs hr, fun k h hn hk hh hw => waitingForRoom_heard hs hr hn hk hh hw⟩⟩,
    fun s k c h hc hs => ?_⟩
  · simp [State.holdDue, show s.held k = some h from hh, hd]
  · simp [State.holdDue, show s.held k = none from hn]
  intro judged counted ended refused marked stays generated same
  have hh : s.held k = some h := by rw [State.held, hc]; exact hs
  -- A judgement that leaves the move in its slot, in a state with the same held moves.
  have hstays (t : State) (w : Waiting) (ht : ∀ j, t.held j = s.held j) :
      stays t (stayHeld t k h w) w.cause w.side w.blocker w.lastClamped := by
    have hk : t.held k = some h := (ht k).trans hh
    refine ⟨fun hno hself => ?_, fun j g hx => ?_⟩
    · refine stayHeld_uncrossed hk w (fun j g ⟨hn, hb, hj, hg, hw⟩ => ?_) hself
      exact hno j g ⟨hn, hb, hj, (ht j).symm.trans hg, hw⟩
    · obtain ⟨hn, hb, hj, hg, hw⟩ := hx
      have hg' : t.held j = some g := (ht j).trans hg
      refine (stayHeld_crossed hk w ⟨hn, hb, hj, hg', hw⟩).trans ?_
      rw [endRefused_held (held_setSlot hk _), endRefused_held ((setSlot_held_ne t hj _).trans hg')]
      rfl
  have hgen (node target speed : Nat) (clamped : Bool) :
      (generatedMove s k h target speed clamped node).withReports s.reports = generated node target speed clamped :=
    generatedMove_settled hc
  have hheld (node target speed : Nat) (clamped : Bool) (j : Nat) :
      (generated node target speed clamped).held j = s.held j :=
    (congrArg (·.held j) (hgen node target speed clamped)).symm.trans (generatedMove_held j)
  have hsame {u v : State} (h : u.withReports s.reports = v) : same u v := h ▸ rfl
  refine ⟨fun cause hj => ?_, fun cause hj => ?_, fun target speed clamped hj => ⟨fun hq => ?_, fun node hn hq => ?_⟩,
    fun b hj => ⟨fun hno => ?_, fun x hx => ⟨fun hq => ?_, fun node hn hq => ?_⟩⟩⟩
  · exact (reevaluate_refused hh hj).trans (endRefused_held hh cause)
  · rw [reevaluate_waits hh hj]
    exact hstays s ⟨cause, none, none, h.lastClamped⟩ fun _ => rfl
  · exact reevaluate_forward_full hh hj hq
  · rw [reevaluate_forward_sent hh hj hn hq]
    have hgk (clamped : Bool) : (generatedMove s k h target speed clamped node).held k = some h :=
      (generatedMove_held k).trans hh
    cases clamped with
    | true =>
      refine hsame ((endHeld_counted s.reports (hgk true) _ .clamped (.position target)).trans ?_)
      rw [hgen]
      rfl
    | false =>
      refine hsame ((endHeld_counted s.reports (hgk false) _ .admitted .absent).trans ?_)
      rw [hgen]
      rfl
  · rw [reevaluate_still hh hj hno]
    exact hstays s ⟨.blocked, some b.side, b.blocker, h.lastClamped⟩ fun _ => rfl
  · exact reevaluate_inched_full hh hj hx hq
  · refine ⟨stayHeld (verdictClamped (generated node x b.speed true) k h.tag x) k h
      ⟨.blocked, some b.side, b.blocker, some x⟩, ?_, hsame ?_⟩
    · exact hstays _ ⟨.blocked, some b.side, b.blocker, some x⟩ fun j => (verdictClamped_held ..).trans (hheld ..)
    · rw [reevaluate_inched_sent hh hj hx hn hq, ← stayHeld_withReports, ← verdictClamped_withReports, hgen]

end Sys2Proof.Machine
end

section
/-! PROOFS. The test of the PENDING fences in one equation (R84), and FENCE-ON and FENCE-OFF (R83, R85). -/

namespace Sys2Proof.Machine

/-! The test of the PENDING fences (R83, R84). -/

theorem fenceHeld_eq_any (s : State) (f : Fence) :
    s.fenceHeld f = s.carriages.any fun c => c.reservation.any fun r => r.span.intersects (s.fenceSpan f) := by
  unfold State.fenceHeld
  congr 1
  funext c
  cases c.reservation <;> rfl

theorem fenceHeld_iff {s : State} {f : Fence} :
    s.fenceHeld f = true ↔
      ∃ c ∈ s.carriages, ∃ r, c.reservation = some r ∧ r.span.intersects (s.fenceSpan f) = true := by
  simp only [fenceHeld_eq_any, List.any_eq_true, Option.any_eq_true]

/-- A PENDING fence that no known reservation intersects: the test makes it ON (R84). -/
def State.clearsFence (s : State) (f : Fence) : Bool := f.state == .pending && !s.fenceHeld f

theorem clearsFence_iff {s : State} {f : Fence} :
    s.clearsFence f = true ↔ f.state = .pending ∧ s.fenceHeld f = false := by
  simp [State.clearsFence]

/-- The notice of a fence that the test makes ON (R84). -/
def tellOn (s : State) (i : Nat) : State := hand s .fence (some i) .absent .on .absent

theorem tellOn_withFences (s : State) (fs : List Fence) (i : Nat) :
    (tellOn s i).withFences fs = tellOn (s.withFences fs) i := by
  simp only [tellOn, hand_eq]
  rfl

/-- One fence tested, its own change set aside: its notice, where it is cleared. -/
theorem testFence_withFences (s : State) (fs : List Fence) (i : Nat) :
    (testFence s i).withFences fs =
      if (s.fences[i]?).any s.clearsFence = true then tellOn (s.withFences fs) i else s.withFences fs := by
  cases hf : s.fences[i]? with
  | none => simp [testFence, hf]
  | some f =>
    by_cases hc : s.clearsFence f = true
    · obtain ⟨hp, hh⟩ := clearsFence_iff.mp hc
      rw [testFence_clear hf hp hh, Option.any_some, if_pos hc]
      exact tellOn_withFences ..
    · have hc' := mt clearsFence_iff.mpr hc
      simp [testFence, hf, hc', hc]

/-- Testing one fence leaves whether another is cleared. -/
theorem testFence_clears_ne (s : State) {i j : Nat} (h : j ≠ i) :
    ((testFence s i).fences[j]?).any (testFence s i).clearsFence = (s.fences[j]?).any s.clearsFence := by
  have hsame (f : Fence) : f.tested s.fenceHeld (j = i) = f := if_neg fun hx => h hx.1
  have hclears : (testFence s i).clearsFence = s.clearsFence := by
    funext f
    rw [State.clearsFence, State.clearsFence, testFence_fenceHeld]
  rw [testFence_fence, hclears]
  simp [hsame]

/-- The test of the fences: those that are cleared change, and each is told in index order (R84). -/
theorem testFences_eq_told (s : State) :
    testFences s =
      ((List.range 8).filter fun i => (s.fences[i]?).any s.clearsFence).foldl tellOn
        (s.withFences (testFences s).fences) := by
  have key (fs : List Fence) (l : List Nat) (s : State) (hl : l.Nodup) :
      (l.foldl testFence s).withFences fs =
        (l.filter fun i => (s.fences[i]?).any s.clearsFence).foldl tellOn (s.withFences fs) := by
    induction l generalizing s with
    | nil => rfl
    | cons i l ih =>
      obtain ⟨hi, hl⟩ := List.nodup_cons.mp hl
      have hrest : (l.filter fun j => ((testFence s i).fences[j]?).any (testFence s i).clearsFence) =
          l.filter fun j => (s.fences[j]?).any s.clearsFence :=
        List.filter_congr fun j hj => testFence_clears_ne s fun hx => hi (hx ▸ hj)
      rw [List.foldl_cons, ih _ hl, hrest, testFence_withFences, List.filter_cons]
      split <;> rfl
  have hself (t : State) : t = t.withFences t.fences := rfl
  unfold testFences
  exact (hself _).trans (key _ _ s List.nodup_range)

/-- The fences after the test, as a list. -/
theorem testFences_fences (s : State) :
    (testFences s).fences =
      s.fences.mapIdx fun i f => if i < 8 ∧ s.clearsFence f = true then { f with state := .on } else f := by
  refine List.ext_getElem? fun i => ?_
  rw [testFences_fence, List.getElem?_mapIdx]
  refine congrArg (Option.map · _) (funext fun f => ?_)
  simp only [Fence.tested, clearsFence_iff]

/-! FENCE-ON and FENCE-OFF (R83, R85). -/

theorem carryOut_fenceOn (s t : State) (src seq f : Byte) :
    carryOut t (s.requestFrame Kind.mgCommand src seq [0x05, f]) =
      if 8 ≤ f.toNat then refuseRequest t .badIndex else commandFenceOn t f.toNat :=
  indexed_one ..

theorem carryOut_fenceOff (s t : State) (src seq f : Byte) :
    carryOut t (s.requestFrame Kind.mgCommand src seq [0x06, f]) =
      if 8 ≤ f.toNat then refuseRequest t .badIndex else commandFenceOff t f.toNat :=
  indexed_one ..

section
variable {s : State} {i : Nat} {f : Fence} (hf : s.fences[i]? = some f)
include hf

theorem commandFenceOn_off (hs : f.state = .off) :
    commandFenceOn s i = accept (setFence s i f (if s.fenceHeld f then .pending else .on)) := by
  simp [commandFenceOn, hf, hs]

theorem commandFenceOn_standing (hs : f.state ≠ .off) : commandFenceOn s i = accept s := by
  cases h : f.state <;> simp_all [commandFenceOn]

theorem commandFenceOff_off (hs : f.state = .off) : commandFenceOff s i = accept s := by
  simp [commandFenceOff, hf, hs]

theorem commandFenceOff_standing (hs : f.state ≠ .off) :
    commandFenceOff s i = accept ((setFence s i f .off).report (.fenceOff i)) := by
  cases h : f.state <;> simp_all [commandFenceOff]

end

theorem setFence_held (s : State) (i : Nat) (f : Fence) (st : FenceState) (j : Nat) :
    (setFence s i f st).held j = s.held j :=
  congrArg (·.bind (·.slot)) (State.carriage_congr (hand_carriages ..) j)

theorem setFence_reports (s : State) (i : Nat) (f : Fence) (st : FenceState) :
    (setFence s i f st).reports = s.reports :=
  hand_reports ..

/-- Settles O47: the test of the fences by its told form, and each command by the state of the fence. -/
theorem fencesSwitched : Obligations.FencesSwitched := by
  unfold Obligations.FencesSwitched
  refine ⟨fun s => ?_, fun s src seq f h => ⟨fun hi => ⟨?_, ?_⟩, fun fence hi hf => ?_⟩⟩
  · intro clears
    have hclears : clears = s.clearsFence := by
      funext f
      rw [State.clearsFence, fenceHeld_eq_any]
    rw [hclears]
    refine (testFences_eq_told s).trans ?_
    rw [testFences_fences]
    rfl
  · exact live_request_unchanged h rfl (by simp) ((carryOut_fenceOn ..).trans (if_pos hi))
  · exact live_request_unchanged h rfl (by simp) ((carryOut_fenceOff ..).trans (if_pos hi))
  intro become held
  have hfa : s.arrived.fences[f.toNat]? = some fence := hf
  have hon : carryOut s.arrived (s.requestFrame Kind.mgCommand src seq [0x05, f]) = commandFenceOn s.arrived f.toNat :=
    (carryOut_fenceOn ..).trans (if_neg (by omega))
  have hoff :
      carryOut s.arrived (s.requestFrame Kind.mgCommand src seq [0x06, f]) = commandFenceOff s.arrived f.toNat :=
    (carryOut_fenceOff ..).trans (if_neg (by omega))
  have hheld : s.arrived.fenceHeld fence = true ↔ held := fenceHeld_iff
  have hreports (st : FenceState) : (setFence s.arrived f.toNat fence st).reports = [] :=
    (setFence_reports ..).trans h.settled
  refine ⟨fun ho hr => ?_, fun ho hr => ?_, fun ho => ?_, fun ho => ?_, fun ho hno => ?_, fun ho k m hk hn hm hb => ?_⟩
  · refine live_request_settled h rfl (by simp) (hon.trans ?_) (hreports .pending)
    rw [commandFenceOn_off hfa ho, if_pos (hheld.mpr hr)]
    rfl
  · refine live_request_settled h rfl (by simp) (hon.trans ?_) (hreports .on)
    rw [commandFenceOn_off hfa ho, if_neg (mt hheld.mp hr)]
    rfl
  · exact live_request_unchanged h rfl (by simp) (hon.trans (commandFenceOn_standing hfa ho))
  · exact live_request_unchanged h rfl (by simp) (hoff.trans (commandFenceOff_off hfa ho))
  · refine live_request h rfl (by simp) (hoff.trans (commandFenceOff_standing hfa ho)) rfl rfl ?_ (hreports .off)
    refine finish_report_unheard (hreports .off) fun j m hm => ?_
    obtain ⟨c, hc, hslot⟩ := Option.bind_eq_some_iff.mp ((setFence_held ..).symm.trans hm)
    exact beq_eq_false_iff_ne.mpr (hno c (List.mem_of_getElem? hc) m hslot)
  · refine live_request h rfl (by simp) (hoff.trans (commandFenceOff_standing hfa ho)) rfl rfl ?_ rfl
    have hn' : (setFence s.arrived f.toNat fence .off).NoneHeldBut k :=
      State.noneHeldBut_of_held fun j hj => (setFence_held ..).trans (hn.held hj)
    exact finish_report_awake hn' hk (hreports .off) ((setFence_held ..).trans hm) (by simp [HeldMove.waitsFor, hb])
      (by simp)

end Sys2Proof.Machine
end

section
/-! PROOFS. The writes that replace one record, HEAD (R86), CUP_LAYOUT (R87), SAW (R111) and FENCE (R82), and the bytes
of each record (section 11.4). -/

namespace Sys2Proof.Machine

/-! The bytes of a CUP_LAYOUT record (section 11.4). -/

/-- Two bytes of a signed offset, low byte first. -/
def offsetBytes (v : Int) : List Byte :=
  [BitVec.ofNat 8 (v % 65536).toNat, BitVec.ofNat 8 ((v % 65536).toNat / 256)]

/-- The four bytes of a cup's offsets. -/
def Cup.offsets (c : Cup) : List Byte := offsetBytes c.dx ++ offsetBytes c.dy

/-- An offset of 16 bits is read back from its bytes. -/
theorem signed16_offsetBytes {v : Int} (hlo : -32768 ≤ v) (hhi : v ≤ 32767) :
    signed16 (leValue (offsetBytes v)) = v := by
  have hn : (v % 65536).toNat < 65536 := by omega
  simp only [offsetBytes, leValue, BitVec.toNat_ofNat, Nat.mul_zero, Nat.add_zero]
  rw [show (2 : Nat) ^ 8 = 256 from rfl, digits_two hn, signed16]
  split <;> omega

/-- In bytes that are the offsets of cups one after the other, cup `i` stands at byte `4 * i`. -/
theorem drop_offsets {cups : List Cup} {i : Nat} {c : Cup} (hc : cups[i]? = some c) (rest : List Byte) :
    ∃ later, (cups.flatMap (·.offsets) ++ rest).drop (4 * i) = c.offsets ++ later := by
  induction cups generalizing i with
  | nil => simp at hc
  | cons d cups ih =>
    cases i with
    | zero =>
      obtain rfl : d = c := by simpa using hc
      exact ⟨cups.flatMap (·.offsets) ++ rest, by simp⟩
    | succ i =>
      obtain ⟨later, hl⟩ := ih (i := i) (by simpa using hc)
      exact ⟨later, hl⟩

/-- The sum of the fitted flags of cups, each weighted by its place. -/
def fittedSum (cups : List Cup) (n : Nat) : Nat := ((cups.zipIdx n).map fun p => if p.1.fitted then 2 ^ p.2 else 0).sum

theorem fittedSum_eq (cups : List Cup) (n : Nat) : fittedSum cups n = 2 ^ n * packBits (cups.map (·.fitted)) := by
  induction cups generalizing n with
  | nil => rfl
  | cons c cups ih =>
    have htail : fittedSum (c :: cups) n = (if c.fitted then 2 ^ n else 0) + fittedSum cups (n + 1) := by
      simp [fittedSum]
    rw [htail, ih, List.map_cons, packBits, Nat.pow_succ]
    cases c.fitted with
    | true => simp only [if_true, bit]; ring
    | false => simp [bit]; ring

/-- A packed flag is read back at its place. -/
theorem testBit_packBits (bs : List Bool) (i : Nat) : (packBits bs).testBit i = bs[i]?.getD false := by
  induction bs generalizing i with
  | nil => simp [packBits]
  | cons b bs ih =>
    cases i with
    | zero => cases b <;> simp [packBits, bit, Nat.testBit_zero]
    | succ i =>
      have hbit : bit b ≤ 1 := by cases b <;> decide
      have hhalf : (bit b + 2 * packBits bs) / 2 = packBits bs := by omega
      rw [packBits, Nat.testBit_succ, hhalf, ih, List.getElem?_cons_succ]

/-- The flags byte of a group gives each of its eight cups its fitted flag. -/
theorem fitted_read {cups : List Cup} (hlen : cups.length = 8) {i : Nat} {c : Cup} (hc : cups[i]? = some c) :
    (BitVec.ofNat 8 (BitVec.ofNat 8 (fittedSum cups 0)).toNat).getLsbD i = c.fitted := by
  have hi : i < 8 := hlen ▸ (List.getElem?_eq_some_iff.mp hc).1
  rw [BitVec.ofNat_toNat, BitVec.setWidth_eq, BitVec.getLsbD_ofNat, fittedSum_eq, Nat.pow_zero, Nat.one_mul,
    testBit_packBits, List.getElem?_map, hc]
  simp [hi]

/-- The bytes of eight cups, their offsets within 16 bits, are read back as the cups. -/
theorem parseCups_bytes {cups : List Cup} (hlen : cups.length = 8)
    (hr : ∀ c ∈ cups, -32768 ≤ c.dx ∧ c.dx ≤ 32767 ∧ -32768 ≤ c.dy ∧ c.dy ≤ 32767) :
    parseCups (cups.flatMap (·.offsets) ++ [BitVec.ofNat 8 (fittedSum cups 0)]) = cups := by
  obtain ⟨b, hb⟩ : ∃ b, b = cups.flatMap (·.offsets) ++ [BitVec.ofNat 8 (fittedSum cups 0)] := ⟨_, rfl⟩
  have hflags : field b 32 1 = (BitVec.ofNat 8 (fittedSum cups 0)).toNat := by
    have hoffsets : (cups.flatMap (·.offsets)).length = 32 := by
      simp [List.length_flatMap, Cup.offsets, offsetBytes, hlen]
    rw [hb, field, List.drop_left' hoffsets]
    simp [leValue]
  rw [← hb]
  refine List.ext_getElem? fun i => ?_
  rw [parseCups, List.getElem?_map, hflags]
  by_cases hi : i < 8
  · obtain ⟨c, hc⟩ : ∃ c, cups[i]? = some c := ⟨_, List.getElem?_eq_getElem (hlen ▸ hi)⟩
    obtain ⟨hxlo, hxhi, hylo, hyhi⟩ := hr c (List.mem_of_getElem? hc)
    obtain ⟨later, hl⟩ := drop_offsets hc [BitVec.ofNat 8 (fittedSum cups 0)]
    rw [← hb] at hl
    have hx : field b (4 * i) 2 = leValue (offsetBytes c.dx) := by rw [field, hl]; rfl
    have hy : field b (4 * i + 2) 2 = leValue (offsetBytes c.dy) := by rw [field, ← List.drop_drop, hl]; rfl
    rw [List.getElem?_range hi, Option.map_some, hx, hy, signed16_offsetBytes hxlo hxhi, signed16_offsetBytes hylo hyhi,
      fitted_read hlen hc, hc]
  · rw [List.getElem?_eq_none (by simpa using hi), List.getElem?_eq_none (by omega)]
    rfl

/-! The ranges and the locks of the four records (R82, R86, R87, R111). -/

theorem headInRange_iff {h : HeadRecord} :
    h.inRange = true ↔
      5 ≤ h.r ∧ h.r ≤ 100 ∧ 1 ≤ h.minCups ∧ h.minCups ≤ 32 ∧ 1 ≤ h.minHold ∧ h.minHold ≤ h.minCups ∧
        50 ≤ h.gripTime ∧ h.gripTime ≤ 5000 ∧ 50 ≤ h.releaseTime ∧ h.releaseTime ≤ 5000 ∧ h.press ≤ 200 ∧
        h.contactTol ≤ 300 ∧ h.liftCheck ≤ 2000 ∧ 1 ≤ h.n ∧ h.n ≤ 8 := by
  simp [HeadRecord.inRange, and_assoc]

theorem cupsInRange_iff {cups : List Cup} :
    cups.all (·.inRange) = true ↔ ¬∃ c ∈ cups, c.dx < -2800 ∨ 2800 < c.dx ∨ c.dy < -1100 ∨ 1100 < c.dy := by
  simp [Cup.inRange, and_assoc]

theorem sawInRange_iff {c : SawConfig} {rail : Nat} :
    c.inRange rail = true ↔
      ¬(rail < c.centre ∨ 5000 < c.tolerance ∨ 25000 < c.tableHeight ∨ c.freshness < 10 ∨ 1000 < c.freshness) := by
  simp [SawConfig.inRange, and_assoc]

/-- A head may be configured unless its carriage is installed and not at rest with an EMPTY load (R86). -/
theorem headFree_iff {s : State} {k : Nat} :
    s.headFree k = true ↔
      ¬∃ c, s.carriage k = some c ∧
        ¬((c.ctx.membership = .isolated ∨ c.ctx.membership = .excluded) ∧
            (c.ctx.runState = .halted ∨ c.ctx.runState = .unseen) ∧ c.load = none) := by
  unfold State.headFree
  cases s.carriage k with
  | none => simp
  | some c =>
    rw [Bool.and_eq_true, configurable_iff, Option.isNone_iff_eq_none]
    simp [and_assoc]

/-! The writes, by their tests in order (R156). -/

section
variable {s : State} {i : Nat} {b : List Byte}

theorem writeHead_eq (hb : b.length = 13) :
    writeHead s i b =
      if 4 ≤ i then refuseRequest s .badIndex
      else if ¬(parseHead b).inRange = true then refuseRequest s .badField
      else if ¬s.headFree i = true then refuseRequest s .locked
      else accept { s with headRecords := s.headRecords.set i (some (parseHead b)) } := by
  simp [writeHead, hb]

theorem writeCupLayout_eq (hb : b.length = 33) :
    writeCupLayout s i b =
      if 16 ≤ i then refuseRequest s .badIndex
      else if ¬(parseCups b).all (·.inRange) = true then refuseRequest s .badField
      else if ¬s.headFree (i / 4) = true then refuseRequest s .locked
      else accept { s with cupLayout := s.cupLayout.set i (some (parseCups b)) } := by
  simp only [writeCupLayout, hb, ne_eq, not_true_eq_false, if_false, Bool.not_eq_true', Bool.not_eq_true]

theorem writeSaw_missing (hs : s.saws[i]? = none) : writeSaw s i b = refuseRequest s .badIndex := by
  simp [writeSaw, hs]

theorem writeSaw_eq {saw : Saw} (hs : s.saws[i]? = some saw) (hb : b.length = 10) :
    writeSaw s i b =
      if ¬(parseSaw b).inRange s.railLength = true then refuseRequest s .badField
      else if saw.queue ≠ [] then refuseRequest s .inUse
      else accept (s.withSaws (s.saws.set i { saw with config := some (parseSaw b) })) := by
  have hset : s.modSaw i (fun x => { x with config := some (parseSaw b) }) =
      s.withSaws (s.saws.set i { saw with config := some (parseSaw b) }) := by
    rw [State.modSaw, List.modify_eq_set_getElem?, hs]
    rfl
  simp [writeSaw, hs, hb, hset]

theorem writeFence_missing (hf : s.fences[i]? = none) : writeFence s i b = refuseRequest s .badIndex := by
  simp [writeFence, hf]

theorem writeFence_eq {f : Fence} (hf : s.fences[i]? = some f) (hb : b.length = 8) :
    writeFence s i b =
      if (parseFence b).hi < (parseFence b).lo ∨ s.railLength < (parseFence b).hi then refuseRequest s .badField
      else if f.state ≠ .off then refuseRequest s .inUse
      else accept (s.withFences (s.fences.set i ⟨parseFence b, .off⟩)) := by
  simp [writeFence, hf, hb, Fence.standing]

end

section
variable {s : State} {src seq table i : Byte} {record : List Byte} (h : s.Listens src) (hl : record.length ≤ 46)
include h hl

/-- A write that its table refuses. -/
theorem live_write_refused {code : ResultCode}
    (hw : writeTable s.arrived table.toNat i.toNat record = refuseRequest s.arrived code) :
    live s (fun s => request s Kind.mgWrite src seq (table :: i :: record)) = .next (s.answered src seq code) :=
  live_request_unchanged h rfl (by simp only [List.length_cons]; omega) hw

/-- A write under two tests, each with its refusal, that otherwise leaves `t` (R156). -/
theorem live_write_tested {t : State} {first second : ResultCode} {p q : Prop} [Decidable p] [Decidable q]
    (hw : writeTable s.arrived table.toNat i.toNat record =
      if p then refuseRequest s.arrived first else if q then refuseRequest s.arrived second else accept t)
    (ht : t.reports = []) :
    (p → live s (fun s => request s Kind.mgWrite src seq (table :: i :: record)) = .next (s.answered src seq first)) ∧
      (¬p → q →
        live s (fun s => request s Kind.mgWrite src seq (table :: i :: record)) = .next (s.answered src seq second)) ∧
      (¬p → ¬q →
        live s (fun s => request s Kind.mgWrite src seq (table :: i :: record)) =
          .next (t.replied src seq .ok [])) := by
  have hlen : (table :: i :: record).length ≤ 48 := by simp only [List.length_cons]; omega
  exact ⟨fun hp => live_write_refused h hl (hw.trans (if_pos hp)),
    fun hp hq => live_write_refused h hl (hw.trans ((if_neg hp).trans (if_pos hq))),
    fun hp hq => live_request_settled h rfl hlen (hw.trans ((if_neg hp).trans (if_neg hq))) ht⟩

end

/-- Settles O53: the bytes of the four records, and each write by its tests in order. -/
theorem recordsReplaced : Obligations.RecordsReplaced := by
  unfold Obligations.RecordsReplaced
  intro one two four signed
  refine ⟨fun h hr hmc hmh hg hrel hp hct hl hn => ?_, fun cups hlen hr => parseCups_bytes hlen hr,
    fun c hc ht hth hf => ?_, fun lo hi hlo hhi => ?_, fun s src seq i record h => ?_⟩
  · simp [one, two, parseHead, field, leValue, Nat.mod_eq_of_lt hr, Nat.mod_eq_of_lt hmc, Nat.mod_eq_of_lt hmh,
      digits_two hg, digits_two hrel, Nat.mod_eq_of_lt hp, digits_two hct, digits_two hl, Nat.mod_eq_of_lt hn]
  · simp [one, two, four, parseSaw, field, leValue, digits_four hc, digits_two ht, digits_two hth, digits_two hf]
  · simp [one, two, four, parseFence, field, leValue, digits_four hlo, digits_four hhi]
  intro locked
  have hfree (k : Nat) : s.arrived.headFree k = true ↔ ¬locked k := headFree_iff
  refine ⟨fun hb => ?_, fun hb => ?_, fun hb => ?_, fun hb => ?_⟩
  · intro run new allowed
    have hallowed : new.inRange = true ↔ allowed := headInRange_iff
    have hw : writeTable s.arrived (0x04 : Byte).toNat i.toNat record = _ := writeHead_eq hb
    have hrun (hi : i.toNat ≤ 3) := live_write_tested (seq := seq) h (by omega)
      (hw.trans (if_neg (show ¬4 ≤ i.toNat by omega))) h.settled
    refine ⟨fun hi => live_write_refused h (by omega) (hw.trans (if_pos hi)), fun hi hn => ?_, fun hi ha hk => ?_,
      fun hi ha hk => ?_⟩
    · exact (hrun hi).1 (mt hallowed.mp hn)
    · exact (hrun hi).2.1 (not_not.mpr (hallowed.mpr ha)) fun hf => (hfree _).mp hf hk
    · exact (hrun hi).2.2 (not_not.mpr (hallowed.mpr ha)) (not_not.mpr ((hfree _).mpr hk))
  · intro run bad
    have hgood : (parseCups record).all (·.inRange) = true ↔ ¬bad := cupsInRange_iff
    have hw : writeTable s.arrived (0x05 : Byte).toNat i.toNat record = _ := writeCupLayout_eq hb
    have hrun (hi : i.toNat ≤ 15) := live_write_tested (seq := seq) h (by omega)
      (hw.trans (if_neg (show ¬16 ≤ i.toNat by omega))) h.settled
    refine ⟨fun hi => live_write_refused h (by omega) (hw.trans (if_pos hi)), fun hi hn => ?_, fun hi ha hk => ?_,
      fun hi ha hk => ?_⟩
    · exact (hrun hi).1 fun hg => hgood.mp hg hn
    · exact (hrun hi).2.1 (not_not.mpr (hgood.mpr ha)) fun hf => (hfree _).mp hf hk
    · exact (hrun hi).2.2 (not_not.mpr (hgood.mpr ha)) (not_not.mpr ((hfree _).mpr hk))
  · intro run new bad
    have hgood : new.inRange s.railLength = true ↔ ¬bad := sawInRange_iff
    refine ⟨fun hs => live_write_refused h (by omega) (writeSaw_missing (s := s.arrived) hs), fun saw hs => ?_⟩
    have hw : writeTable s.arrived (0x06 : Byte).toNat i.toNat record = _ := writeSaw_eq hs hb
    obtain ⟨hbad, hused, hdone⟩ := live_write_tested h (by omega) hw h.settled
    exact ⟨fun hx => hbad fun hg => hgood.mp hg hx, fun hx => hused (not_not.mpr (hgood.mpr hx)),
      fun hx hq => hdone (not_not.mpr (hgood.mpr hx)) (not_not.mpr hq)⟩
  · intro run new
    refine ⟨fun hf => live_write_refused h (by omega) (writeFence_missing (s := s.arrived) hf), fun f hf => ?_⟩
    have hw : writeTable s.arrived (0x09 : Byte).toNat i.toNat record = _ := writeFence_eq hf hb
    obtain ⟨hbad, hused, hdone⟩ := live_write_tested h (by omega) hw h.settled
    have hgood (hle : new.lo ≤ new.hi) (hrail : new.hi ≤ s.railLength) :
        ¬(new.hi < new.lo ∨ s.railLength < new.hi) := by omega
    exact ⟨hbad, fun hle hrail => hused (hgood hle hrail), fun hle hrail ho => hdone (hgood hle hrail) (not_not.mpr ho)⟩

end Sys2Proof.Machine
end

section
/-! PROOFS. The two deadlines of a load (R103, R104), and the held move that a load's end wakes (R74, R91). -/

namespace Sys2Proof.Machine

/-! The report of a load that is free again (R74, R91). -/

/-- The held move of a carriage waits for its load. -/
def Carriage.Woken (c : Carriage) : Prop := ∃ held, c.slot = some held ∧ held.cause = .loadBusy

section
variable {s : State} {k : Nat} {c : Carriage} (hn : s.NoneHeldBut k) (hs : s.reports = [])
  (hslot : s.held k = c.slot)
include hn hs hslot

/-- A step whose one report is that of carriage `k`'s load: its held move is re-evaluated where it waits for that. -/
theorem finish_loadFree_asleep (hw : ¬c.Woken) : finish (s.report (.loadFree k)) = s := by
  refine finish_report_unheard hs fun j m hm => ?_
  by_cases hj : j = k
  · subst hj
    have hcause : m.cause ≠ .loadBusy := fun hx => hw ⟨m, hslot.symm.trans hm, hx⟩
    simp [HeldMove.waitsFor, hcause]
  · exact absurd ((hn.held hj).symm.trans hm) nofun

theorem finish_loadFree_awake (hw : c.Woken) (hk : k < 4) :
    finish (s.report (.loadFree k)) = (reevaluate s k).withReports [] := by
  obtain ⟨m, hm, hcause⟩ := hw
  exact finish_report_awake hn hk hs (hslot.trans hm) (by simp [HeldMove.waitsFor, hcause]) nofun

end

/-! The two deadlines (R103, R104). -/

section
variable {s : State} {k : Nat} {c : Carriage} (hc : s.carriage k = some c)
include hc

theorem load_eq : s.load k = c.load := by rw [State.load, hc, Option.bind_some]

theorem takeGripDeadline_none (hl : c.load = none) : takeGripDeadline s k = s := by
  rw [takeGripDeadline, load_eq hc, hl]

theorem takeReleaseDeadline_none (hl : c.load = none) : takeReleaseDeadline s k = s := by
  rw [takeReleaseDeadline, load_eq hc, hl]

variable {l : LoadRecord} (hl : c.load = some l)
include hl

theorem takeGripDeadline_idle
    (h : l.phase ≠ .gripping ∨ ∀ d, l.deadline = some d → reached s.lineClock d = false) : takeGripDeadline s k = s := by
  rw [takeGripDeadline, load_eq hc, hl]
  dsimp only
  split
  · rename_i d hp hd
    exact if_neg (Bool.eq_false_iff.mp (h.resolve_left (not_not.mpr hp) d hd))
  · rfl

theorem takeReleaseDeadline_idle
    (h : l.phase ≠ .releasing ∨ ∀ d, l.deadline = some d → reached s.lineClock d = false) :
    takeReleaseDeadline s k = s := by
  rw [takeReleaseDeadline, load_eq hc, hl]
  dsimp only
  split
  · rename_i d hp hd
    exact if_neg (Bool.eq_false_iff.mp (h.resolve_left (not_not.mpr hp) d hd))
  · rfl

variable {d : Clock} (hd : l.deadline = some d) (hr : reached s.lineClock d = true)
include hd hr

theorem takeGripDeadline_due (hp : l.phase = .gripping) :
    takeGripDeadline s k =
      (hand (emptyLoad (s.modEntry l.jobSaw l.jobSeq (·.queue)) k) .gripFail (some k) (.job l.jobSaw l.jobSeq) .none
        .absent).report (.loadFree k) := by
  simp only [takeGripDeadline, load_eq hc, hl, hp, hd, hr, if_true]

theorem takeReleaseDeadline_due (hp : l.phase = .releasing) :
    takeReleaseDeadline s k =
      setLoad (haltCarriage s k .releaseFail (some .releaseFail)) k { l with deadline := none } := by
  simp only [takeReleaseDeadline, load_eq hc, hl, hp, hd, hr, if_true]

end

theorem setLoad_follows (s : State) (k : Nat) (l : LoadRecord) : s.Follows 0 (setLoad s k l) :=
  .modCarriage s k fun _ h => h

/-- What a release deadline leaves of the carriage: the flag, a halt, and the load without its deadline (R104). -/
def Carriage.releaseFailed (l : LoadRecord) (c : Carriage) : Carriage :=
  { (c.flagged .releaseFail).halted with load := some l }

theorem releaseFailed_carriages (s : State) (k : Nat) (l : LoadRecord) :
    (setLoad (haltCarriage s k .releaseFail (some .releaseFail)) k l).carriages =
      s.carriages.modify k (·.releaseFailed l) := by
  rw [setLoad, State.modCarriage_carriages, haltCarriage_some_carriages, List.modify_modify_eq]
  rfl

@[simp] theorem requestStop_fences (s : State) (k : Nat) (a : Axis) (r : StopReason) :
    (requestStop s k a r).fences = s.fences := by
  rw [requestStop_eq]
  rfl

@[simp] theorem hand_fences (s : State) (a : NoticeKind) (b : Option Nat) (c : Reference) (d : Cause) (e : Detail) :
    (hand s a b c d e).fences = s.fences := by
  rw [hand_eq]
  rfl

/-- A halt leaves every fence. -/
@[simp] theorem haltCarriage_fences (s : State) (k : Nat) (r : StopReason) (f : Option Flag) :
    (haltCarriage s k r f).fences = s.fences := by
  have hstops (u : State) : (requestStops u k r).fences = u.fences := by simp [requestStops]
  have hnone (u : State) : (haltCarriage u k r none).fences = u.fences := by
    unfold haltCarriage
    dsimp only
    split
    · rfl
    · have hend : (endHeld u k r.endCause .absent).fences = u.fences := by
        unfold endHeld
        split <;> simp
      simp [handStateChange, hstops, enterStopping, hend]
    · rfl
    · exact hstops u
    · exact hstops u
    · exact hstops u
  cases f with
  | none => exact hnone s
  | some f =>
    have hflag : (raiseFlag s k f).fences = s.fences := by
      unfold raiseFlag
      split
      · rfl
      · split <;> simp
    rw [haltCarriage_flag, hnone, hflag]

/-- Settles O33: each deadline by its load, and the step that a due one is. -/
theorem headDeadlinesTaken : Obligations.HeadDeadlinesTaken := by
  unfold Obligations.HeadDeadlinesTaken
  intro s k c h hn hc
  have grip (hg : takeGripDeadline s k = s) : exec (.gripDeadline k) s = .next s :=
    live_settled (g := (takeGripDeadline · k)) h hg h.settled
  have release (hg : takeReleaseDeadline s k = s) : exec (.releaseDeadline k) s = .next s :=
    live_settled (g := (takeReleaseDeadline · k)) h hg h.settled
  refine ⟨fun hl => ⟨grip (takeGripDeadline_none hc hl), release (takeReleaseDeadline_none hc hl)⟩,
    fun l hl => ⟨fun hx => grip (takeGripDeadline_idle hc hl hx), fun hx => release (takeReleaseDeadline_idle hc hl hx),
      fun d hd hr => ⟨fun hp => ?_, fun hno hp => ?_⟩⟩⟩
  · intro failed woken
    have hrun : exec (.gripDeadline k) s = .next (finish (failed.report (.loadFree k))) :=
      live_running (g := fun s => takeGripDeadline s k) h (takeGripDeadline_due hc hl hd hr hp)
    have hcarriages : failed.carriages =
        s.carriages.modify k fun c => { c with load := none, modulesInForce := c.modulesReported } := hand_carriages ..
    have hnone : failed.NoneHeldBut k := hn.of_modify hcarriages fun _ => rfl
    have hreports : failed.reports = [] := (hand_reports ..).trans h.settled
    have hslot : failed.held k = c.slot :=
      (State.held_of_modify hcarriages (fun _ => rfl) k).trans (by rw [State.held, hc, Option.bind_some])
    refine ⟨fun hw => ?_, fun hw hk => ?_⟩
    · rw [hrun, finish_loadFree_asleep hnone hreports hslot hw]
    · rw [hrun, finish_loadFree_awake hnone hreports hslot hw hk]
      rfl
  · have hkeeps := (haltCarriage_keeps s k .releaseFail (some .releaseFail)).trans
      (setLoad_follows _ k { l with deadline := none }).toKeeps
    have hcarriages := releaseFailed_carriages s k { l with deadline := none }
    have hreports : (setLoad (haltCarriage s k .releaseFail (some .releaseFail)) k { l with deadline := none }).reports =
        [] := (haltCarriage_reports ..).trans h.settled
    refine ⟨_, c.releaseFailed { l with deadline := none },
      live_settled (g := (takeReleaseDeadline · k)) h (takeReleaseDeadline_due hc hl hd hr hp) hreports, ?_, rfl, ?_, ?_,
      fun hlost axis node hnode => ?_, fun j hj => State.carriage_modify_ne hcarriages hj, hkeeps.saws, hkeeps.bays,
      haltCarriage_fences .., hkeeps.outside⟩
    · rw [State.carriage_modify_self hcarriages, hc, Option.map_some]
    · exact Carriage.halted_flags _
    · exact Carriage.halted_runState _
    · exact (haltCarriage_some_stops hc hlost .releaseFail .releaseFail).node hnode

end Sys2Proof.Machine
end

section
/-! PROOFS. A pick and a release (R94, R96): the pick check (R121) and the place check (R123) condition by condition, and
the GRIP that passes them. -/

namespace Sys2Proof.Machine

/-! The step of a GRIP that changes the load's state (R90, R97). -/

/-- A GRIP payload of a listed length is no longer than a frame may be. -/
theorem parseGrip_length {form : GripForm} {payload : List Byte} {g : GripFields} (h : parseGrip form payload = some g) :
    payload.length ≤ 48 := by
  have hsize : gripSize form ≤ 4 := by cases form <;> decide
  unfold parseGrip at h
  dsimp only at h
  split at h
  · omega
  · split at h
    · omega
    · cases h

section
variable {s : State} {form : GripForm} {dst src seq : Byte} {payload : List Byte} {k : Nat} {c : Carriage} {g : GripFields}
  (h : s.Running) (ho : ¬s.Own dst) (hb : dst.toNat ≠ 63) (hr : s.roleOf dst.toNat = some (.head k))
  (hc : s.carriage k = some c) (hm : c.ctx.membership = .normal) (he : s.inputs.emergency = false)
  (hl : ∀ l, c.load = some l → l.phase = .loaded ∨ l.phase = .rejected) (hg : parseGrip form payload = some g)
include h ho hb hr hc hm he hl hg

/-- A GRIP that its judgement refuses: its notice, and nothing else. -/
theorem exec_grip_judged_refused {cause : Cause}
    (hj : judgeGrip s.heardU k c form ⟨dst, src, Kind.grip form, seq, payload⟩ g = refuseGrip s.heardU k g.job cause) :
    exec (.grip form dst src seq payload) s = .next ((handGrip s k g.job .refused (.cause cause)).tookU .good) :=
  exec_grip_refused h (parseGrip_length hg) ho hb hr ((gripFrame_judged (s := s.heardU) hc hm he hl hg).trans hj)

/-- A GRIP that its judgement forwards, leaving the part in `moved` where the D-forward queue has room. -/
theorem exec_grip_judged_forwarded {image : Cups} {effect : State → State} {moved : State}
    (hj : judgeGrip s.heardU k c form ⟨dst, src, Kind.grip form, seq, payload⟩ g =
      forwardGrip s.heardU k form ⟨dst, src, Kind.grip form, seq, payload⟩ g image effect)
    (hmoved : effect ((s.heardU.sentDown ⟨dst, src, Kind.grip form, seq, gripBytes form image payload⟩).modCarriage k
      fun c => { c with image := image }) = moved.heardU) (hn : moved.reports = s.reports) :
    (8 ≤ s.port.dForward.length → exec (.grip form dst src seq payload) s = .next (s.tookU .overrun)) ∧
      (s.port.dForward.length < 8 →
        exec (.grip form dst src seq payload) s =
          .next
            (State.tookU
              (if image &&& gripCarried form = g.cups &&& gripCarried form then moved
              else handGrip moved k g.job .clamped (.cups (cupCount image)))
              .good)) := by
  have hp := parseGrip_length hg
  have hjudged := (gripFrame_judged (s := s.heardU) hc hm he hl hg).trans hj
  have hnone : moved.reports = [] := hn.trans h.settled
  refine ⟨fun hq => exec_grip h hp ho hb hr (hjudged.trans (forwardGrip_full (s := s.heardU) hq ..)) h.settled,
    fun hq => exec_grip h hp ho hb hr ?_ ?_⟩
  · rw [hjudged, forwardGrip_sent (s := s.heardU) hq hmoved, handGrip_heardU]
    split <;> rfl
  · split
    · exact hnone
    · exact (handGrip_reports ..).trans hnone

end

/-- The load and the image of a carriage set in one change. -/
theorem setLoad_image (s : State) (k : Nat) (image : Cups) (l : LoadRecord) :
    setLoad (s.modCarriage k fun c => { c with image := image }) k l =
      s.modCarriage k fun c => { c with image := image, load := some l } := modCarriage_modCarriage ..

/-! The pick check (R121). -/

theorem allowsBay_fails_iff {e : Entry} {b : Nat} :
    (!e.allowsBay b) = true ↔ ¬(e.sourceBay = none ∨ e.sourceBay = some b) := by
  cases h : e.sourceBay <;> simp [Entry.allowsBay, h]

theorem matchesBay_fails_iff {e : Entry} {bay : Bay} :
    (!e.matchesBay bay) = true ↔
      ¬(bay.material = e.material ∧ bay.length = e.length ∧ bay.width = e.width ∧ bay.thickness = e.thickness) := by
  rw [Bool.not_eq_true', Bool.eq_false_iff, ne_eq, not_iff_not]
  simp [Entry.matchesBay, and_assoc]

/-- No entry of the saw's queue has the sequence, and the check finds none. -/
theorem pickCheck_noEntry {s : State} {j q : Nat}
    (h : ∀ saw, s.saws[j]? = some saw → ∀ e ∈ saw.queue, e.sequence ≠ q) (tol p z : Nat) :
    pickCheck s tol j q p z = .error .noEntry := by
  unfold pickCheck
  cases hs : s.saws[j]? with
  | none => rfl
  | some saw =>
    have hno : entryIndex saw.queue q = none :=
      List.findIdx?_eq_none_iff.mpr fun e he => beq_eq_false_iff_ne.mpr (h saw hs e he)
    simp [hno]

section
variable {s : State} {j q i : Nat} {saw : Saw} {e : Entry} (hs : s.saws[j]? = some saw) (he : saw.queue[i]? = some e)
  (hq : e.sequence = q) (hfirst : ∀ i', i' < i → ∀ e', saw.queue[i']? = some e' → e'.sequence ≠ q)
include hs he hq hfirst

/-- The first entry with the sequence is the one that the check is about. -/
theorem pickEntry_eq :
    ((s.saws[j]?).bind fun saw => (entryIndex saw.queue q).bind fun i => (saw.queue[i]?).map fun e => (i, e)) =
      some (i, e) := by
  have hi : entryIndex saw.queue q = some i :=
    findIdx?_eq_some_iff_first.mpr
      ⟨⟨e, he, by simp [hq]⟩, fun i' hi' ⟨e', he', hx⟩ => hfirst i' hi' e' he' (by simpa using hx)⟩
  simp [hs, hi, he]

variable (tol p z : Nat)

theorem pickCheck_state (hst : e.state ≠ .queued) : pickCheck s tol j q p z = .error .state := by
  simp only [pickCheck, pickEntry_eq hs he hq hfirst, if_pos hst]

variable (hst : e.state = .queued)
include hst

theorem pickCheck_ahead (hl : s.lookahead < i + 1) : pickCheck s tol j q p z = .error .ahead := by
  simp only [pickCheck, pickEntry_eq hs he hq hfirst, if_neg (not_not.mpr hst), if_pos hl]

variable (hl : i + 1 ≤ s.lookahead)
include hl

theorem pickCheck_noWindow (hb : s.bayAt p = none) : pickCheck s tol j q p z = .error .noWindow := by
  simp only [pickCheck, pickEntry_eq hs he hq hfirst, if_neg (not_not.mpr hst), if_neg (Nat.not_lt.mpr hl), hb,
    Option.bind_none]

/-- Over a bay, the conditions on it in the order of R121. -/
theorem pickCheck_over {b : Nat} {bay : Bay} (hb : s.bayAt p = some b) (hbay : s.bays[b]? = some bay) :
    pickCheck s tol j q p z =
      if bay.state = .empty then .error .bayEmpty
      else if bay.state = .restock then .error .bayRestock
      else if !e.allowsBay b then .error .wrongBay
      else if !e.matchesBay bay then .error .mismatch
      else if bay.top + tol < z then .error .notLowered
      else .ok ⟨b, bay.top, e.length, e.width, e.thickness⟩ := by
  simp only [pickCheck, pickEntry_eq hs he hq hfirst, if_neg (not_not.mpr hst), if_neg (Nat.not_lt.mpr hl), hb, hbay,
    Option.bind_some, Option.map_some]

end

/-! A pick judged (R92, R94). -/

section
variable {s : State} {k : Nat} {c : Carriage} {form : GripForm} {f : Frame} {g : GripFields} {image : Cups}
  (hl : c.load = none) (hi : resultingImage form g.cups c.image c.modulesInForce = image)
  (hon : image &&& ~~~c.image ≠ 0)
include hl hi hon

/-- A pick without head record or position is refused. -/
theorem judgeGrip_unplaced_pick (hno : s.head k = none ∨ c.ctx.lastX = none ∨ c.ctx.lastZ = none) :
    judgeGrip s k c form f g = refuseGrip s k g.job .notActive := by
  subst hi
  simp only [judgeGrip, hl, if_neg hon]
  split
  · rename_i hh hx hz
    simp [hh, hx, hz] at hno
  · rfl

variable {h : HeadRecord} {x z : AxisReport} (hh : s.head k = some h) (hx : c.ctx.lastX = some x)
  (hz : c.ctx.lastZ = some z)
include hh hx hz

theorem judgeGrip_pick_noJob (hj : g.job = none) : judgeGrip s k c form f g = refuseGrip s k g.job .noJob := by
  subst hi
  simp only [judgeGrip, hl, if_neg hon, hh, hx, hz, judgePick, hj]

variable {j q : Nat} (hj : g.job = some (j, q))
include hj

/-- The pick check fails, and the pick is refused with its cause. -/
theorem judgeGrip_pick_failed {cause : Cause} (hc : pickCheck s h.contactTol j q x.position z.position = .error cause) :
    judgeGrip s k c form f g = refuseGrip s k g.job cause := by
  subst hi
  simp only [judgeGrip, hl, if_neg hon, hh, hx, hz, judgePick, hj, hc]

/-- The pick check passes: the clamp, the uncarried cups and the cup count, in the order of R94. -/
theorem judgeGrip_pick {a : PickAnswer} (hc : pickCheck s h.contactTol j q x.position z.position = .ok a) {mask : Cups}
    (hm : allowedMask s k h.r c.modulesInForce a.length a.width = mask) :
    judgeGrip s k c form f g =
      if image &&& ~~~mask &&& ~~~(gripCarried form) ≠ 0 then refuseGrip s k g.job .uncovered
      else if cupCount (image &&& mask) < h.minCups then refuseGrip s k g.job .smallPanel
      else forwardGrip s k form f g (image &&& mask) (beginLoad k h j q a (image &&& mask)) := by
  subst hi hm
  simp only [judgeGrip, hl, if_neg hon, hh, hx, hz, judgePick, hj, hc]

end

/-- The load of a pick that is forwarded (R94). -/
def pickedLoad (now : Clock) (h : HeadRecord) (j q : Nat) (a : PickAnswer) (image : Cups) : LoadRecord where
  phase := .gripping
  jobSaw := j
  jobSeq := q
  originBay := a.bay
  pickTop := a.top
  thickness := a.thickness
  length := a.length
  width := a.width
  mask := image
  putBack := false
  deadline := some (now + BitVec.ofNat 32 h.gripTime)
  sum := 0
  count := 0
  beforeRelease := none

/-- A forwarded pick: image and load of the carriage, then its entry (R94, R116). -/
theorem beginLoad_eq (s : State) (k : Nat) (h : HeadRecord) (j q : Nat) (a : PickAnswer) (image : Cups) :
    beginLoad k h j q a image (s.modCarriage k fun c => { c with image := image }) =
      (s.modCarriage k fun c =>
        { c with image := image, load := some (pickedLoad s.lineClock h j q a image) }).modEntry j q (·.pick k) :=
  congrArg (State.modEntry · j q (·.pick k)) (setLoad_image ..)

/-- Settles O20: the steps of R94 and the conditions of R121 in their order, and the pick that passes them all. -/
theorem pickForwarded : Obligations.PickForwarded := by
  unfold Obligations.PickForwarded
  intro s k form dst src seq payload c g h ho hb hr hc hm he hl hg run image reference refused hon
  have hphase (l : LoadRecord) (hx : c.load = some l) : l.phase = .loaded ∨ l.phase = .rejected :=
    absurd (hl.symm.trans hx) nofun
  have refuse {cause : Cause} (hx : judgeGrip s.heardU k c form ⟨dst, src, Kind.grip form, seq, payload⟩ g =
      refuseGrip s.heardU k g.job cause) : refused cause :=
    exec_grip_judged_refused h ho hb hr hc hm he hphase hg hx
  refine ⟨fun hno => refuse (judgeGrip_unplaced_pick (s := s.heardU) hl rfl hon hno), fun hd x z hh hx hz =>
    ⟨fun hj => refuse (judgeGrip_pick_noJob (s := s.heardU) hl rfl hon hh hx hz hj), fun j q hj => ?_⟩⟩
  have fail {cause : Cause} (hck : pickCheck s hd.contactTol j q x.position z.position = .error cause) : refused cause :=
    refuse (judgeGrip_pick_failed (s := s.heardU) hl rfl hon hh hx hz hj hck)
  refine ⟨fun hno => fail (pickCheck_noEntry hno ..), fun saw i e hs hei hq hfirst =>
    ⟨fun hst => fail (pickCheck_state hs hei hq hfirst _ _ _ hst),
      fun hst hla => fail (pickCheck_ahead hs hei hq hfirst _ _ _ hst hla),
      fun hst hla hw => fail (pickCheck_noWindow hs hei hq hfirst _ _ _ hst hla hw), fun b bay hst hla hw hbay => ?_⟩⟩
  intro named same top mask clamped
  have hcheck := pickCheck_over hs hei hq hfirst hd.contactTol x.position z.position hst hla hw hbay
  have hnamed : (!e.allowsBay b) = true ↔ ¬named := allowsBay_fails_iff
  have hsame : (!e.matchesBay bay) = true ↔ ¬same := matchesBay_fails_iff
  have hactive (ha : bay.state = .active) := hcheck.trans ((if_neg (by simp [ha])).trans (if_neg (by simp [ha])))
  have hfits (ha : bay.state = .active) (hn : named) (hsm : same) :=
    (hactive ha).trans ((if_neg (mt hnamed.mp (not_not.mpr hn))).trans (if_neg (mt hsame.mp (not_not.mpr hsm))))
  refine ⟨fun hx => fail (hcheck.trans (if_pos hx)), fun hx => fail ?_,
    fun ha hn => fail ((hactive ha).trans (if_pos (hnamed.mpr hn))), fun ha hn hsm => fail ?_,
    fun ha hn hsm hlow => fail ((hfits ha hn hsm).trans (if_pos hlow)), fun ha hn hsm hlow => ?_⟩
  · exact hcheck.trans ((if_neg (by simp [hx])).trans (if_pos hx))
  · exact (hactive ha).trans ((if_neg (mt hnamed.mp (not_not.mpr hn))).trans (if_pos (hsame.mpr hsm)))
  have hpick := judgeGrip_pick (s := s.heardU) (f := ⟨dst, src, Kind.grip form, seq, payload⟩) (mask := mask)
    hl rfl hon hh hx hz hj ((hfits ha hn hsm).trans (if_neg (Nat.not_lt.mpr hlow))) rfl
  refine ⟨fun hu => refuse (hpick.trans (if_pos hu)),
    fun hu hsmall => refuse (hpick.trans ((if_neg (not_not.mpr hu)).trans (if_pos hsmall))), fun hu hcount => ?_⟩
  have hforward := hpick.trans ((if_neg (not_not.mpr hu)).trans (if_neg (Nat.not_lt.mpr hcount)))
  let load := pickedLoad s.lineClock hd j q ⟨b, top, e.length, e.width, e.thickness⟩ clamped
  have hsent := exec_grip_judged_forwarded h ho hb hr hc hm he hphase hg hforward
    (moved := ((s.changed k fun c => { c with image := clamped, load := some load }).sentDown
      ⟨dst, src, Kind.grip form, seq, gripBytes form clamped payload⟩).modEntry j q (·.pick k))
    (beginLoad_eq (s.heardU.sentDown _) ..) rfl
  rw [hj] at hsent
  exact hsent

/-! The place check (R113, R123) and the put-back (R96). -/

theorem readyForPanel_iff {saw : Saw} {cfg : SawConfig} (hcfg : saw.config = some cfg) (now : Clock) :
    saw.readyForPanel now = true ↔
      (∃ t, saw.arrival = some t ∧ age now t ≤ cfg.freshness) ∧ saw.ready = true ∧ saw.infeedClear = true := by
  cases ha : saw.arrival <;> simp [Saw.readyForPanel, hcfg, ha, and_assoc]

/-- The saw's window does not contain the position, or the saw is unwritten or not there. -/
theorem placeCheck_away {s : State} {j p : Nat}
    (h : ∀ saw cfg, ¬(s.saws[j]? = some saw ∧ saw.config = some cfg ∧ p ≤ cfg.centre + cfg.tolerance ∧
      cfg.centre ≤ p + cfg.tolerance)) (tol q z t : Nat) :
    placeCheck s tol j q p z t = some .notAtSaw := by
  unfold placeCheck
  cases hs : s.saws[j]? with
  | none => rfl
  | some saw =>
    cases hcfg : saw.config with
    | none => simp [hcfg]
    | some cfg =>
      have hout : inWindow p cfg.centre cfg.tolerance = false := by
        simpa [inWindow] using fun hlo hhi => h saw cfg ⟨hs, hcfg, hlo, hhi⟩
      simp [hcfg, hout]

/-- Over its own saw, the conditions of R123 in their order. -/
theorem placeCheck_over {s : State} {j p : Nat} {saw : Saw} {cfg : SawConfig} (hs : s.saws[j]? = some saw)
    (hcfg : saw.config = some cfg) (hlo : p ≤ cfg.centre + cfg.tolerance) (hhi : cfg.centre ≤ p + cfg.tolerance)
    (tol q z t : Nat) :
    placeCheck s tol j q p z t =
      if cfg.tableHeight + t + tol < z then some .notLowered
      else if !saw.readyForPanel s.lineClock then some .sawBusy
      else if saw.queue.head?.map (·.sequence) = some q then none
      else some .notHead := by
  have hin : inWindow p cfg.centre cfg.tolerance = true := by simp [inWindow, hlo, hhi]
  unfold placeCheck
  cases hq : saw.queue <;> simp [hs, hcfg, hin, hq]

theorem head_sequence_iff {queue : List Entry} {q : Nat} :
    queue.head?.map (·.sequence) = some q ↔ ∃ e rest, queue = e :: rest ∧ e.sequence = q := by
  cases queue <;> simp

theorem isPutBack_iff {s : State} {h : HeadRecord} {l : LoadRecord} {x z : Nat} :
    isPutBack s h l x z = true ↔
      ∃ bay, s.bays[l.originBay]? = some bay ∧ x ≤ bay.centre + bay.tolerance ∧ bay.centre ≤ x + bay.tolerance ∧
        z ≤ l.pickTop + h.contactTol := by
  cases hb : s.bays[l.originBay]? <;> simp [isPutBack, hb, inWindow, and_assoc]

/-! A release judged (R92, R96). -/

section
variable {s : State} {k : Nat} {c : Carriage} {form : GripForm} {f : Frame} {g : GripFields} {l : LoadRecord}
  {h : HeadRecord} {clamped : Cups} (hl : c.load = some l) (hh : s.head k = some h)
  (hi : resultingImage form g.cups c.image c.modulesInForce &&&
    allowedMask s k h.r c.modulesInForce l.length l.width = clamped) (hfew : cupCount clamped < h.minHold)
include hl hh hi hfew

/-- A release without position is refused. -/
theorem judgeGrip_unplaced_release (hno : c.ctx.lastX = none ∨ c.ctx.lastZ = none) :
    judgeGrip s k c form f g = refuseGrip s k g.job .notActive := by
  subst hi
  simp only [judgeGrip, hl, hh, if_neg (Nat.not_le.mpr hfew)]
  split
  · rename_i hx hz
    simp [hx, hz] at hno
  · rfl

variable {x z : AxisReport} (hx : c.ctx.lastX = some x) (hz : c.ctx.lastZ = some z)
include hx hz

/-- A release, in the order of R96. -/
theorem judgeGrip_release :
    judgeGrip s k c form f g = judgeRelease s k h l x.position z.position form f g clamped := by
  subst hi
  simp only [judgeGrip, hl, hh, if_neg (Nat.not_le.mpr hfew), hx, hz]

end

section
variable {s : State} {k : Nat} {h : HeadRecord} {l : LoadRecord} {x z : Nat} {form : GripForm} {f : Frame} {g : GripFields}
  {image : Cups} (hj : g.job = some (l.jobSaw, l.jobSeq))
include hj

theorem judgeRelease_putBack (hb : isPutBack s h l x z = true) :
    judgeRelease s k h l x z form f g image = forwardGrip s k form f g image (beginRelease k h l true image) := by
  rw [judgeRelease, if_neg (not_not.mpr hj), if_pos hb]

variable (hb : ¬isPutBack s h l x z = true)
include hb

theorem judgeRelease_rejected (hp : l.phase = .rejected) :
    judgeRelease s k h l x z form f g image = refuseGrip s k g.job .notAtSaw := by
  rw [judgeRelease, if_neg (not_not.mpr hj), if_neg hb, if_neg (by simp [hp])]

variable (hp : l.phase = .loaded)
include hp

theorem judgeRelease_failed {cause : Cause}
    (hc : placeCheck s h.contactTol l.jobSaw l.jobSeq x z l.thickness = some cause) :
    judgeRelease s k h l x z form f g image = refuseGrip s k g.job cause := by
  rw [judgeRelease, if_neg (not_not.mpr hj), if_neg hb, if_pos hp, hc]

theorem judgeRelease_place (hc : placeCheck s h.contactTol l.jobSaw l.jobSeq x z l.thickness = none) :
    judgeRelease s k h l x z form f g image = forwardGrip s k form f g image (beginRelease k h l false image) := by
  rw [judgeRelease, if_neg (not_not.mpr hj), if_neg hb, if_pos hp, hc]

end

/-- The load of a release that is forwarded (R96). -/
def LoadRecord.releasing (l : LoadRecord) (now : Clock) (h : HeadRecord) (putBack : Bool) (image : Cups) : LoadRecord :=
  { l with
    phase := .releasing
    mask := image
    putBack := putBack
    deadline := some (now + BitVec.ofNat 32 h.releaseTime)
    beforeRelease := some l.phase }

/-- A forwarded release: image and load of the carriage (R96). -/
theorem beginRelease_eq (s : State) (k : Nat) (h : HeadRecord) (l : LoadRecord) (putBack : Bool) (image : Cups) :
    beginRelease k h l putBack image (s.modCarriage k fun c => { c with image := image }) =
      s.modCarriage k fun c => { c with image := image, load := some (l.releasing s.lineClock h putBack image) } :=
  setLoad_image ..

/-- Settles O21: the steps of R96 and the conditions of R123 in their order, and the release that passes them all. -/
theorem releaseForwarded : Obligations.ReleaseForwarded := by
  unfold Obligations.ReleaseForwarded
  intro s k form dst src seq payload c g h l hrun ho hb hr hc hm he hl hp hg hh run reference refused clamped passes hfew
  have hphase (l' : LoadRecord) (hl' : c.load = some l') : l'.phase = .loaded ∨ l'.phase = .rejected := by
    cases hl.symm.trans hl'
    exact hp
  have refuse {cause : Cause} (hx : judgeGrip s.heardU k c form ⟨dst, src, Kind.grip form, seq, payload⟩ g =
      refuseGrip s.heardU k g.job cause) : refused cause :=
    exec_grip_judged_refused hrun ho hb hr hc hm he hphase hg hx
  refine ⟨fun hno => refuse (judgeGrip_unplaced_release (s := s.heardU) hl hh rfl hfew hno), fun x z hx hz => ?_⟩
  intro overBay atSaw
  have hrelease := judgeGrip_release (s := s.heardU) (f := ⟨dst, src, Kind.grip form, seq, payload⟩)
    hl hh rfl hfew hx hz
  refine ⟨fun hj => refuse (hrelease.trans (if_pos hj)), fun hj => ?_⟩
  have pass {putBack : Bool} (hf : judgeGrip s.heardU k c form ⟨dst, src, Kind.grip form, seq, payload⟩ g =
      forwardGrip s.heardU k form ⟨dst, src, Kind.grip form, seq, payload⟩ g clamped
        (beginRelease k h l putBack clamped)) : passes putBack := by
    have hsent := exec_grip_judged_forwarded hrun ho hb hr hc hm he hphase hg hf
      (moved := (s.changed k fun c =>
          { c with image := clamped, load := some (l.releasing s.lineClock h putBack clamped) }).sentDown
        ⟨dst, src, Kind.grip form, seq, gripBytes form clamped payload⟩)
      (beginRelease_eq (s.heardU.sentDown _) ..) rfl
    rw [hj] at hsent
    exact hsent
  have hover : isPutBack s.heardU h l x.position z.position = true ↔ overBay := isPutBack_iff
  refine ⟨fun hbay => pass (hrelease.trans (judgeRelease_putBack hj (hover.mpr hbay))), fun hbay hrej =>
    refuse (hrelease.trans (judgeRelease_rejected hj (mt hover.mp hbay) hrej)), fun hbay hld haway =>
    refuse (hrelease.trans (judgeRelease_failed hj (mt hover.mp hbay) hld (placeCheck_away haway ..))),
    fun hbay hld saw cfg ⟨hs, hcfg, hlo, hhi⟩ => ?_⟩
  intro ready low first
  have hcheck := placeCheck_over (s := s.heardU) hs hcfg hlo hhi h.contactTol l.jobSeq z.position l.thickness
  have hready : (!saw.readyForPanel s.lineClock) = true ↔ ¬ready := by
    rw [Bool.not_eq_true', Bool.eq_false_iff, ne_eq, readyForPanel_iff hcfg]
  have fail {cause : Cause} (hx : placeCheck s.heardU h.contactTol l.jobSaw l.jobSeq x.position z.position l.thickness =
      some cause) : refused cause :=
    refuse (hrelease.trans (judgeRelease_failed hj (mt hover.mp hbay) hld hx))
  have hlow (hlw : low) := hcheck.trans (if_neg (Nat.not_lt.mpr hlw))
  have hfits (hlw : low) (hrd : ready) := (hlow hlw).trans (if_neg (mt hready.mp (not_not.mpr hrd)))
  exact ⟨fun hlw => fail (hcheck.trans (if_pos (Nat.lt_of_not_le hlw))),
    fun hlw hrd => fail ((hlow hlw).trans (if_pos (hready.mpr hrd))),
    fun hlw hrd hf => fail ((hfits hlw hrd).trans (if_neg (mt head_sequence_iff.mp hf))),
    fun hlw hrd hf => pass (hrelease.trans (judgeRelease_place hj (mt hover.mp hbay) hld
      ((hfits hlw hrd).trans (if_pos (head_sequence_iff.mpr hf)))))⟩

end Sys2Proof.Machine
end

section
/-! PROOFS. A SENSE_HEAD of a carriage with a load (R98): gauge readings (R100), a vacuum drop (R101) and a confirmed release
(R102), with the held move that each wakes (R74). -/

namespace Sys2Proof.Machine

/-! The reading of a SENSE_HEAD by the load's state (R88, R98). -/

/-- A carriage with its head's report recorded: the arrival, and the reported module count (R9, R88). -/
def Carriage.sensed (now : Clock) (modules : Nat) (c : Carriage) : Carriage :=
  { c.heard now with modulesReported := modules }

/-- A change of the carriage after its head's report, in one change. -/
theorem sensed_changed {s : State} {k : Nat} {c : Carriage} (hc : s.carriage k = some c) {now : Clock} {modules : Nat}
    {f g : Carriage → Carriage} (h : f (c.sensed now modules) = g c) :
    (s.modCarriage k (·.sensed now modules)).modCarriage k f = s.modCarriage k g := by
  rw [modCarriage_modCarriage]
  exact modCarriage_congr fun d hd => by
    cases hd.symm.trans hc
    exact h

section
variable {s : State} {k : Nat} {c : Carriage} {l : LoadRecord} {h : HeadRecord} {rep : HeadReport}
  (hc : s.carriage k = some c) (ha : s.HeadArrivalOnly k c) (hl : c.load = some l) (hh : s.head k = some h)
include hc hl

theorem sensed_load : (s.modCarriage k (·.sensed s.lineClock rep.modules)).load k = some l := by
  rw [load_eq (modCarriage_same hc _)]
  exact hl

include ha

theorem setModules_sensed :
    setModules (readHeadArrival s k) k rep.modules = s.modCarriage k (·.sensed s.lineClock rep.modules) := by
  have harr : readHeadArrival s k = s.modCarriage k (·.heard s.lineClock) := readHeadArrival_only hc ha
  rw [harr, setModules_loaded (modCarriage_same hc _) hl]
  exact modCarriage_modCarriage ..

include hh

theorem readHead_sampled (hp : l.phase = .checking) (hv : h.minHold ≤ cupCount (rep.vacuum &&& l.mask)) :
    readHead (readHeadArrival s k) k rep =
      countReading (s.modCarriage k (·.sensed s.lineClock rep.modules)) k h l rep.reading := by
  have hh' : (s.modCarriage k (·.sensed s.lineClock rep.modules)).head k = some h := hh
  simp only [readHead, setModules_sensed hc ha hl, sensed_load hc hl, hh', hp, if_neg (Nat.not_lt.mpr hv)]

theorem readHead_dropped (hp : l.phase = .checking ∨ l.phase = .loaded ∨ l.phase = .rejected)
    (hv : cupCount (rep.vacuum &&& l.mask) < h.minHold) :
    readHead (readHeadArrival s k) k rep = dropVacuum (s.modCarriage k (·.sensed s.lineClock rep.modules)) k l := by
  have hh' : (s.modCarriage k (·.sensed s.lineClock rep.modules)).head k = some h := hh
  simp only [readHead, setModules_sensed hc ha hl, sensed_load hc hl, hh', if_pos hv]
  rcases hp with hp | hp | hp <;> rw [hp]

theorem readHead_released (hp : l.phase = .releasing) (hv : rep.vacuum &&& l.mask = 0) :
    readHead (readHeadArrival s k) k rep = confirmRelease (s.modCarriage k (·.sensed s.lineClock rep.modules)) k l := by
  have hh' : (s.modCarriage k (·.sensed s.lineClock rep.modules)).head k = some h := hh
  simp only [readHead, setModules_sensed hc ha hl, sensed_load hc hl, hh', hp, if_pos hv]

end

/-! The step of a SENSE_HEAD with at most one held move (R74). -/

/-- A notice, and the report of a free load, while a frame from port D is read. -/
theorem hand_freed_between {s t : State} (h : s = t.between) (k : Nat) (a : NoticeKind) (b : Option Nat) (c : Reference)
    (d : Cause) (e : Detail) :
    (hand s a b c d e).report (.loadFree k) = (hand t a b c d e).between.report (.loadFree k) := by
  rw [h, hand_between]

theorem State.passedUp_report (s : State) (r : Report) (f : Frame) : (s.report r).passedUp f = (s.passedUp f).report r := by
  rw [State.report, State.report, State.passedUp_reports, State.passedUp_withReports]

@[simp] theorem State.passedUp_fences (s : State) (f : Frame) : (s.passedUp f).fences = s.fences := by
  unfold State.passedUp
  split <;> rfl

section
variable {s t : State} (h : s.Running) {dst src seq : Byte} {payload : List Byte} {rep : HeadReport} {k : Nat}
  {c : Carriage} (ho : ¬s.Own dst) (hp : parseSenseHead payload = some rep)
  (hs : s.roleOf src.toNat = some (.head k)) (hc : s.carriage k = some c) (ht : t.reports = s.reports)
include h ho hp hs hc ht

/-- A SENSE_HEAD that makes no report. -/
theorem exec_senseHead_silent (hread : readHead (readHeadArrival s.between k) k rep = t.between) :
    exec (.senseHead dst src seq payload) s = .next (t.passedUp ⟨dst, src, 0x40, seq, payload⟩) := by
  rw [exec_senseHead h ho hp hs hc, hread, finish_passedUp (t := t.between) (ht.trans h.settled)]
  rfl

/-- A SENSE_HEAD that reports the load free: the carriage's held move is re-evaluated where it waits for that. -/
theorem exec_senseHead_freed (hn : s.NoneHeldBut k) {g : Carriage → Carriage}
    (hread : readHead (readHeadArrival s.between k) k rep = t.between.report (.loadFree k))
    (hg : t.carriages = s.carriages.modify k g) (hslot : ∀ c, (g c).slot = c.slot) :
    (¬c.Woken → exec (.senseHead dst src seq payload) s = .next (t.passedUp ⟨dst, src, 0x40, seq, payload⟩)) ∧
      (c.Woken → k < 4 →
        exec (.senseHead dst src seq payload) s =
          .next { reevaluate (t.passedUp ⟨dst, src, 0x40, seq, payload⟩) k with reports := [] }) := by
  let u := t.passedUp ⟨dst, src, 0x40, seq, payload⟩
  have hrun : exec (.senseHead dst src seq payload) s = .next (finish (u.report (.loadFree k))) := by
    rw [exec_senseHead h ho hp hs hc, hread, State.passedUp_report]
    rfl
  have hu : u.carriages = s.carriages.modify k g := (State.passedUp_carriages ..).trans hg
  have hnone : u.NoneHeldBut k := hn.of_modify hu hslot
  have hreports : u.reports = [] := (State.passedUp_reports ..).trans (ht.trans h.settled)
  have hheld : u.held k = c.slot := (State.held_of_modify hu hslot k).trans (by rw [State.held, hc, Option.bind_some])
  refine ⟨fun hw => ?_, fun hw hk => ?_⟩
  · rw [hrun, finish_loadFree_asleep hnone hreports hheld hw]
  · rw [hrun, finish_loadFree_awake hnone hreports hheld hw hk]
    rfl

end

/-! Gauge readings (R41, R100, R109). -/

section
variable {s : State} {k : Nat} {c : Carriage} {l : LoadRecord} {h : HeadRecord} {z : AxisReport} (hc : s.carriage k = some c)
  (hz : c.ctx.lastZ = some z) (reading : Nat)
include hc hz

/-- A reading below the lift height is not counted. -/
theorem countReading_low (hlow : z.position < l.pickTop + h.liftCheck) : countReading s k h l reading = s := by
  simp only [countReading, hc, Option.bind_some, hz, if_pos hlow]

variable (hhigh : l.pickTop + h.liftCheck ≤ z.position)
include hhigh

/-- A reading at the lift height is counted, and the last of them decides. -/
theorem countReading_counted {counted : LoadRecord}
    (hl : { l with sum := l.sum + reading, count := l.count + 1 } = counted) :
    countReading s k h l reading =
      if h.n ≤ l.count + 1 then decideThickness s k counted (thicknessCheck (l.sum + reading) h.n l.thickness)
      else setLoad s k counted := by
  subst hl
  simp only [countReading, hc, Option.bind_some, hz, if_neg (Nat.not_lt.mpr hhigh)]

end

/-- A carriage whose load a thickness check has decided: the load, and a counter (R8, R100). -/
def Carriage.decided (l : LoadRecord) (f : CarriageCounters → CarriageCounters) (c : Carriage) : Carriage :=
  { c with load := some l, ctx := { c.ctx with counters := f c.ctx.counters } }

/-- A confirmed pick, with its PICK notice (R100, R109). -/
theorem decideThickness_ok (s : State) (k : Nat) (l : LoadRecord) :
    decideThickness s k l .ok =
      (hand
        ((s.modBay l.originBay (·.confirmPick)).modCarriage k
          (·.decided { l with phase := .loaded } fun n => { n with picks := bump n.picks }))
        .pick (some k) (.job l.jobSaw l.jobSeq) .ok .absent).report (.loadFree k) := by
  refine congrArg (State.report · (.loadFree k)) ((hand_modCarriage ..).symm.trans ?_)
  exact congrArg (hand · ..) (modCarriage_modCarriage (s.modBay l.originBay (·.confirmPick)) ..)

/-- A rejected pick, with its PICK notice (R100). -/
theorem decideThickness_rejected (s : State) (k : Nat) (l : LoadRecord) {t : Thickness} {cause : Cause}
    (ht : t = .double ∧ cause = .double ∨ t = .thin ∧ cause = .thin) :
    decideThickness s k l t =
      (hand
        (s.modCarriage k (·.decided { l with phase := .rejected } fun n => { n with rejects := bump n.rejects }))
        .pick (some k) (.job l.jobSaw l.jobSeq) .reject (.cause cause)).report (.loadFree k) := by
  rcases ht with ⟨rfl, rfl⟩ | ⟨rfl, rfl⟩
  all_goals
    refine congrArg (State.report · (.loadFree k)) ((hand_modCarriage ..).symm.trans ?_)
    exact congrArg (hand · ..) (modCarriage_modCarriage s ..)

/-- A confirmed pick's count as one change of the bay (R109). -/
theorem confirmPick_eq (bay : Bay) :
    bay.confirmPick =
      { bay with
        count := bay.count - 1
        state :=
          if bay.count = 0 then .restock else if bay.state = .active ∧ bay.count = 1 then .empty else bay.state } := by
  unfold Bay.confirmPick
  split
  · rename_i h
    simp [h]
  · rfl

/-- Settles O28: the reading below the lift height, counted, or decided by the thickness check. -/
theorem thicknessDecided : Obligations.ThicknessDecided := by
  unfold Obligations.ThicknessDecided
  intro s k dst src seq payload rep c l h z hrun hn ho hs hp hc ha hl hh hph hz hv f total after counted woken freed rejected
  have hread : readHead (readHeadArrival s.between k) k rep = _ := readHead_sampled (s := s.between) hc ha hl hh hph hv
  have hd : (s.between.modCarriage k (·.sensed s.between.lineClock rep.modules)).carriage k =
      some (c.sensed s.lineClock rep.modules) := modCarriage_same hc _
  -- A change of the carriage after its head's report, as the statement writes it.
  have changed {g : Carriage → Carriage} {load : LoadRecord} {counters : CarriageCounters}
      (hg : g (c.sensed s.lineClock rep.modules) =
        { c with
          load := some load
          modulesReported := rep.modules
          ctx := { c.ctx with arrivalHead := some s.lineClock, inSetHead := true, counters := counters } }) :
      (s.between.modCarriage k (·.sensed s.between.lineClock rep.modules)).modCarriage k g =
        (after load counters).between := sensed_changed (s := s.between) hc hg
  have hcount (hhigh : l.pickTop + h.liftCheck ≤ z.position) :=
    hread.trans (countReading_counted hd hz rep.reading hhigh rfl)
  refine ⟨fun hlow => ?_, fun hhigh hfew => ?_, fun hhigh hlast => ?_⟩
  · refine exec_senseHead_silent hrun ho hp hs hc (t := after l c.ctx.counters) rfl
      (hread.trans ((countReading_low hd hz _ hlow).trans (modCarriage_congr (s := s.between) fun d hx => ?_)))
    cases hx.symm.trans hc
    rw [← hl]
    rfl
  · exact exec_senseHead_silent hrun ho hp hs hc (t := after counted c.ctx.counters) rfl
      ((hcount hhigh).trans ((if_neg (Nat.not_le.mpr hfew)).trans (changed rfl)))
  have hdecided {t : Thickness} (ht : thicknessCheck total h.n l.thickness = t) :=
    (hcount hhigh).trans ((if_pos hlast).trans (congrArg (decideThickness _ k counted) ht))
  have reject {t : Thickness} {cause : Cause} (ht : thicknessCheck total h.n l.thickness = t)
      (hx : t = .double ∧ cause = .double ∨ t = .thin ∧ cause = .thin) : rejected cause := by
    refine exec_senseHead_freed hrun ho hp hs hc (hand_reports ..) hn ?_ (hand_carriages ..) fun _ => rfl
    exact (hdecided ht).trans ((decideThickness_rejected _ k counted hx).trans (hand_freed_between (changed rfl) ..))
  obtain ⟨hdouble, hthin, hok⟩ := thicknessCheck_spec total h.n l.thickness
  refine ⟨fun hd => reject (hdouble hd) (.inl ⟨rfl, rfl⟩), fun _ ht => reject (hthin ht) (.inr ⟨rfl, rfl⟩),
    fun hle hge => ?_⟩
  refine exec_senseHead_freed hrun ho hp hs hc (hand_reports ..) hn ?_ (hand_carriages ..) fun _ => rfl
  refine (hdecided (hok hge hle)).trans ((decideThickness_ok _ k counted).trans (hand_freed_between ?_ ..))
  refine (congrArg (State.modBay · l.originBay (·.confirmPick)) (changed rfl)).trans ?_
  rw [funext confirmPick_eq]
  rfl

/-! A vacuum drop (R18, R101, R129). -/

/-- What a notice looks at and changes: the notices, the CONTROLLER's address and the clock (R166). -/
def State.desk (s : State) : Management × Option Nat × Clock := (s.management, s.addressOf .controller, s.lineClock)

theorem modCarriage_desk (s : State) (k : Nat) (g : Carriage → Carriage) : (s.modCarriage k g).desk = s.desk := rfl

theorem hand_desk_congr {s t : State} (h : t.desk = s.desk) (a : NoticeKind) (b : Option Nat) (c : Reference) (d : Cause)
    (e : Detail) : (hand t a b c d e).desk = (hand s a b c d e).desk := by
  obtain ⟨hm, ha, hl⟩ : t.management = s.management ∧ t.addressOf .controller = s.addressOf .controller ∧
      t.lineClock = s.lineClock := by simpa [State.desk] using h
  have hdesk (u : State) : (hand u a b c d e).desk =
      (u.management.handed (u.addressOf .controller).isSome ⟨a, b, c, d, e, u.lineClock⟩, u.addressOf .controller,
        u.lineClock) := by
    rw [hand_eq]
    rfl
  rw [hdesk, hdesk, hm, ha, hl]

theorem requestStops_desk (s : State) (k : Nat) (r : StopReason) : (requestStops s k r).desk = s.desk := by
  have ha := (requestStops_follows s k r).addressOf .controller
  rw [State.desk, ha, requestStops_eq]
  rfl

/-- The notices of a halt with a flag, of a carriage that holds no move: FAULT where the flag is new, and STATE_CHANGE of
an ACTIVE carriage (R18, R129). -/
def tellHalt (s : State) (k : Nat) (c : Carriage) (f : Flag) : State :=
  let faulted := if c.ctx.flags.has f then s else hand s .fault (some k) .absent f.cause .absent
  if c.ctx.runState = .active then hand faulted .stateChange (some k) .absent .stopping .absent else faulted

theorem raiseFlag_desk {s : State} {k : Nat} {c : Carriage} (hc : s.carriage k = some c) (f : Flag) :
    (raiseFlag s k f).desk =
      (if c.ctx.flags.has f then s else hand s .fault (some k) .absent f.cause .absent).desk := by
  cases hf : c.ctx.flags.has f with
  | true => rw [raiseFlag_set hc hf, if_pos rfl]
  | false =>
    rw [raiseFlag_clear hc hf, if_neg Bool.false_ne_true]
    exact hand_desk_congr (modCarriage_desk s k _) ..

theorem haltCarriage_desk {s : State} {k : Nat} {c : Carriage} (hc : s.carriage k = some c) (hs : c.slot = none)
    (r : StopReason) :
    (haltCarriage s k r none).desk =
      (if c.ctx.runState = .active then hand s .stateChange (some k) .absent .stopping .absent else s).desk := by
  by_cases ha : c.ctx.runState = .active
  · rw [haltCarriage_active_eq hc ha, hs, if_pos ha]
    exact hand_desk_congr ((requestStops_desk ..).trans (modCarriage_desk s k _)) ..
  · rw [if_neg ha]
    by_cases hl : c.ctx.runState = .lost
    · rw [haltCarriage_idle (.inr (hl ▸ runState_eq hc))]
    · rw [haltCarriage_still (runState_eq hc) ha hl, requestStops_desk]

theorem haltCarriage_some_desk {s : State} {k : Nat} {c : Carriage} (hc : s.carriage k = some c) (hs : c.slot = none)
    (r : StopReason) (f : Flag) : (haltCarriage s k r (some f)).desk = (tellHalt s k c f).desk := by
  have hd : (raiseFlag s k f).carriage k = some (c.flagged f) := by
    rw [State.carriage_modify_self (raiseFlag_carriages ..), hc, Option.map_some]
  have hrun : (c.flagged f).ctx.runState = c.ctx.runState := rfl
  rw [haltCarriage_flag, haltCarriage_desk hd hs, hrun, tellHalt]
  split
  · exact hand_desk_congr (raiseFlag_desk hc f) ..
  · exact raiseFlag_desk hc f

theorem tellHalt_desk_congr {s t : State} (h : t.desk = s.desk) (k : Nat) (c : Carriage) (f : Flag) :
    (tellHalt t k c f).desk = (tellHalt s k c f).desk := by
  have hflag : (if c.ctx.flags.has f then t else hand t .fault (some k) .absent f.cause .absent).desk =
      (if c.ctx.flags.has f then s else hand s .fault (some k) .absent f.cause .absent).desk := by
    split
    · exact h
    · exact hand_desk_congr h ..
  by_cases ha : c.ctx.runState = .active
  · simp only [tellHalt, if_pos ha]
    exact hand_desk_congr hflag ..
  · simp only [tellHalt, if_neg ha]
    exact hflag

/-- A halt leaves the head's image, count and arrival. -/
theorem Carriage.halted_head (c : Carriage) :
    c.halted.image = c.image ∧ c.halted.modulesReported = c.modulesReported ∧
      c.halted.ctx.arrivalHead = c.ctx.arrivalHead := by
  unfold Carriage.halted
  split <;> exact ⟨rfl, rfl, rfl⟩

/-- Only an ACTIVE carriage changes its run state in a halt, and loses its still marks (R18). -/
theorem Carriage.halted_marks (c : Carriage) :
    (c.ctx.runState = .active →
      c.halted.ctx.runState = .stopping ∧ c.halted.ctx.stillX = false ∧ c.halted.ctx.stillZ = false) ∧
    (c.ctx.runState ≠ .active →
      c.halted.ctx.runState = c.ctx.runState ∧ c.halted.ctx.stillX = c.ctx.stillX ∧
        c.halted.ctx.stillZ = c.ctx.stillZ) := by
  unfold Carriage.halted
  split
  · rename_i ha
    exact ⟨fun _ => ⟨rfl, rfl, rfl⟩, absurd ha⟩
  all_goals
    rename_i hr
    exact ⟨fun ha => absurd (hr.symm.trans ha) (by decide), fun _ => ⟨rfl, rfl, rfl⟩⟩

/-- A carriage whose load is EMPTY, its module count in force the reported one (R88, R91). -/
def Carriage.unloaded (c : Carriage) : Carriage := { c with load := none, modulesInForce := c.modulesReported }

/-- A vacuum drop: a halt, and then the entry, the bay, the load and the report of a CHECKING load (R101). -/
theorem dropVacuum_eq (s : State) (k : Nat) (l : LoadRecord) :
    dropVacuum s k l =
      { haltCarriage s k .vacuumDrop (some .vacuumDrop) with
        carriages := (haltCarriage s k .vacuumDrop (some .vacuumDrop)).carriages.modify k (·.unloaded)
        saws :=
          s.saws.modify l.jobSaw fun saw =>
            { saw with queue := saw.queue.map fun e => if e.sequence = l.jobSeq then e.fault else e }
        bays :=
          if l.phase = .loaded then s.bays else s.bays.modify l.originBay fun bay => { bay with state := .restock }
        reports := if l.phase = .checking then s.reports ++ [.loadFree k] else s.reports } := by
  have hkeeps := haltCarriage_keeps s k .vacuumDrop (some .vacuumDrop)
  have hsaws := hkeeps.saws
  have hbays := hkeeps.bays
  have hreports := haltCarriage_reports s k .vacuumDrop (some .vacuumDrop)
  unfold dropVacuum
  generalize haltCarriage s k .vacuumDrop (some .vacuumDrop) = t at hsaws hbays hreports ⊢
  rw [← hsaws, ← hbays, ← hreports]
  by_cases hl : l.phase = .loaded
  · have hx : l.phase ≠ .checking := by simp [hl]
    simp only [if_pos hl, if_neg hx]
    rfl
  · by_cases hx : l.phase = .checking
    · simp only [if_neg hl, if_pos hx]
      rfl
    · simp only [if_neg hl, if_neg hx]
      rfl

theorem dropVacuum_carriages (s : State) (k : Nat) (l : LoadRecord) :
    (dropVacuum s k l).carriages = s.carriages.modify k fun c => ((c.flagged .vacuumDrop).halted).unloaded := by
  rw [dropVacuum_eq, haltCarriage_some_carriages]
  exact List.modify_modify_eq ..

theorem dropVacuum_stops_lost {s : State} {k : Nat} (hl : s.runState k = some .lost) (l : LoadRecord) :
    (dropVacuum s k l).port.stops = s.port.stops := by
  have hflag : (raiseFlag s k .vacuumDrop).runState k = some .lost := by
    obtain ⟨c, hc, hr⟩ := Option.map_eq_some_iff.mp hl
    have hd : (raiseFlag s k .vacuumDrop).carriage k = some (c.flagged .vacuumDrop) := by
      rw [State.carriage_modify_self (raiseFlag_carriages ..), hc, Option.map_some]
    exact (runState_eq hd).trans (congrArg some hr)
  rw [dropVacuum_eq, haltCarriage_flag, haltCarriage_idle (.inr hflag)]
  exact raiseFlag_stops ..

theorem dropVacuum_stops {s : State} {k : Nat} {c : Carriage} (hc : s.carriage k = some c) (hl : c.ctx.runState ≠ .lost)
    (l : LoadRecord) : s.Stops (dropVacuum s k l) k .vacuumDrop := by
  rw [dropVacuum_eq]
  exact haltCarriage_some_stops hc hl .vacuumDrop .vacuumDrop

theorem dropVacuum_desk {s : State} {k : Nat} {c : Carriage} (hc : s.carriage k = some c) (hs : c.slot = none)
    (l : LoadRecord) : (dropVacuum s k l).desk = (tellHalt s k c .vacuumDrop).desk := by
  rw [← haltCarriage_some_desk hc hs .vacuumDrop, dropVacuum_eq]
  rfl

theorem dropVacuum_noHeld {s : State} (h : s.NoHeld) (k : Nat) (l : LoadRecord) : (dropVacuum s k l).NoHeld := by
  refine ((haltCarriage_keeps s k .vacuumDrop (some .vacuumDrop)).noHeld h).of_modify (k := k) (g := (·.unloaded)) ?_
    fun _ hx => hx
  rw [dropVacuum_eq]

theorem dropVacuum_reports {s : State} (h : s.reports = []) (k : Nat) (l : LoadRecord) :
    (dropVacuum s k l).reports.length ≤ 64 := by
  rw [dropVacuum_eq, h]
  dsimp only
  split <;> simp

/-! A confirmed release (R102, R110, R117). -/

/-- A carriage whose release is confirmed: an EMPTY load, and a counter (R102). -/
def Carriage.released (f : CarriageCounters → CarriageCounters) (c : Carriage) : Carriage :=
  { c.unloaded with ctx := { c.ctx with counters := f c.ctx.counters } }

/-- A confirmed place: the entry leaves its queue, saw and carriage count it, and the notice reports it. -/
theorem confirmRelease_placed (s : State) (k : Nat) {l : LoadRecord} (hb : l.putBack = false) :
    confirmRelease s k l =
      (hand
        ((s.modSaw l.jobSaw fun saw =>
            { saw with
              queue := saw.queue.filter fun e => e.sequence != l.jobSeq
              placed := bump saw.placed }).modCarriage k
          (·.released fun n => { n with places := bump n.places }))
        .place (some k) (.job l.jobSaw l.jobSeq) .placed .absent).report (.loadFree k) := by
  have hsaw : (s.removeEntry l.jobSaw l.jobSeq).modSaw l.jobSaw (fun saw => { saw with placed := bump saw.placed }) =
      s.modSaw l.jobSaw fun saw =>
        { saw with queue := saw.queue.filter fun e => e.sequence != l.jobSeq, placed := bump saw.placed } :=
    congrArg s.withSaws (List.modify_modify_eq ..)
  simp only [confirmRelease, hb, Bool.false_eq_true, if_false, hsaw, handPlace, emptyLoad, State.countFor,
    State.modContext, ← hand_modCarriage, modCarriage_modCarriage]
  rfl

/-- A confirmed put-back: the entry is QUEUED again, a LOADED panel is counted back to its bay, and the notice reports it. -/
theorem confirmRelease_putBack (s : State) (k : Nat) {l : LoadRecord} (hb : l.putBack = true) :
    confirmRelease s k l =
      (hand
        (((s.modEntry l.jobSaw l.jobSeq (·.queue)).withBays
          (if l.beforeRelease = some .loaded then s.bays.modify l.originBay (·.putBack) else s.bays)).modCarriage k
          (·.released id))
        .place (some k) (.job l.jobSaw l.jobSeq) .putBack .absent).report (.loadFree k) := by
  have hbay : (if l.beforeRelease = some .loaded then
        (s.modEntry l.jobSaw l.jobSeq (·.queue)).modBay l.originBay (·.putBack)
      else s.modEntry l.jobSaw l.jobSeq (·.queue)) =
      (s.modEntry l.jobSaw l.jobSeq (·.queue)).withBays
        (if l.beforeRelease = some .loaded then s.bays.modify l.originBay (·.putBack) else s.bays) := by
    split <;> rfl
  simp only [confirmRelease, hb, if_true, hbay, handPlace, emptyLoad, ← hand_modCarriage]
  rfl

/-- Settles O29: the halt and the rest of a vacuum drop part by part, and each way of a confirmed release. -/
theorem loadLost : Obligations.LoadLost := by
  unfold Obligations.LoadLost
  intro s k dst src seq payload rep c l h hrun hn ho hs hp hc ha hl hh f entries emptied woken freed
  have hd : (s.between.modCarriage k (·.sensed s.between.lineClock rep.modules)).carriage k =
      some (c.sensed s.lineClock rep.modules) := modCarriage_same hc _
  refine ⟨fun hno hph hv => ?_, fun hph hv hb => ?_, fun hph hv hb => ?_⟩
  · intro faulted handed
    have hread : readHead (readHeadArrival s.between k) k rep = _ := readHead_dropped (s := s.between) hc ha hl hh hph hv
    let v := s.between.modCarriage k (·.sensed s.between.lineClock rep.modules)
    let e := (c.sensed s.lineClock rep.modules).flagged .vacuumDrop
    have hslot : c.slot = none := hno c (List.mem_of_getElem? hc)
    have hv' : v.NoHeld := hno.of_modify (t := v) rfl fun _ hx => hx
    have hexec : exec (.senseHead dst src seq payload) s = .next (((dropVacuum v k l).withReports []).passedUp f) := by
      rw [exec_senseHead hrun ho hp hs hc, hread,
        finish_passedUp_noHeld (dropVacuum_noHeld hv' k l) (dropVacuum_reports (s := v) hrun.settled k l)]
    have hcarriages : (((dropVacuum v k l).withReports []).passedUp f).carriages =
        s.carriages.modify k fun c => (((c.sensed s.lineClock rep.modules).flagged .vacuumDrop).halted).unloaded := by
      rw [State.passedUp_carriages, State.withReports_carriages, dropVacuum_carriages]
      exact List.modify_modify_eq ..
    have hdesk : (dropVacuum v k l).desk = (tellHalt s k c .vacuumDrop).desk :=
      (dropVacuum_desk hd hslot l).trans (tellHalt_desk_congr (s := s) (t := v) rfl k (c.sensed s.lineClock rep.modules) .vacuumDrop)
    obtain ⟨himage, hmodules, harrival⟩ := e.halted_head
    obtain ⟨hactive, hother⟩ := e.halted_marks
    refine ⟨_, e.halted.unloaded, hexec, ?_, rfl, e.halted_flags, himage, e.halted_reservation, harrival, hmodules, hmodules,
      hactive, hother, fun hlost => ?_, fun hlost => ⟨?_, ?_, ?_⟩, ?_, fun j hj => State.carriage_modify_ne hcarriages hj,
      ?_, ?_, ?_⟩
    · rw [State.carriage_modify_self hcarriages, hc, Option.map_some]
    · exact (State.passedUp_stops ..).trans (dropVacuum_stops_lost ((runState_eq hd).trans (congrArg some hlost)) l)
    · exact (Carriage.halted_moves (c := e) hlost).1
    · exact (Carriage.halted_moves (c := e) hlost).2
    · rw [State.passedUp_stops]
      exact dropVacuum_stops hd hlost l
    · rw [State.passedUp_management]
      exact congrArg Prod.fst hdesk
    · rw [State.passedUp_fences, State.withReports_fences, dropVacuum_eq]
      exact haltCarriage_fences ..
    · rw [State.passedUp_saws, State.withReports_saws, dropVacuum_eq]
      rfl
    · rw [State.passedUp_bays, State.withReports_bays, dropVacuum_eq]
      rfl
  · have hread : readHead (readHeadArrival s.between k) k rep = _ := readHead_released (s := s.between) hc ha hl hh hph hv
    refine exec_senseHead_freed hrun ho hp hs hc (hand_reports ..) hn ?_ (hand_carriages ..) fun _ => rfl
    refine hread.trans ((confirmRelease_placed _ k hb).trans (hand_freed_between ?_ ..))
    exact congrArg (State.modSaw · l.jobSaw _) (sensed_changed (s := s.between) hc rfl)
  · have hread : readHead (readHeadArrival s.between k) k rep = _ := readHead_released (s := s.between) hc ha hl hh hph hv
    refine exec_senseHead_freed hrun ho hp hs hc (hand_reports ..) hn ?_ (hand_carriages ..) fun _ => rfl
    refine hread.trans ((confirmRelease_putBack _ k hb).trans (hand_freed_between ?_ ..))
    exact congrArg (fun u : State => (u.modEntry l.jobSaw l.jobSeq (·.queue)).withBays _)
      (sensed_changed (s := s.between) hc rfl)

end Sys2Proof.Machine
end

section
/-! PROOFS. What the queues hold and how long the tables are (`Stock`), and that the shared operations, the Admission
Unit and the Tracker keep it: each queue within its room, each table at its size, each Feed Queue in order (`Stock.Keeps`). -/

namespace Sys2Proof.Machine

/-- The sizes of the tables, the lengths of the queues of frames, requests, replies and notices, and the Feed Queues. -/
structure Stock where
  sizes : List Nat
  dForward : Nat
  uForward : Nat
  requests : Nat
  replies : Nat
  notices : Nat
  feeds : List (List Entry)

/-- The stock of a state. -/
def State.stock (s : State) : Stock :=
  { sizes :=
      [s.port.nodeMap.length, s.carriageRecords.length, s.headRecords.length, s.cupLayout.length, s.fences.length,
        s.bays.length, s.saws.length]
    dForward := s.port.dForward.length
    uForward := s.port.uForward.length
    requests := s.management.requests.length
    replies := s.management.replies.length
    notices := s.management.notices.length
    feeds := s.saws.map (·.queue) }

/-- A change of a Feed Queue that keeps its room and its order (R114). -/
structure FeedKept (a b : List Entry) : Prop where
  room : a.length ≤ 32 → b.length ≤ 32
  order : (a.Pairwise fun x y => x.sequence < y.sequence) → b.Pairwise fun x y => x.sequence < y.sequence

/-- From one stock to another every table keeps its size, every queue its room, and every Feed Queue its order. -/
structure Stock.Keeps (a b : Stock) : Prop where
  sizes : b.sizes = a.sizes
  dForward : a.dForward ≤ 8 → b.dForward ≤ 8
  uForward : a.uForward ≤ 8 → b.uForward ≤ 8
  requests : a.requests ≤ 4 → b.requests ≤ 4
  replies : a.replies ≤ 4 → b.replies ≤ 4
  notices : a.notices ≤ 16 → b.notices ≤ 16
  feeds : ∀ (j : Nat) (q : List Entry), b.feeds[j]? = some q → ∃ p, a.feeds[j]? = some p ∧ FeedKept p q

theorem FeedKept.refl (q : List Entry) : FeedKept q q := ⟨id, id⟩

theorem FeedKept.trans {a b c : List Entry} (h : FeedKept a b) (h' : FeedKept b c) : FeedKept a c :=
  ⟨h'.room ∘ h.room, h'.order ∘ h.order⟩

/-- The room is kept where the tables have their sizes and no queue is longer than its room. -/
theorem State.roomKept_iff (s : State) :
    s.roomKept = true ↔
      s.stock.sizes = [63, 4, 4, 16, 8, 24, 6] ∧ s.stock.dForward ≤ 8 ∧ s.stock.uForward ≤ 8 ∧ s.stock.requests ≤ 4 ∧
        s.stock.replies ≤ 4 ∧ s.stock.notices ≤ 16 ∧ ∀ q ∈ s.stock.feeds, q.length ≤ 32 := by
  simp only [State.roomKept, Bool.and_eq_true, decide_eq_true_eq, List.all_eq_true]
  simp [State.stock, Config.forwardRoom, Config.managementRoom, Config.noticeRoom, Config.feedRoom, and_assoc]

/-- The Feed Queues are ordered where each queue of the stock is. -/
theorem State.feedOrdered_iff (s : State) :
    s.feedOrdered ↔ ∀ q ∈ s.stock.feeds, q.Pairwise fun a b => a.sequence < b.sequence := by
  simp [State.feedOrdered, Saw.ordered, State.stock]

namespace Stock.Keeps

theorem refl (a : Stock) : a.Keeps a := ⟨rfl, id, id, id, id, id, fun _ q h => ⟨q, h, .refl q⟩⟩

variable {o : Stock} {s t : State}

/-- What leaves the stock keeps it. -/
theorem of_eq (h : o.Keeps s.stock) (ht : t.stock = s.stock) : o.Keeps t.stock := ht ▸ h

theorem roomKept (h : s.stock.Keeps t.stock) (hs : s.roomKept = true) : t.roomKept = true := by
  obtain ⟨hsizes, hdown, hup, hreq, hrep, hnot, hfeeds⟩ := s.roomKept_iff.mp hs
  refine t.roomKept_iff.mpr ⟨h.sizes.trans hsizes, h.dForward hdown, h.uForward hup, h.requests hreq, h.replies hrep,
    h.notices hnot, fun q hq => ?_⟩
  obtain ⟨j, hj⟩ := List.getElem?_of_mem hq
  obtain ⟨p, hp, hk⟩ := h.feeds j q hj
  exact hk.room (hfeeds p (List.mem_of_getElem? hp))

theorem feedOrdered (h : s.stock.Keeps t.stock) (hs : s.feedOrdered) : t.feedOrdered := by
  refine t.feedOrdered_iff.mpr fun q hq => ?_
  obtain ⟨j, hj⟩ := List.getElem?_of_mem hq
  obtain ⟨p, hp, hk⟩ := h.feeds j q hj
  exact hk.order (s.feedOrdered_iff.mp hs p (List.mem_of_getElem? hp))

/-! Changes of parts. -/

theorem modCarriage (h : o.Keeps s.stock) (k : Nat) (g : Carriage → Carriage) : o.Keeps (s.modCarriage k g).stock := h

theorem modContext (h : o.Keeps s.stock) (k : Nat) (g : Context → Context) : o.Keeps (s.modContext k g).stock := h

theorem countFor (h : o.Keeps s.stock) (k : Nat) (g : CarriageCounters → CarriageCounters) :
    o.Keeps (s.countFor k g).stock := h

theorem report (h : o.Keeps s.stock) (r : Report) : o.Keeps (s.report r).stock := h

theorem withReports (h : o.Keeps s.stock) (rs : List Report) : o.Keeps (s.withReports rs).stock := h

theorem withFences (h : o.Keeps s.stock) {fs : List Fence} (hl : fs.length = s.fences.length) :
    o.Keeps (s.withFences fs).stock :=
  h.of_eq (by simp [State.stock, hl])

theorem modBay (h : o.Keeps s.stock) (b : Nat) (f : Bay → Bay) : o.Keeps (s.modBay b f).stock :=
  h.of_eq (by simp [State.stock, State.modBay])

/-- Saw `j` changed in a way that keeps its Feed Queue's room and order. -/
theorem modSaw (h : o.Keeps s.stock) {j : Nat} {f : Saw → Saw}
    (hf : ∀ saw, s.saws[j]? = some saw → FeedKept saw.queue (f saw).queue) : o.Keeps (s.modSaw j f).stock := by
  have hsizes : (s.modSaw j f).stock.sizes = s.stock.sizes := by simp [State.stock, State.modSaw]
  refine { h with sizes := hsizes.trans h.sizes, feeds := fun i q hq => ?_ }
  have hi : (s.modSaw j f).stock.feeds[i]? = (s.saws[i]?).map fun saw => (if j = i then f saw else saw).queue := by
    simp only [State.stock, State.modSaw, State.withSaws_saws, List.getElem?_map, List.getElem?_modify]
    cases s.saws[i]? <;> rfl
  obtain ⟨saw, hsaw, rfl⟩ := Option.map_eq_some_iff.mp (hi.symm.trans hq)
  obtain ⟨p, hp, hk⟩ := h.feeds i saw.queue (by simp [State.stock, hsaw])
  refine ⟨p, hp, hk.trans ?_⟩
  split
  · rename_i hj
    exact hf saw (hj ▸ hsaw)
  · exact .refl _

/-- An entry changed in place keeps its sequence (R116). -/
theorem modEntry (h : o.Keeps s.stock) (j q : Nat) {f : Entry → Entry} (hf : ∀ e, (f e).sequence = e.sequence) :
    o.Keeps (s.modEntry j q f).stock := by
  refine h.modSaw fun _ _ => ⟨fun hl => by simpa using hl, fun ho => ?_⟩
  have hseq (e : Entry) : (if e.sequence = q then f e else e).sequence = e.sequence := by split <;> simp [hf]
  exact List.pairwise_map.mpr (ho.imp fun hab => by simpa only [hseq] using hab)

/-- An entry removed: those that stay keep their order (R117, R118). -/
theorem removeEntry (h : o.Keeps s.stock) (j q : Nat) : o.Keeps (s.removeEntry j q).stock :=
  h.modSaw fun _ _ => ⟨fun hl => (List.length_filter_le ..).trans hl, fun ho => ho.filter _⟩

/-! The shared operations (Ops). -/

theorem hand (h : o.Keeps s.stock) (a : NoticeKind) (b : Option Nat) (c : Reference) (d : Cause) (e : Detail) :
    o.Keeps (hand s a b c d e).stock := by
  unfold Machine.hand
  split
  · exact h
  · split
    · rename_i hroom
      exact { h with
        notices := fun _ => by
          rw [State.stock, State.withManagement_management, List.length_append]
          exact hroom }
    · exact h

theorem handStateChange (h : o.Keeps s.stock) (k : Nat) (c : Cause) : o.Keeps (handStateChange s k c).stock :=
  h.hand ..

theorem raiseFlag (h : o.Keeps s.stock) (k : Nat) (f : Flag) : o.Keeps (raiseFlag s k f).stock := by
  unfold Machine.raiseFlag
  split
  · exact h
  · split
    · exact h
    · exact (h.modContext ..).hand ..

theorem endHeld (h : o.Keeps s.stock) (k : Nat) (c : Cause) (d : Detail) : o.Keeps (endHeld s k c d).stock := by
  unfold Machine.endHeld
  split
  · exact h
  · exact (h.modCarriage ..).hand ..

/-- A frame is placed only where there is room (R147). -/
theorem placeDown (h : o.Keeps s.stock) {f : Frame} (hp : placeDown s f = some t) : o.Keeps t.stock := by
  rw [placeDown_eq] at hp
  split at hp
  · rename_i hroom
    cases hp
    exact { h with dForward := fun _ => by rw [State.stock, State.withPort_port, List.length_append]; exact hroom }
  · cases hp

theorem reportRoom (h : o.Keeps s.stock) : o.Keeps (reportRoom s).stock := by
  rw [reportRoom_eq]
  exact h

theorem withdrawMoves (h : o.Keeps s.stock) (n : Nat) : o.Keeps (withdrawMoves s n).stock := by
  unfold Machine.withdrawMoves
  dsimp only
  split
  · rename_i hless
    refine reportRoom (s := s.withPort { s.port with dForward := s.port.dForward.filter fun f => !f.isMoveTo n }) ?_
    exact { h with dForward := fun hd => hless.le.trans (h.dForward hd) }
  · exact h

theorem clearActive (h : o.Keeps s.stock) (k : Nat) (a : Axis) : o.Keeps (clearActive s k a).stock := by
  cases a <;> exact h.modContext ..

theorem takeSeq (h : o.Keeps s.stock) : o.Keeps (takeSeq s).stock := h

theorem enterStop (h : o.Keeps s.stock) (n : Nat) (r : StopReason) : o.Keeps (enterStop s n r).stock := by
  unfold Machine.enterStop
  split <;> exact h

theorem requestStop (h : o.Keeps s.stock) (k : Nat) (a : Axis) (r : StopReason) :
    o.Keeps (requestStop s k a r).stock := by
  unfold Machine.requestStop
  dsimp only
  split
  · exact h.clearActive ..
  · exact ((h.clearActive ..).enterStop ..).withdrawMoves ..

theorem requestStops (h : o.Keeps s.stock) (k : Nat) (r : StopReason) : o.Keeps (requestStops s k r).stock :=
  (h.requestStop ..).requestStop ..

theorem haltCarriage (h : o.Keeps s.stock) (k : Nat) (r : StopReason) (f : Option Flag) :
    o.Keeps (haltCarriage s k r f).stock := by
  have hf : o.Keeps (match f with
      | none => s
      | some f => Machine.raiseFlag s k f).stock := by
    cases f with
    | none => exact h
    | some f => exact h.raiseFlag ..
  unfold Machine.haltCarriage
  dsimp only
  split
  · exact hf
  · exact ((modContext (hf.endHeld ..) ..).requestStops ..).handStateChange ..
  · exact hf
  · exact hf.requestStops ..
  · exact hf.requestStops ..
  · exact hf.requestStops ..

/-- Operations folded over a list keep the stock if each does. -/
theorem foldl {α : Type} {f : State → α → State} (hf : ∀ (s : State) (a : α), o.Keeps s.stock → o.Keeps (f s a).stock)
    (l : List α) (h : o.Keeps s.stock) : o.Keeps (l.foldl f s).stock := by
  induction l generalizing s with
  | nil => exact h
  | cons a l ih => exact ih (hf s a h)

theorem haltNeighbours (h : o.Keeps s.stock) (js : List Nat) : o.Keeps (haltNeighbours s js).stock :=
  foldl (fun _ j hs => hs.haltCarriage j _ _) js h

theorem testFences (h : o.Keeps s.stock) : o.Keeps (testFences s).stock := by
  refine foldl (fun s i hs => ?_) _ h
  unfold testFence
  split
  · exact hs
  · split
    · exact (hs.withFences (List.length_set ..)).hand ..
    · exact hs

theorem setReservation (h : o.Keeps s.stock) (k : Nat) (r : Option Reservation) :
    o.Keeps (setReservation s k r).stock := by
  unfold Machine.setReservation
  split
  · exact h
  · refine testFences ?_
    exact h

/-! The Admission Unit. -/

theorem verdictRefused (h : o.Keeps s.stock) (k : Nat) (t : Byte) (c : Cause) :
    o.Keeps (verdictRefused s k t c).stock := (h.countFor ..).hand ..

theorem verdictClamped (h : o.Keeps s.stock) (k : Nat) (t : Byte) (x : Nat) :
    o.Keeps (verdictClamped s k t x).stock := (h.countFor ..).hand ..

theorem setActive (h : o.Keeps s.stock) (k : Nat) (a : Axis) (m : ActiveMove) : o.Keeps (setActive s k a m).stock := by
  cases a <;> exact h.modContext ..

theorem forwardMove (h : o.Keeps s.stock) {k : Nat} {a : Axis} {f : Frame} {x : Nat} {tag : Byte}
    (hf : forwardMove s k a f x tag = some t) : o.Keeps t.stock := by
  unfold Machine.forwardMove at hf
  split at hf
  · cases hf
  · rename_i hp
    have ha := (h.placeDown hp).setActive k a ⟨x, tag⟩
    cases a with
    | z => exact Option.some.inj hf ▸ ha
    | x =>
      dsimp only at hf
      split at hf
      · exact Option.some.inj hf ▸ ha
      · exact Option.some.inj hf ▸ ha.setReservation ..

theorem setSlot (h : o.Keeps s.stock) (k : Nat) (m : HeldMove) : o.Keeps (setSlot s k m).stock := h.modCarriage ..

theorem holdMove (h : o.Keeps s.stock) (k : Nat) (a : Axis) (m : MoveFields) (b : BlockedAction) (w : Waiting) :
    o.Keeps (holdMove s k a m b w).stock := by
  unfold Machine.holdMove
  split
  · exact h.verdictRefused ..
  · refine hand ?_ ..
    exact h

theorem decideBlocked (h : o.Keeps s.stock) (k : Nat) (f : Frame) (m : MoveFields) (a : BlockedAction) (b : Block) :
    o.Keeps (decideBlocked s k f m a b).1.stock := by
  unfold Machine.decideBlocked
  split
  · split
    · exact h
    · rename_i hf
      have hv := (h.forwardMove hf).verdictClamped k m.tag ‹Nat›
      dsimp only
      split
      · exact hv.holdMove ..
      · exact hv
  · split
    · exact h.holdMove ..
    · exact h.verdictRefused ..

theorem decideMove (h : o.Keeps s.stock) (k : Nat) (a : Axis) (f : Frame) (m : MoveFields) (b : BlockedAction) :
    o.Keeps (decideMove s k a f m b).1.stock := by
  unfold Machine.decideMove
  split
  · exact h.verdictRefused ..
  · split
    · exact h.holdMove ..
    · exact h.verdictRefused ..
  · exact h.decideBlocked ..
  · split
    · exact h
    · rename_i hf
      split
      · exact (h.forwardMove hf).verdictClamped ..
      · exact (h.forwardMove hf).countFor ..

theorem setVirtual (h : o.Keeps s.stock) (k : Nat) (a : Axis) (x : Nat) : o.Keeps (setVirtual s k a x).stock := by
  cases a <;> exact h

theorem handShadow (h : o.Keeps s.stock) (k : Nat) (t : Byte) (c : Cause) (d : Detail) :
    o.Keeps (handShadow s k t c d).stock := h.hand ..

theorem shadowMove (h : o.Keeps s.stock) (k : Nat) (a : Axis) (m : MoveFields) (b : BlockedAction) :
    o.Keeps (shadowMove s k a m b).stock := by
  unfold Machine.shadowMove
  split
  · exact h.handShadow ..
  · split <;> exact h.handShadow ..
  · dsimp only
    split <;> exact (h.setVirtual ..).handShadow ..
  · split
    · dsimp only
      split
      · exact ((h.setVirtual ..).handShadow ..).handShadow ..
      · exact (h.setVirtual ..).handShadow ..
    · split <;> exact h.handShadow ..

theorem admitMove (h : o.Keeps s.stock) (k : Nat) (a : Axis) (f : Frame) : o.Keeps (admitMove s k a f).1.stock := by
  unfold Machine.admitMove
  dsimp only
  split
  · exact h.hand ..
  · split
    · exact h.verdictRefused ..
    · exact h.verdictRefused ..
    · split
      · split
        · split
          · exact h.shadowMove ..
          · exact h.handShadow ..
        · exact h.handShadow ..
      · exact h.handShadow ..
    · have he := h.endHeld k .superseded .absent
      split
      · split
        · split
          · exact he.decideMove ..
          · exact he.verdictRefused ..
        · exact he.verdictRefused ..
      · exact he.verdictRefused ..

/-! Re-evaluation of held moves (R74 to R77). -/

theorem endRefused (h : o.Keeps s.stock) (k : Nat) (c : Cause) : o.Keeps (endRefused s k c).stock :=
  (h.countFor ..).endHeld ..

theorem recheckDeadlock (h : o.Keeps s.stock) (k : Nat) (b : Option Blocker) : o.Keeps (recheckDeadlock s k b).stock := by
  unfold Machine.recheckDeadlock
  split
  · exact h
  · split
    · exact h
    · split
      · split
        · exact h
        · split
          · split <;> exact h.endRefused ..
          · exact h
      · exact h

theorem generateMove (h : o.Keeps s.stock) {k : Nat} {m : HeldMove} {x v : Nat} {c : Bool}
    (hg : generateMove s k m x v c = some t) : o.Keeps t.stock := by
  unfold Machine.generateMove at hg
  split at hg
  · cases hg
  · obtain ⟨u, hu, rfl⟩ := Option.map_eq_some_iff.mp hg
    exact (h.forwardMove hu).takeSeq

theorem stayHeld (h : o.Keeps s.stock) (k : Nat) (m : HeldMove) (w : Waiting) : o.Keeps (stayHeld s k m w).stock :=
  (h.setSlot ..).recheckDeadlock ..

theorem reevaluate (h : o.Keeps s.stock) (k : Nat) : o.Keeps (reevaluate s k).stock := by
  unfold Machine.reevaluate
  split
  · exact h
  · split
    · exact h.endRefused ..
    · exact h.stayHeld ..
    · split
      · exact h.setSlot ..
      · rename_i hg
        split
        · exact ((h.generateMove hg).countFor ..).endHeld ..
        · exact ((h.generateMove hg).countFor ..).endHeld ..
    · split
      · exact h.stayHeld ..
      · split
        · split
          · exact h.setSlot ..
          · rename_i hg
            exact ((h.generateMove hg).verdictClamped ..).stayHeld ..
        · exact h.stayHeld ..

theorem actOn (h : o.Keeps s.stock) (r : Report) : o.Keeps (actOn s r).stock := by
  refine foldl (fun s k hs => ?_) _ h
  unfold actFor
  split
  · exact hs
  · split
    · refine reevaluate ?_ k
      cases r <;> exact hs
    · exact hs

theorem settle (h : o.Keeps s.stock) (n : Nat) : o.Keeps (settle n s).stock := by
  induction n generalizing s with
  | zero => exact h
  | succ n ih =>
    unfold Machine.settle
    split
    · exact h
    · exact ih ((h.withReports _).actOn _)

theorem finish (h : o.Keeps s.stock) : o.Keeps (finish s).stock := h.settle _

/-! The Tracker. -/

theorem growReservation (h : o.Keeps s.stock) (k : Nat) (a b : Interval) (r : Reservation) :
    o.Keeps (growReservation s k a b r).stock := by
  unfold Machine.growReservation
  dsimp only
  split
  · exact h.setReservation ..
  · exact ((h.setReservation ..).haltCarriage ..).haltNeighbours ..

theorem followCandidate (h : o.Keeps s.stock) (k : Nat) : o.Keeps (followCandidate s k).stock := by
  unfold Machine.followCandidate
  split
  · split
    · exact h.setReservation ..
    · exact h.growReservation ..
  · exact h.setReservation ..
  · exact h

theorem followStale (h : o.Keeps s.stock) (k : Nat) : o.Keeps (followStale s k).stock := by
  unfold Machine.followStale
  split
  · split
    · exact h
    · exact h.growReservation ..
  · exact h

theorem updateReservation (h : o.Keeps s.stock) (k : Nat) : o.Keeps (updateReservation s k).stock := by
  unfold Machine.updateReservation
  split
  · split
    · split
      · exact h.followCandidate ..
      · exact h.followStale ..
    · exact h
  · exact h

theorem firstData (h : o.Keeps s.stock) (k : Nat) : o.Keeps (firstData s k).stock := by
  unfold Machine.firstData
  split
  · split
    · exact h
    · refine haltNeighbours (handStateChange ?_ ..) _
      have hr (v : Reservation) (g : Carriage → Carriage) :
          o.Keeps ((Machine.setReservation s k (some v)).modCarriage k g).stock := (h.setReservation ..).modCarriage ..
      split
      · exact (hr ..).requestStops ..
      · exact hr ..
  · exact h

theorem unbiddenMotion (h : o.Keeps s.stock) (k : Nat) : o.Keeps (unbiddenMotion s k).stock := by
  unfold Machine.unbiddenMotion
  split
  · split
    · split
      · split
        · exact h.requestStops ..
        · exact (h.raiseFlag ..).requestStops ..
      · exact h.requestStops ..
    · exact (requestStops (h.modContext ..) ..).handStateChange ..
  · exact h

theorem unfreeze (h : o.Keeps s.stock) (k : Nat) (e : Interval) : o.Keeps (unfreeze s k e).stock := by
  have hr := h.setReservation k (some ⟨e, .plain⟩)
  unfold Machine.unfreeze
  dsimp only
  split
  · exact hr
  · split
    · exact hr
    · exact (hr.haltCarriage ..).haltNeighbours ..

theorem recover (h : o.Keeps s.stock) (k : Nat) (f : ReportFrom) : o.Keeps (recover s k f).stock := by
  unfold Machine.recover
  split
  · have hu := ((h.modContext k fun c => { c with fresh := true, runState := .halted }).handStateChange k
      .halted).unfreeze k ‹Interval›
    dsimp only
    split
    · split
      · exact hu.unbiddenMotion ..
      · exact hu
    · exact hu
  · exact h

theorem returnToFresh (h : o.Keeps s.stock) (k : Nat) (f : ReportFrom) : o.Keeps (returnToFresh s k f).stock := by
  unfold Machine.returnToFresh
  split
  · split
    · dsimp only
      split
      · exact h.modContext ..
      · exact followCandidate (h.modContext ..) _
    · exact h
  · exact h

theorem markStill (h : o.Keeps s.stock) (k : Nat) (a : Axis) (v : Int) : o.Keeps (markStill s k a v).stock := by
  unfold Machine.markStill
  split
  · exact h
  · cases a with
    | x =>
      dsimp only
      split
      · exact h.modContext ..
      · split
        · refine handStateChange ?_ ..
          exact h
        · exact h.modContext ..
    | z =>
      dsimp only
      split
      · exact h.modContext ..
      · split
        · refine handStateChange ?_ ..
          exact h
        · exact h.modContext ..

theorem applyVelocity (h : o.Keeps s.stock) (k : Nat) (b : RunState) (f : ReportFrom) :
    o.Keeps (applyVelocity s k b f).stock := by
  unfold Machine.applyVelocity
  split
  · exact h
  · split
    · exact h.markStill ..
    · split
      · exact h
      · split
        · exact h.unbiddenMotion ..
        · exact h
    · exact h

theorem runStateRules (h : o.Keeps s.stock) (k : Nat) (b : RunState) (f : ReportFrom) :
    o.Keeps (runStateRules s k b f).stock := by
  unfold Machine.runStateRules
  split
  · split
    · split
      · exact h.firstData ..
      · exact h
    · split
      · exact h.recover ..
      · exact h
    · exact (h.returnToFresh ..).applyVelocity ..
  · exact h

theorem stateReports (h : o.Keeps s.stock) (k : Nat) (a : Axis) : o.Keeps (stateReports s k a).stock := by
  unfold Machine.stateReports
  split
  · split
    · split
      · exact h.report ..
      · exact h
    · split
      · exact h
      · split
        · exact h.report ..
        · exact h
  · exact h

theorem readState (h : o.Keeps s.stock) (k : Nat) (a : Axis) (r : StateReport) : o.Keeps (readState s k a r).stock := by
  unfold Machine.readState
  split
  · exact h
  · refine stateReports (runStateRules ?_ ..) ..
    have hf (g : Context → Context) : o.Keeps (if r.axis.status.fault = true then
        Machine.haltCarriage (s.modContext k g) k .driveFault (some .driveFault) else s.modContext k g).stock := by
      split
      · exact haltCarriage (h.modContext ..) ..
      · exact h.modContext ..
    cases a with
    | x => exact (hf _).updateReservation ..
    | z => exact hf _

theorem readHeadArrival (h : o.Keeps s.stock) (k : Nat) : o.Keeps (readHeadArrival s k).stock := by
  unfold Machine.readHeadArrival
  split
  · exact h
  · exact runStateRules (h.modContext ..) ..

theorem widenReservation (h : o.Keeps s.stock) (k d : Nat) (g : Stage) : o.Keeps (widenReservation s k d g).stock := by
  unfold Machine.widenReservation
  split
  · exact h
  · exact h.setReservation ..

theorem takeStale (h : o.Keeps s.stock) (k : Nat) : o.Keeps (takeStale s k).stock := by
  unfold Machine.takeStale
  split
  · split
    · rename_i r _ _ _ _ _
      have hw := (h.modContext k fun x => { x with fresh := false }).widenReservation k (dStale r) .widened
      dsimp only
      split
      · exact hw
      · split
        · exact hw
        · exact (hw.haltCarriage ..).haltNeighbours ..
    · exact h
  · exact h

theorem takeLost (h : o.Keeps s.stock) (k : Nat) : o.Keeps (takeLost s k).stock := by
  unfold Machine.takeLost
  split
  · split
    · have hlost {u : State} (hu : o.Keeps u.stock) (g : Context → Context) (d : Nat) :
          o.Keeps (Machine.handStateChange (Machine.widenReservation (Machine.requestStops (u.modContext k g) k .lost) k d
            .frozen) k .lost).stock :=
        (((hu.modContext k g).requestStops ..).widenReservation ..).handStateChange ..
      have hended := (h.raiseFlag k .lost).endHeld k .lostFlag .absent
      dsimp only
      split
      · exact hlost hended ..
      · exact (hlost hended ..).haltNeighbours ..
    · exact h
  · exact h

end Stock.Keeps

end Sys2Proof.Machine
end

section
/-! PROOFS. The Head Unit, the line reset, the requests, the frames of both ports, the pins and time keep the stock; with
that, no step overfills a queue, resizes a table, or brings a Feed Queue out of order (R114, R147, R148, R154, R166). -/

namespace Sys2Proof.Machine

namespace Stock.Keeps

variable {o : Stock} {s t : State}

/-! The Head Unit. -/

theorem setLoad (h : o.Keeps s.stock) (k : Nat) (l : LoadRecord) : o.Keeps (setLoad s k l).stock := h.modCarriage ..

theorem emptyLoad (h : o.Keeps s.stock) (k : Nat) : o.Keeps (emptyLoad s k).stock := h.modCarriage ..

theorem refuseGrip (h : o.Keeps s.stock) (k : Nat) (j : Option (Nat × Nat)) (c : Cause) :
    o.Keeps (refuseGrip s k j c).1.stock := h.hand ..

theorem forwardGrip (h : o.Keeps s.stock) (k : Nat) (form : GripForm) (f : Frame) (g : GripFields) (image : Cups)
    {effect : State → State} (he : ∀ u : State, o.Keeps u.stock → o.Keeps (effect u).stock) :
    o.Keeps (forwardGrip s k form f g image effect).1.stock := by
  unfold Machine.forwardGrip
  split
  · exact h
  · rename_i hp
    have ht := he _ ((h.placeDown hp).modCarriage k fun c => { c with image := image })
    dsimp only
    split
    · exact ht
    · exact ht.hand ..

theorem beginLoad (h : o.Keeps s.stock) (k : Nat) (r : HeadRecord) (j q : Nat) (a : PickAnswer) (image : Cups) :
    o.Keeps (beginLoad k r j q a image s).stock := (h.setLoad ..).modEntry _ _ fun _ => rfl

theorem judgePick (h : o.Keeps s.stock) (k : Nat) (c : Carriage) (r : HeadRecord) (x z : Nat) (form : GripForm)
    (f : Frame) (g : GripFields) (image : Cups) : o.Keeps (judgePick s k c r x z form f g image).1.stock := by
  unfold Machine.judgePick
  split
  · exact h.refuseGrip ..
  · split
    · exact h.refuseGrip ..
    · dsimp only
      split
      · exact h.refuseGrip ..
      · split
        · exact h.refuseGrip ..
        · exact h.forwardGrip _ _ _ _ _ fun u hu => hu.beginLoad ..

theorem judgeRelease (h : o.Keeps s.stock) (k : Nat) (r : HeadRecord) (l : LoadRecord) (x z : Nat) (form : GripForm)
    (f : Frame) (g : GripFields) (image : Cups) : o.Keeps (judgeRelease s k r l x z form f g image).1.stock := by
  have hf (b : Bool) := h.forwardGrip k form f g image (effect := beginRelease k r l b image) fun u hu => hu.setLoad ..
  unfold Machine.judgeRelease
  split
  · exact h.refuseGrip ..
  · split
    · exact hf true
    · split
      · split
        · exact h.refuseGrip ..
        · exact hf false
      · exact h.refuseGrip ..

theorem judgeGrip (h : o.Keeps s.stock) (k : Nat) (c : Carriage) (form : GripForm) (f : Frame) (g : GripFields) :
    o.Keeps (judgeGrip s k c form f g).1.stock := by
  unfold Machine.judgeGrip
  dsimp only
  split
  · split
    · exact h.forwardGrip _ _ _ _ _ fun _ hu => hu
    · split
      · exact h.judgePick ..
      · exact h.refuseGrip ..
  · split
    · exact h.refuseGrip ..
    · split
      · exact h.forwardGrip _ _ _ _ _ fun _ hu => hu.setLoad ..
      · split
        · exact h.judgeRelease ..
        · exact h.refuseGrip ..

theorem gripFrame (h : o.Keeps s.stock) (k : Nat) (form : GripForm) (f : Frame) :
    o.Keeps (gripFrame s k form f).1.stock := by
  unfold Machine.gripFrame
  dsimp only
  split
  · exact h.refuseGrip ..
  · split
    · exact h.refuseGrip ..
    · split
      · exact h.refuseGrip ..
      · split
        · exact h.refuseGrip ..
        · split
          · exact h.refuseGrip ..
          · exact h.judgeGrip ..

theorem decideThickness (h : o.Keeps s.stock) (k : Nat) (l : LoadRecord) (t : Thickness) :
    o.Keeps (decideThickness s k l t).stock := by
  have hl (l : LoadRecord) := h.setLoad k l
  cases t with
  | ok => exact ((((hl _).modBay ..).hand ..).countFor ..).report ..
  | double => exact (((hl _).hand ..).countFor ..).report ..
  | thin => exact (((hl _).hand ..).countFor ..).report ..

theorem countReading (h : o.Keeps s.stock) (k : Nat) (r : HeadRecord) (l : LoadRecord) (x : Nat) :
    o.Keeps (countReading s k r l x).stock := by
  unfold Machine.countReading
  split
  · exact h
  · split
    · exact h
    · dsimp only
      split
      · exact h.decideThickness ..
      · exact h.setLoad ..

theorem dropVacuum (h : o.Keeps s.stock) (k : Nat) (l : LoadRecord) : o.Keeps (dropVacuum s k l).stock := by
  have hf := (h.haltCarriage k .vacuumDrop (some .vacuumDrop)).modEntry l.jobSaw l.jobSeq (f := (·.fault)) fun _ => rfl
  have hb {u : State} (hu : o.Keeps u.stock) (g : Bay → Bay) :
      o.Keeps (if l.phase = .loaded then u else u.modBay l.originBay g).stock := by
    split
    · exact hu
    · exact hu.modBay ..
  unfold Machine.dropVacuum
  dsimp only
  split
  · exact ((hb hf _).emptyLoad k).report _
  · exact (hb hf _).emptyLoad k

theorem confirmRelease (h : o.Keeps s.stock) (k : Nat) (l : LoadRecord) : o.Keeps (confirmRelease s k l).stock := by
  unfold Machine.confirmRelease
  refine report (emptyLoad ?_ k) _
  split
  · have hq := h.modEntry l.jobSaw l.jobSeq (f := (·.queue)) fun _ => rfl
    dsimp only
    split
    · exact (hq.modBay ..).hand ..
    · exact hq.hand ..
  · have hp := (h.removeEntry l.jobSaw l.jobSeq).modSaw (j := l.jobSaw)
      (f := fun saw => { saw with placed := bump saw.placed }) fun _ _ => .refl _
    exact (hp.hand ..).countFor ..

theorem readHead (h : o.Keeps s.stock) (k : Nat) (r : HeadReport) : o.Keeps (readHead s k r).stock := by
  have hs : o.Keeps (setModules s k r.modules).stock := h.modCarriage ..
  unfold Machine.readHead
  dsimp only
  split
  · split
    · split
      · exact hs.setLoad ..
      · exact hs
    · split
      · exact hs.dropVacuum ..
      · exact hs.countReading ..
    · split
      · exact hs.dropVacuum ..
      · exact hs
    · split
      · exact hs.dropVacuum ..
      · exact hs
    · split
      · exact hs.confirmRelease ..
      · exact hs
  · exact hs

theorem takeGripDeadline (h : o.Keeps s.stock) (k : Nat) : o.Keeps (takeGripDeadline s k).stock := by
  unfold Machine.takeGripDeadline
  split
  · exact h
  · split
    · split
      · exact (((h.modEntry _ _ (f := (·.queue)) fun _ => rfl).emptyLoad k).hand ..).report _
      · exact h
    · exact h

theorem takeReleaseDeadline (h : o.Keeps s.stock) (k : Nat) : o.Keeps (takeReleaseDeadline s k).stock := by
  unfold Machine.takeReleaseDeadline
  split
  · exact h
  · split
    · split
      · exact (h.haltCarriage ..).setLoad ..
      · exact h
    · exact h

/-! Line reset (R153, R168): it empties both forward queues and the notice queue. -/

theorem resetPort (h : o.Keeps s.stock) : o.Keeps (resetPort s).stock := by
  have hstop {u : State} (r : Role) (hu : o.Keeps u.stock) : o.Keeps (enterResetStop u r).stock := by
    unfold enterResetStop
    split
    · exact hu
    · exact hu.enterStop ..
  unfold Machine.resetPort
  refine foldl (fun u k hu => ?_) _ ?_
  · unfold enterResetStops
    split
    · exact hstop _ (hstop _ hu)
    · exact hstop _ (hstop _ hu)
    · exact hu
  · exact { h with dForward := fun _ => Nat.zero_le 8, uForward := fun _ => Nat.zero_le 8 }

theorem clearNotices (h : o.Keeps s.stock) : o.Keeps (s.withManagement { s.management with notices := [] }).stock :=
  { h with notices := fun _ => Nat.zero_le 16 }

theorem resetCarriages (h : o.Keeps s.stock) : o.Keeps (resetCarriages s).stock := h

theorem lineReset (h : o.Keeps s.stock) (source : Cause) : o.Keeps (lineReset s source).stock := by
  have hp := h.resetPort.resetCarriages
  unfold Machine.lineReset
  exact testFences (hand (hp.clearNotices.withReports []) ..)

/-! Commands (R163). -/

theorem accept (h : o.Keeps s.stock) : o.Keeps (accept s).after.stock := h

theorem commandHalt (h : o.Keeps s.stock) (k : Nat) : o.Keeps (commandHalt s k).after.stock := by
  unfold Machine.commandHalt
  split
  · exact h
  · exact (h.haltCarriage ..).accept
  · exact (h.requestStops ..).accept
  · exact h
  · exact h
  · exact h

theorem commandResume (h : o.Keeps s.stock) (k : Nat) : o.Keeps (commandResume s k).after.stock := by
  unfold Machine.commandResume
  split
  · exact h
  · split
    · exact h
    · split
      · split
        · exact (handStateChange (h.modContext ..) ..).accept
        · exact h
      · exact h
    · exact h
    · exact h
    · exact h

theorem setMembership (h : o.Keeps s.stock) (k : Nat) (m : Membership) : o.Keeps (setMembership s k m).stock :=
  handStateChange (h.modCarriage ..) ..

theorem membershipWorking (h : o.Keeps s.stock) (k : Nat) (c : Carriage) (m : Membership) :
    o.Keeps (membershipWorking s k c m).after.stock := by
  unfold Machine.membershipWorking
  split
  · exact h
  · split
    · exact h
    · split
      · split
        · exact h
        · split
          · exact h.setMembership ..
          · exact h
      · exact h.setMembership ..

theorem membershipIsolated (h : o.Keeps s.stock) (k : Nat) (c : Carriage) : o.Keeps (membershipIsolated s k c).stock := by
  unfold Machine.membershipIsolated
  split
  · exact (handStateChange ((h.setMembership k .isolated).modContext ..) ..).setReservation ..
  · have hs := (h.endHeld k .notNormal .absent).setMembership k .isolated
    dsimp only
    split
    · exact hs.haltCarriage ..
    · exact hs

theorem membershipExcluded (h : o.Keeps s.stock) (k : Nat) (c : Carriage) :
    o.Keeps (membershipExcluded s k c).after.stock := by
  unfold Machine.membershipExcluded
  split
  · split
    · exact h
    · split
      · exact h
      · exact (setReservation ((h.setMembership k .excluded).modContext ..) ..).accept
  · exact h

theorem commandMembership (h : o.Keeps s.stock) (k : Nat) (m : Membership) :
    o.Keeps (commandMembership s k m).after.stock := by
  unfold Machine.commandMembership
  split
  · exact h
  · split
    · exact h
    · split
      · exact h.membershipWorking ..
      · exact h.membershipWorking ..
      · exact (h.membershipIsolated ..).accept
      · exact h.membershipExcluded ..

theorem commandClearFaults (h : o.Keeps s.stock) (k : Nat) : o.Keeps (commandClearFaults s k).after.stock := by
  unfold Machine.commandClearFaults
  split
  · exact h
  · split <;> exact h

theorem setFence (h : o.Keeps s.stock) (i : Nat) (f : Fence) (st : FenceState) : o.Keeps (setFence s i f st).stock :=
  (h.withFences (List.length_set ..)).hand ..

theorem commandFenceOn (h : o.Keeps s.stock) (i : Nat) : o.Keeps (commandFenceOn s i).after.stock := by
  unfold Machine.commandFenceOn
  split
  · exact h
  · split
    · exact (h.setFence ..).accept
    · exact h
    · exact h

theorem commandFenceOff (h : o.Keeps s.stock) (i : Nat) : o.Keeps (commandFenceOff s i).after.stock := by
  unfold Machine.commandFenceOff
  split
  · exact h
  · split
    · exact h
    · exact ((h.setFence ..).report ..).accept
    · exact ((h.setFence ..).report ..).accept

/-- Of two answers that both keep the stock, either does. -/
theorem ite {c : Prop} [Decidable c] {a b : Answer} (ha : o.Keeps a.after.stock) (hb : o.Keeps b.after.stock) :
    o.Keeps (if c then a else b).after.stock := by
  split <;> assumption

theorem commandBayRestock (h : o.Keeps s.stock) (b : Nat) : o.Keeps (commandBayRestock s b).after.stock := by
  unfold Machine.commandBayRestock
  split
  · exact h
  · exact ite h (h.modBay ..).accept

theorem commandRetire (h : o.Keeps s.stock) (j q : Nat) : o.Keeps (commandRetire s j q).after.stock := by
  unfold Machine.commandRetire
  split
  · exact h
  · split
    · exact h
    · exact ite h (h.removeEntry ..).accept

theorem commandRequeue (h : o.Keeps s.stock) (j q : Nat) : o.Keeps (commandRequeue s j q).after.stock := by
  unfold Machine.commandRequeue
  split
  · exact h
  · split
    · exact h
    · exact ite (h.modEntry _ _ (f := (·.queue)) fun _ => rfl).accept h

theorem indexed (h : o.Keeps s.stock) (bound size : Nat) (ops : List Byte) {owner : Nat → Answer}
    (ho : ∀ k, o.Keeps (owner k).after.stock) : o.Keeps (indexed s bound size ops owner).after.stock :=
  ite h (ite h (ho _))

theorem decodeMembership (h : o.Keeps s.stock) (ops : List Byte) : o.Keeps (decodeMembership s ops).after.stock := by
  refine h.indexed _ _ _ fun k => ?_
  split
  · exact h
  · exact h.commandMembership ..

theorem issueCommand (h : o.Keeps s.stock) (code : Nat) (ops : List Byte) :
    o.Keeps (issueCommand s code ops).after.stock :=
  ite (h.decodeMembership ops) <| ite (h.indexed _ _ _ h.commandHalt) <| ite (h.indexed _ _ _ h.commandResume) <|
    ite (h.indexed _ _ _ h.commandClearFaults) <| ite (h.indexed _ _ _ h.commandFenceOn) <|
    ite (h.indexed _ _ _ h.commandFenceOff) <| ite (h.indexed _ _ _ h.commandBayRestock) <|
    ite (h.indexed _ _ _ fun j => h.commandRetire j _) <| ite (h.indexed _ _ _ fun j => h.commandRequeue j _) <|
    ite (ite h (h.lineReset .command).accept) h

/-! Table writes (R157). -/

/-- A Node Map entry replaced; a map left without CONTROLLER empties the notice queue (R143, R166). -/
theorem setRole (h : o.Keeps s.stock) (a : Nat) (e : Option Role) : o.Keeps (setRole s a e).stock := by
  have hset : o.Keeps (s.withPort { s.port with nodeMap := s.port.nodeMap.set a e }).stock :=
    h.of_eq (by simp [State.stock])
  unfold Machine.setRole
  dsimp only
  split
  · exact hset.clearNotices
  · exact hset

theorem writeNodeMap (h : o.Keeps s.stock) (i : Nat) (b : List Byte) : o.Keeps (writeNodeMap s i b).after.stock := by
  refine ite h (ite h ?_)
  split
  · exact h
  · exact ite h (ite h (h.setRole ..).accept)

theorem recompute (h : o.Keeps s.stock) (k : Nat) : o.Keeps (recompute s k).stock := by
  unfold Machine.recompute
  split
  · exact h
  · split
    · exact h
    · exact (h.setReservation ..).haltNeighbours ..

theorem applyRail (h : o.Keeps s.stock) (r : RailRecord) : o.Keeps (applyRail s r).stock := by
  unfold Machine.applyRail
  refine testFences ?_
  split
  · exact h
  · refine foldl (fun _ k hu => hu.recompute k) _ ?_
    exact h

theorem writeRail (h : o.Keeps s.stock) (i : Nat) (b : List Byte) : o.Keeps (writeRail s i b).after.stock :=
  ite h (ite h (ite h (ite h (ite h (h.applyRail _).accept))))

theorem writeCarriage (h : o.Keeps s.stock) (i : Nat) (b : List Byte) : o.Keeps (writeCarriage s i b).after.stock := by
  refine ite h (ite h ?_)
  split
  · exact h
  · rename_i r _
    have hs : o.Keeps (setRecord s i r).stock := h.of_eq (by simp [State.stock, setRecord])
    refine ite h ?_
    split
    · exact hs.accept
    · refine ite h (ite h (accept ?_))
      unfold afterRecord
      split
      · exact hs.modContext ..
      · split
        · exact hs
        · exact hs.recompute ..

theorem writeHead (h : o.Keeps s.stock) (i : Nat) (b : List Byte) : o.Keeps (writeHead s i b).after.stock :=
  ite h (ite h (ite h (ite h (accept (h.of_eq (by simp [State.stock]))))))

theorem writeCupLayout (h : o.Keeps s.stock) (i : Nat) (b : List Byte) : o.Keeps (writeCupLayout s i b).after.stock :=
  ite h (ite h (ite h (ite h (accept (h.of_eq (by simp [State.stock]))))))

theorem writeSaw (h : o.Keeps s.stock) (i : Nat) (b : List Byte) : o.Keeps (writeSaw s i b).after.stock := by
  unfold Machine.writeSaw
  split
  · exact h
  · refine ite h (ite h (ite h (accept (h.modSaw fun _ _ => ?_))))
    exact .refl _

theorem writeBay (h : o.Keeps s.stock) (i : Nat) (b : List Byte) : o.Keeps (writeBay s i b).after.stock := by
  unfold Machine.writeBay
  split
  · exact h
  · refine ite h ?_
    split
    · exact h
    · exact ite h (ite h (h.modBay ..).accept)

end Stock.Keeps

/-- An entry behind the last of an ordered queue, with a greater sequence and while there is room, keeps both (R114). -/
theorem FeedKept.append {q : List Entry} {e : Entry} (hroom : q.length < 32)
    (htail : ∀ tail, q.getLast? = some tail → tail.sequence < e.sequence) : FeedKept q (q ++ [e]) := by
  refine ⟨fun _ => by simpa using hroom, fun ho => List.pairwise_append.mpr ⟨ho, List.pairwise_singleton .., ?_⟩⟩
  intro a ha b hb
  cases List.mem_singleton.mp hb
  obtain ⟨front, last, rfl⟩ := (List.eq_nil_or_concat' q).resolve_left (List.ne_nil_of_mem ha)
  have hlast := htail last (by simp)
  rcases List.mem_append.mp ha with hm | hm
  · exact ((List.pairwise_append.mp ho).2.2 a hm last (by simp)).trans hlast
  · cases List.mem_singleton.mp hm
    exact hlast

namespace Stock.Keeps

variable {o : Stock} {s t : State}

/-- An append is refused where the queue is full or the sequence is not greater than the tail's (R115). -/
theorem writeQueue (h : o.Keeps s.stock) (i : Nat) (b : List Byte) : o.Keeps (writeQueue s i b).after.stock := by
  unfold Machine.writeQueue
  split
  · exact h
  · rename_i saw hsaw
    refine ite h (ite h ?_)
    split
    · exact h
    · rename_i hroom
      split
      · exact h
      · rename_i htail
        refine accept (h.modSaw fun d hd => ?_)
        cases hsaw.symm.trans hd
        refine .append (Nat.lt_of_not_le hroom) fun tail ht => ?_
        simpa [ht] using htail

theorem writeFence (h : o.Keeps s.stock) (i : Nat) (b : List Byte) : o.Keeps (writeFence s i b).after.stock := by
  unfold Machine.writeFence
  split
  · exact h
  · exact ite h (ite h (ite h (h.withFences (List.length_set ..)).accept))

theorem writeLamp (h : o.Keeps s.stock) (i : Nat) (b : List Byte) : o.Keeps (writeLamp s i b).after.stock := by
  refine ite h (ite h ?_)
  split <;> exact h

theorem writeTable (h : o.Keeps s.stock) (table i : Nat) (b : List Byte) :
    o.Keeps (writeTable s table i b).after.stock :=
  ite (h.writeNodeMap ..) <| ite (h.writeRail ..) <| ite (h.writeCarriage ..) <| ite (h.writeHead ..) <|
    ite (h.writeCupLayout ..) <| ite (h.writeSaw ..) <| ite (h.writeBay ..) <| ite (h.writeQueue ..) <|
    ite (h.writeFence ..) <| ite (h.writeLamp ..) h

/-! Reads (R158 to R162). -/

theorem readRecord (h : o.Keeps s.stock) (r : Option (List Byte)) (ops : List Byte) :
    o.Keeps (readRecord s r ops).after.stock := by
  unfold Machine.readRecord
  split
  · exact h
  · exact ite h h

theorem readQueue (h : o.Keeps s.stock) (i : Nat) (ops : List Byte) : o.Keeps (readQueue s i ops).after.stock := by
  unfold Machine.readQueue
  split
  · exact h
  · refine ite h (ite h (ite h ?_))
    split <;> exact h

theorem readCarriageStatus (h : o.Keeps s.stock) (i : Nat) (ops : List Byte) :
    o.Keeps (readCarriageStatus s i ops).after.stock := by
  unfold Machine.readCarriageStatus
  split
  · exact h
  · exact ite h (ite h h)

theorem readPartStatus (h : o.Keeps s.stock) (i : Nat) (ops : List Byte) :
    o.Keeps (readPartStatus s i ops).after.stock := ite h (ite h h)

/-- The counters of a group, written back. -/
theorem counterGroup (h : o.Keeps s.stock) {g i : Nat} {all : List Nat} {wb : List Nat → State}
    (hg : counterGroup s g i = some (all, wb)) (l : List Nat) : o.Keeps (wb l).stock := by
  unfold Machine.counterGroup at hg
  split at hg
  · split at hg
    · cases hg
      exact h
    · cases hg
  · split at hg
    · split at hg
      · cases hg
        exact h
      · cases hg
    · split at hg
      · obtain ⟨c, -, hc⟩ := Option.map_eq_some_iff.mp hg
        cases hc
        exact h.countFor ..
      · obtain ⟨c, -, hc⟩ := Option.map_eq_some_iff.mp hg
        cases hc
        exact h.modSaw fun _ _ => .refl _

theorem readCounters (h : o.Keeps s.stock) (i : Nat) (ops : List Byte) : o.Keeps (readCounters s i ops).after.stock := by
  unfold Machine.readCounters
  split
  · exact h
  · split
    · exact h
    · rename_i hg
      split
      · exact h
      · split
        · dsimp only
          split
          · exact h.counterGroup hg _
          · exact h
        · exact h

theorem readTable (h : o.Keeps s.stock) (table i : Nat) (ops : List Byte) : o.Keeps (readTable s table i ops).after.stock :=
  ite (h.readRecord ..) <| ite (h.readRecord ..) <| ite (h.readRecord ..) <| ite (h.readRecord ..) <|
    ite (h.readRecord ..) <| ite (h.readRecord ..) <| ite (h.readRecord ..) <| ite (h.readQueue ..) <|
    ite (h.readRecord ..) <| ite (h.readRecord ..) <| ite (h.readCarriageStatus ..) <| ite (h.readRecord ..) <|
    ite (h.readPartStatus ..) <| ite (h.readCounters ..) h

/-! Requests taken (R154). -/

theorem carryOut (h : o.Keeps s.stock) (f : Frame) : o.Keeps (carryOut s f).after.stock := by
  unfold Machine.carryOut
  split
  · split
    · exact h.issueCommand ..
    · exact h
  · split
    · split
      · exact h.writeTable ..
      · exact h.readTable ..
    · exact h
    · exact h

/-- A request is taken while there is room for its reply, and carrying it out makes no other. -/
theorem takeRequest (h : o.Keeps s.stock) (hroom : s.management.replies.length < 4) : o.Keeps (takeRequest s).stock := by
  unfold Machine.takeRequest
  split
  · exact h
  · rename_i f rest hr
    have ht : o.Keeps (s.withManagement { s.management with requests := rest }).stock :=
      { h with requests := fun ho => Nat.le_of_succ_le (by simpa [State.stock, hr] using h.requests ho) }
    have hreplies : (Machine.finish (Machine.carryOut (s.withManagement { s.management with requests := rest })
        f).after).management.replies = s.management.replies :=
      congrArg Anchor.replies ((finish_anchor _).trans (carryOut_anchor _ f))
    refine { (ht.carryOut f).finish with replies := fun _ => ?_ }
    simp only [State.stock, placeReply, State.withManagement_management, List.length_append, hreplies]
    exact hroom

theorem serveRequests (h : o.Keeps s.stock) : o.Keeps (serveRequests s).stock := by
  unfold Machine.serveRequests
  generalize Config.managementRoom = n
  induction n generalizing s with
  | zero => exact h
  | succ n ih =>
    unfold takeRequests
    split
    · exact h
    · rename_i hroom
      simp only [Bool.or_eq_true, decide_eq_true_eq, not_or, Nat.not_le] at hroom
      exact ih (h.takeRequest hroom.2)

/-! Port U (R144). -/

theorem passDown (h : o.Keeps s.stock) (f : Frame) : o.Keeps (passDown s f).1.stock := by
  unfold Machine.passDown
  split
  · exact h
  · rename_i hp
    exact h.placeDown hp

/-- A request is accepted only where there is room (R145, R154). -/
theorem acceptRequest (h : o.Keeps s.stock) (f : Frame) : o.Keeps (acceptRequest s f).1.stock := by
  unfold Machine.acceptRequest
  extract_lets allowed
  by_cases ha : (!allowed) = true
  · rwa [if_pos ha]
  · rw [if_neg ha]
    split
    · rename_i hroom
      refine { h with requests := fun _ => ?_ }
      simp only [State.stock, State.withManagement_management, List.length_append]
      exact hroom
    · exact h

theorem takeStop (h : o.Keeps s.stock) (k : Nat) (a : Axis) (f : Frame) : o.Keeps (takeStop s k a f).stock := by
  have he : o.Keeps (enterControllerStop s f.dst.toNat f).stock := by
    unfold enterControllerStop
    split <;> exact h
  exact ((he.clearActive ..).endHeld ..).withdrawMoves ..

theorem routeMove (h : o.Keeps s.stock) (f : Frame) : o.Keeps (routeMove s f).1.stock := by
  unfold Machine.routeMove
  split
  · exact h
  · split
    · exact h.passDown f
    · exact h.admitMove ..
    · exact h.admitMove ..
    · exact h
    · exact h
    · exact h

theorem routeGrip (h : o.Keeps s.stock) (form : GripForm) (f : Frame) : o.Keeps (routeGrip s form f).1.stock := by
  unfold Machine.routeGrip
  split
  · exact h
  · split
    · exact h.passDown f
    · exact h.gripFrame ..
    · exact h
    · exact h
    · exact h
    · exact h

theorem routeStop (h : o.Keeps s.stock) (f : Frame) : o.Keeps (routeStop s f).1.stock := by
  unfold Machine.routeStop
  split
  · exact h.takeStop ..
  · exact h.takeStop ..
  · exact h.passDown f
  · exact h.passDown f
  · exact h.passDown f
  · exact h.passDown f

theorem routeU (h : o.Keeps s.stock) (f : Frame) : o.Keeps (routeU s f).1.stock := by
  unfold Machine.routeU
  split
  · split
    · exact h.acceptRequest f
    · exact h
  · split
    · exact h.routeMove f
    · split
      · exact h.routeGrip ..
      · split
        · exact h.routeStop f
        · exact h.passDown f

/-! Port D (R146). -/

theorem readReport (h : o.Keeps s.stock) (f : Frame) : o.Keeps (readReport s f).stock := by
  unfold Machine.readReport
  split
  · unfold readStateFrame
    split
    · exact h.readState ..
    · exact h.readState ..
    · exact h
  · split
    · unfold readSenseHead
      split
      · split
        · exact h
        · exact (h.readHeadArrival _).readHead ..
      · exact h
    · split
      · unfold readSenseSaw
        split
        · exact h.modSaw fun _ _ => .refl _
        · exact h
      · exact h

/-- A frame is passed up only where there is room (R148). -/
theorem routeD (h : o.Keeps s.stock) (f : Frame) : o.Keeps (routeD s f).1.stock := by
  unfold Machine.routeD
  split
  · exact h
  · have hr := h.readReport f
    unfold passUp
    split
    · rename_i hroom
      refine { hr with uForward := fun _ => ?_ }
      simp only [State.stock, State.withPort_port, List.length_append]
      exact hroom
    · exact hr

/-! Reception and transmission. -/

theorem setReceiver (h : o.Keeps s.stock) (p : Port) (r : Receiver) : o.Keeps (setReceiver s p r).stock := by
  cases p <;> exact h

theorem countAt (h : o.Keeps s.stock) (p : Port) (f : PortCounters → PortCounters) : o.Keeps (countAt s p f).stock := by
  cases p <;> exact h

theorem routeAndCount (h : o.Keeps s.stock) (p : Port) (f : Frame) : o.Keeps (routeAndCount s p f).stock := by
  cases p with
  | u => exact (h.routeU f).countAt ..
  | d => exact (h.routeD f).countAt ..

theorem receiveU (h : o.Keeps s.stock) (f : Frame) : o.Keeps (receiveU s f).stock := by
  have hs := h.setReceiver .u .between
  unfold Machine.receiveU
  dsimp only
  split
  · exact hs.countAt ..
  · unfold goodU
    dsimp only
    split
    · exact (hs.routeAndCount ..).serveRequests
    · exact hs.routeAndCount ..

theorem receiveD (h : o.Keeps s.stock) (f : Frame) : o.Keeps (receiveD s f).stock := by
  have hs := h.setReceiver .d .between
  unfold Machine.receiveD
  dsimp only
  split
  · exact hs.countAt ..
  · exact hs.routeAndCount ..

theorem endFrame (h : o.Keeps s.stock) (p : Port) (bytes : List Byte) : o.Keeps (endFrame s p bytes).stock := by
  have hs := h.setReceiver p .between
  unfold Machine.endFrame
  split
  · exact hs.countAt ..
  · exact hs.countAt ..
  · exact hs.countAt ..
  · cases p with
    | u => exact h.receiveU _
    | d => exact h.receiveD _

theorem endStray (h : o.Keeps s.stock) (p : Port) (e : StrayEnd) : o.Keeps (endStray s p e).stock := by
  unfold Machine.endStray
  split
  · exact h
  · cases e with
    | gap => exact h.countAt ..
    | marker => exact (h.countAt ..).setReceiver ..

theorem startStop (h : o.Keeps s.stock) : o.Keeps (startStop s).stock := by
  unfold Machine.startStop
  split <;> exact h

theorem startDown (h : o.Keeps s.stock) : o.Keeps (startDown s).stock := by
  unfold Machine.startDown
  split
  · rename_i hq
    refine reportRoom { h with dForward := fun ho => Nat.le_of_succ_le ?_ }
    simpa [State.stock, hq] using h.dForward ho
  · exact h

theorem endTransmission (h : o.Keeps s.stock) (p : Port) : o.Keeps (endTransmission s p).stock := by
  unfold Machine.endTransmission
  split
  · exact h
  · have hs : o.Keeps (Machine.countAt (setTransmitter s p .free) p (·.addSent)).stock := by
      cases p <;> exact h
    dsimp only
    split <;> exact hs

theorem startUp (h : o.Keeps s.stock) : o.Keeps (startUp s).stock := by
  unfold Machine.startUp
  split
  · rename_i hq
    refine { h with uForward := fun ho => Nat.le_of_succ_le ?_ }
    simpa [State.stock, hq] using h.uForward ho
  · exact h

theorem startReply (h : o.Keeps s.stock) : o.Keeps (startReply s).stock := by
  unfold Machine.startReply
  split
  · rename_i hq
    refine serveRequests { h with replies := fun ho => Nat.le_of_succ_le ?_ }
    simpa [State.stock, hq] using h.replies ho
  · exact h

theorem startNotice (h : o.Keeps s.stock) : o.Keeps (startNotice s).stock := by
  unfold Machine.startNotice
  split
  · rename_i hq _
    refine { h with notices := fun ho => Nat.le_of_succ_le ?_ }
    simpa [State.stock, hq] using h.notices ho
  · exact h

/-! Pins and time. -/

theorem assertEstop (h : o.Keeps s.stock) : o.Keeps (assertEstop s).stock := by
  refine foldl (fun t k ht => ?_) _ (hand (s := setEstop s false) h ..)
  unfold emergencyStop
  split
  · exact ht.haltCarriage ..
  · exact ht.requestStops ..
  · exact ht

theorem releaseEstop (h : o.Keeps s.stock) : o.Keeps (releaseEstop s).stock := hand (s := setEstop s true) h ..

theorem forgetArrival (h : o.Keeps s.stock) (r : Role) : o.Keeps (forgetArrival s r).stock := by
  cases r with
  | saw j => exact h.modSaw fun _ _ => .refl _
  | controller => exact h
  | xDrive k => exact h.modContext ..
  | zDrive k => exact h.modContext ..
  | head k => exact h.modContext ..

theorem passPoint (h : o.Keeps s.stock) (b : Blink) : o.Keeps (passPoint s b).stock := by
  cases b <;> exact h

theorem takeRoomReport (h : o.Keeps s.stock) : o.Keeps (takeRoomReport s).stock := by
  unfold Machine.takeRoomReport
  split <;> exact h

/-- A choice between an effect and none. -/
theorem orNone (h : o.Keeps s.stock) (ht : o.Keeps t.stock) {c : Prop} [Decidable c] :
    o.Keeps (if c then t else s).stock := by
  split <;> assumption

/-! Every command and every step. -/

/-- The effect of every command keeps the stock. -/
theorem effectOf (h : o.Keeps s.stock) (i : Instr) : o.Keeps (effectOf i s).stock := by
  cases i with
  | powerOnReset a b c => exact h
  | resetNLow => exact h
  | lrstNAssertion => exact h.orNone (lineReset (s := setLrst s false) h .lrstN)
  | lrstNRise => exact h.orNone (t := setLrst s true) h
  | estopAssertion => exact h.orNone h.assertEstop
  | estopRelease => exact h.orNone h.releaseEstop
  | strayRun p ending => exact h.endStray p ending
  | startMarker p => exact h.setReceiver p .inFrame
  | frameDropped p collected => exact h.endFrame p collected
  | state dst src seq payload => exact h.receiveD _
  | senseHead dst src seq payload => exact h.receiveD _
  | senseSaw dst src seq payload => exact h.receiveD _
  | upstreamForward kind dst src seq payload => exact h.receiveD _
  | staleExpiry k => exact h.takeStale k
  | lostExpiry k => exact h.takeLost k
  | holdTimeout k => exact h.orNone (h.endHeld ..)
  | gripDeadline k => exact h.takeGripDeadline k
  | releaseDeadline k => exact h.takeReleaseDeadline k
  | arrivalTimeAbsent role => exact h.orNone (h.forgetArrival role)
  | waitingForRoom => exact h.takeRoomReport
  | stopSend => exact h.startStop
  | dForwardSend => exact h.startDown
  | frameSent p => exact h.endTransmission p
  | uForwardSend => exact h.startUp
  | mgReply => exact h.startReply
  | notice => exact h.startNotice
  | blinkPeriod b => exact h.orNone (h.passPoint b)
  | _ => exact h.receiveU _

end Stock.Keeps

/-- Power-on gives every table its size and empties every queue (R170). -/
theorem powerOn_roomKept (s : State) (straps : BitVec 6) (a b : Bool) : (powerOn s straps a b).roomKept = true := rfl

theorem powerOn_feedOrdered (s : State) (straps : BitVec 6) (a b : Bool) : (powerOn s straps a b).feedOrdered :=
  (State.feedOrdered_iff _).mpr fun q hq => by
    obtain ⟨saw, hsaw, rfl⟩ := List.mem_map.mp hq
    rw [List.eq_of_mem_replicate (show saw ∈ List.replicate 6 ({} : Saw) from hsaw)]
    exact .nil

/-- A command comes to a power-on reset, or keeps the stock. -/
theorem exec_powerOn_or_keeps {s t : State} {i : Instr} (ht : exec i s = .next t) :
    (∃ straps a b, t = powerOn s straps a b) ∨ s.stock.Keeps t.stock := by
  by_cases hp : ∃ a b c, i = .powerOnReset a b c
  · obtain ⟨a, b, c, rfl⟩ := hp
    cases ht
    exact .inl ⟨a, b, c, rfl⟩
  · refine .inr ?_
    by_cases hr : i = .resetNLow
    · subst hr
      cases ht
      exact .refl _
    · rw [exec_eq_live i s (fun a b c hx => hp ⟨a, b, c, hx⟩) hr, live] at ht
      split at ht
      · cases ht
        exact .refl _
      · cases ht
        exact (Stock.Keeps.effectOf (.refl _) i).finish

/-- A step comes to a power-on reset, or keeps the stock. -/
theorem step_powerOn_or_keeps {s t : State} (ht : step s = .next t) :
    (∃ u straps a b, t = powerOn u straps a b) ∨ s.stock.Keeps t.stock := by
  unfold step at ht
  split at ht
  · exact (exec_powerOn_or_keeps ht).imp_left fun hp => ⟨_, hp⟩
  · split at ht
    · exact (exec_powerOn_or_keeps ht).imp_left fun hp => ⟨_, hp⟩
    · cases ht
      refine .inr ?_
      unfold tick
      split <;> exact .refl _

/-- Settles O58: every queue that takes something has room for it, and no table is written but in place. -/
theorem queuesKeepTheirRoom : Obligations.QueuesKeepTheirRoom := by
  intro s t hs ht
  rcases step_powerOn_or_keeps ht with ⟨u, straps, a, b, rfl⟩ | h
  · exact powerOn_roomKept ..
  · exact h.roomKept hs

/-- Settles O59: an entry is appended only with a sequence above the tail's; every other change of a Feed Queue leaves the
sequences, or takes an entry out. -/
theorem feedQueuesStayInOrder : Obligations.FeedQueuesStayInOrder := by
  intro s t hs ht
  rcases step_powerOn_or_keeps ht with ⟨u, straps, a, b, rfl⟩ | h
  · exact powerOn_feedOrdered u straps a b
  · exact h.feedOrdered hs

end Sys2Proof.Machine
end

section
/-! PROOFS. A SENSE_SAW (R112), and the requests of the stack bays (R106 to R108) and of the Feed Queues (R114, R115,
R118). -/

namespace Sys2Proof.Machine

/-! SENSE_SAW (R112). -/

/-- A SENSE_SAW that its block reads as `t` leaves, and that is passed up (R146, R148). -/
theorem exec_senseSaw {s t : State} (h : s.Running) {dst src seq : Byte} {payload : List Byte} (hp : payload.length ≤ 48)
    (ho : ¬s.Own dst) (hread : readSenseSaw s.between ⟨dst, src, 0x41, seq, payload⟩ = t.between)
    (hs : t.between.site = s.between.site) (hr : t.reports = s.reports) :
    exec (.senseSaw dst src seq payload) s = .next (t.passedUp ⟨dst, src, 0x41, seq, payload⟩) := by
  have hreport : readReport s.between ⟨dst, src, 0x41, seq, payload⟩ = t.between := hread
  have hd : receiveD s ⟨dst, src, 0x41, seq, payload⟩ = t.passedUp ⟨dst, src, 0x41, seq, payload⟩ :=
    (receiveD_read ho rfl hp hreport hs).trans (State.passedUp_of_between rfl _)
  exact live_settled (g := fun s => receiveD s ⟨dst, src, Kind.senseSaw, seq, payload⟩) h hd
    ((State.passedUp_reports ..).trans (hr.trans h.settled))

/-- Of the listed length is a SENSE_SAW of one byte alone (section 11.1). -/
theorem parseSenseSaw_eq_none {payload : List Byte} (h : payload.length ≠ 1) : parseSenseSaw payload = none := by
  unfold parseSenseSaw
  split
  · exact absurd rfl h
  · rfl

/-- From a source that is no saw, or of another length, a SENSE_SAW is not read. -/
theorem readSenseSaw_unread {s : State} {f : Frame}
    (h : (∀ j, s.roleOf f.src.toNat ≠ some (.saw j)) ∨ f.payload.length ≠ 1) : readSenseSaw s f = s := by
  unfold readSenseSaw
  split
  · rename_i hrole hparse
    rcases h with h | h
    · exact absurd hrole (h _)
    · cases (parseSenseSaw_eq_none h).symm.trans hparse
  · rfl

/-- Settles O22: the reading stands whatever the U-forward queue makes of the frame. -/
theorem senseSawRead : Obligations.SenseSawRead := by
  unfold Obligations.SenseSawRead
  intro s dst src seq payload h hp ho
  refine ⟨fun j b hs hb => ?_, fun hu => ?_⟩
  · subst hb
    have hread : readSenseSaw s.between ⟨dst, src, 0x41, seq, [b]⟩ =
        (readSaw s j (b.getLsbD 0) (b.getLsbD 1)).between := by
      have hrole : s.between.roleOf src.toNat = some (.saw j) := hs
      simp only [readSenseSaw, hrole, parseSenseSaw]
      rfl
    exact exec_senseSaw h hp ho hread rfl rfl
  · exact exec_senseSaw h hp ho (readSenseSaw_unread hu) rfl rfl

/-! Bays in use (R107). -/

/-- A bay is in use where a load names it as its origin, or a carriage with a written record stands lowered in its window
(R107, log 26). -/
theorem bayInUse_iff {s : State} {b : Nat} {bay : Bay} (hb : s.bays[b]? = some bay) :
    s.bayInUse b = true ↔
      ∃ k c, s.carriage k = some c ∧
        ((∃ l, c.load = some l ∧ l.originBay = b) ∨
          ∃ x z r, c.ctx.lastX = some x ∧ c.ctx.lastZ = some z ∧ s.record k = some r ∧
            x.position ≤ bay.centre + bay.tolerance ∧ bay.centre ≤ x.position + bay.tolerance ∧ z.position < r.zClear) := by
  have hholds (k : Nat) (c : Carriage) (hc : s.carriage k = some c) :
      s.holdsBay b bay k = true ↔
        (∃ l, c.load = some l ∧ l.originBay = b) ∨
          ∃ x z r, c.ctx.lastX = some x ∧ c.ctx.lastZ = some z ∧ s.record k = some r ∧
            x.position ≤ bay.centre + bay.tolerance ∧ bay.centre ≤ x.position + bay.tolerance ∧
              z.position < r.zClear := by
    simp only [State.holdsBay, hc, Bool.or_eq_true]
    refine or_congr ?_ ?_
    · cases c.load <;> simp
    · cases c.ctx.lastX <;> cases c.ctx.lastZ <;> cases s.record k <;> simp [inWindow, and_assoc]
  simp only [State.bayInUse, hb, List.any_eq_true, List.mem_range]
  constructor
  · rintro ⟨k, hk, hx⟩
    have hc : s.carriage k = some s.carriages[k] := List.getElem?_eq_getElem hk
    exact ⟨k, _, hc, (hholds k _ hc).mp hx⟩
  · rintro ⟨k, c, hc, hx⟩
    exact ⟨k, carriage_lt hc, (hholds k c hc).mpr hx⟩

/-! A BAY record (R106, R107). -/

/-- A field of two bytes is below 65 536. -/
theorem field_two_le (b : List Byte) (offset : Nat) : field b offset 2 ≤ 65535 := by
  unfold field
  match b.drop offset with
  | [] => simp [leValue]
  | [x] =>
    have := x.isLt
    simp [leValue]
    omega
  | x :: y :: rest =>
    have := x.isLt
    have := y.isLt
    simp [leValue]
    omega

/-- The fields that R106 and R107 allow of a BAY record in the record form. -/
theorem bayValid_iff {s : State} {b : List Byte} :
    ((parseBay b).inRange s.railLength && !s.tooHigh (parseBay b)) = true ↔
      (parseBay b).centre ≤ s.railLength ∧ (parseBay b).tolerance ≤ 5000 ∧ 100 ≤ (parseBay b).length ∧
        (parseBay b).length ≤ 5600 ∧ 100 ≤ (parseBay b).width ∧ (parseBay b).width ≤ 2200 ∧
        30 ≤ (parseBay b).thickness ∧ (parseBay b).thickness ≤ 1000 ∧ (parseBay b).count ≤ 250 ∧
        (parseBay b).base ≤ 25000 ∧
        ∀ k c r, s.carriage k = some c → s.record k = some r →
          (parseBay b).base + (parseBay b).count * (parseBay b).thickness + 100 ≤ r.zClear := by
  have hmaterial : (parseBay b).material ≤ 65535 := field_two_le b 7
  have hhigh : s.tooHigh (parseBay b) = false ↔
      ∀ k c r, s.carriage k = some c → s.record k = some r → (parseBay b).top + 100 ≤ r.zClear := by
    simp only [State.tooHigh, List.any_eq_false, List.mem_range]
    constructor
    · intro h k c r hc hr
      simpa [hr] using h k (carriage_lt hc)
    · intro h k hk
      cases hr : s.record k with
      | none => simp
      | some r => simpa using h k _ r (List.getElem?_eq_getElem hk) hr
  rw [Bool.and_eq_true, Bool.not_eq_true', hhigh]
  simp only [Bay.inRange, Bool.and_eq_true, decide_eq_true_eq, and_assoc, hmaterial, true_and]
  rfl

theorem writeBay_missing {s : State} {i : Nat} (hb : s.bays[i]? = none) (b : List Byte) :
    writeBay s i b = refuseRequest s .badIndex := by
  simp [writeBay, hb]

theorem modBay_eq {s : State} {i : Nat} {bay : Bay} (hb : s.bays[i]? = some bay) (f : Bay → Bay) :
    s.modBay i f = s.withBays (s.bays.set i (f bay)) := by
  rw [State.modBay, List.modify_eq_set_getElem?, hb]
  rfl

section
variable {s : State} {i : Nat} {bay : Bay} {b : List Byte} (hb : s.bays[i]? = some bay) (hl : b.length = 18)
include hb hl

/-- A BAY write in the record form (R107). -/
theorem writeBay_record (hf : field b 0 1 = 0) :
    writeBay s i b =
      if ¬((parseBay b).inRange s.railLength && !s.tooHigh (parseBay b)) = true then refuseRequest s .badField
      else if s.bayInUse i = true then refuseRequest s .inUse
      else accept (s.withBays (s.bays.set i (parseBay b))) := by
  simp [writeBay, hb, hl, hf, yesNo, modBay_eq hb, imp_iff_not_or]

/-- A BAY write in the clear form (R107). -/
theorem writeBay_clear (hf : field b 0 1 = 1) :
    writeBay s i b =
      if s.bayInUse i = true then refuseRequest s .inUse else accept (s.withBays (s.bays.set i {})) := by
  simp [writeBay, hb, hl, hf, yesNo, modBay_eq hb]

/-- A BAY write of no form (R107). -/
theorem writeBay_formless (hf : 1 < field b 0 1) : writeBay s i b = refuseRequest s .badField := by
  simp [writeBay, hb, hl, yesNo_eq_none.mpr hf]

end

theorem commandBayRestock_eq {s : State} {b : Nat} {bay : Bay} (hb : s.bays[b]? = some bay) :
    commandBayRestock s b =
      if s.bayInUse b = true then refuseRequest s .inUse
      else accept (s.withBays (s.bays.set b { bay with state := .restock })) := by
  simp [commandBayRestock, hb, modBay_eq hb]

theorem carryOut_bayRestock (s t : State) (src seq b : Byte) :
    carryOut t (s.requestFrame Kind.mgCommand src seq [0x07, b]) =
      if 24 ≤ b.toNat then refuseRequest t .badIndex else commandBayRestock t b.toNat :=
  indexed_one ..

/-- A request under one test that refuses it, and that otherwise leaves `t`. -/
theorem live_request_tested {s t : State} {kind src seq : Byte} {payload : List Byte} {code : ResultCode} {p : Prop}
    [Decidable p] (h : s.Listens src) (hk : Kind.isManagement kind = true) (hp : payload.length ≤ 48)
    (ha : carryOut s.arrived (s.requestFrame kind src seq payload) =
      if p then refuseRequest s.arrived code else accept t) (ht : t.reports = []) :
    (p → live s (fun s => request s kind src seq payload) = .next (s.answered src seq code)) ∧
      (¬p → live s (fun s => request s kind src seq payload) = .next (t.replied src seq .ok [])) :=
  ⟨fun hx => live_request_unchanged h hk hp (ha.trans (if_pos hx)),
    fun hx => live_request_settled h hk hp (ha.trans (if_neg hx)) ht⟩

/-- Settles O48: the bytes of a BAY record, and BAY-RESTOCK and the BAY write by their tests in order. -/
theorem baysChanged : Obligations.BaysChanged := by
  unfold Obligations.BaysChanged
  intro one two four
  refine ⟨fun bay hstate hc ht hm hl hw hth hn hb => ?_, fun s src seq b record h hlen => ?_⟩
  · simp [one, two, four, parseBay, field, leValue, digits_four hc, digits_two ht, digits_two hm, digits_two hl,
      digits_two hw, digits_two hth, Nat.mod_eq_of_lt hn, digits_two hb, ← hstate]
  intro command write
  refine ⟨fun hi hb => ⟨?_, ?_⟩, fun bay hi hb => ?_⟩
  · exact live_request_unchanged h rfl (by simp) ((carryOut_bayRestock ..).trans (if_pos hi))
  · exact live_write_refused h (by omega)
      (writeBay_missing (s := s.arrived) (List.getElem?_eq_none (hb.le.trans hi)) record)
  intro inUse become new valid
  have hba : s.arrived.bays[b.toNat]? = some bay := hb
  have hused : s.arrived.bayInUse b.toNat = true ↔ inUse := bayInUse_iff hba
  have hvalid : (new.inRange s.arrived.railLength && !s.arrived.tooHigh new) = true ↔ valid := bayValid_iff
  have hform {m : Byte} (hm : record.head? = some m) : field record 0 1 = m.toNat := by
    obtain ⟨rest, rfl⟩ := List.head?_eq_some_iff.mp hm
    exact field_zero_one ..
  obtain ⟨hcused, hcdone⟩ := live_request_tested (seq := seq) h rfl (by simp)
    ((carryOut_bayRestock s s.arrived src seq b).trans ((if_neg (by omega)).trans (commandBayRestock_eq hba))) h.settled
  have hrecord (h0 : record.head? = some 0) := live_write_tested (seq := seq) (table := 0x07) (i := b) h (by omega)
    (writeBay_record hba hlen (hform h0)) h.settled
  have hclear (h1 : record.head? = some 1) := live_request_tested (kind := Kind.mgWrite) (seq := seq)
    (payload := 0x07 :: b :: record) h rfl (by simp [hlen]) (writeBay_clear hba hlen (hform h1)) h.settled
  refine ⟨fun hu => hcused (hused.mpr hu), fun hu => hcdone (mt hused.mp hu), fun h0 hv => ?_, fun h0 hv hu => ?_,
    fun h0 hv hu => ?_, fun h1 hu => ?_, fun h1 hu => ?_, fun ⟨m, hm, hgt⟩ => ?_⟩
  · exact (hrecord h0).1 (mt hvalid.mp hv)
  · exact (hrecord h0).2.1 (not_not.mpr (hvalid.mpr hv)) (hused.mpr hu)
  · exact (hrecord h0).2.2 (not_not.mpr (hvalid.mpr hv)) (mt hused.mp hu)
  · exact (hclear h1).1 (hused.mpr hu)
  · exact (hclear h1).2 (mt hused.mp hu)
  · exact live_write_refused h (by omega) (writeBay_formless hba hlen (hform hm ▸ hgt))

/-! Feed Queue entries retired and requeued (R118). -/

/-- A command on an index and a sequence of two bytes is its owner's, where the index is below the bound. -/
theorem indexed_sequence (s : State) (bound : Nat) (j : Byte) (q : BitVec 16) (owner : Nat → Nat → Answer) :
    indexed s bound 3 (j :: leBytes 2 q.toNat) (fun k => owner k (field (j :: leBytes 2 q.toNat) 1 2)) =
      if bound ≤ j.toNat then refuseRequest s .badIndex else owner j.toNat q.toNat := by
  have hq : field (j :: leBytes 2 q.toNat) 1 2 = q.toNat := by
    simpa [field, leBytes, leValue] using digits_two q.isLt
  rw [hq]
  simp [indexed, leBytes]

theorem carryOut_retire (s t : State) (src seq j : Byte) (q : BitVec 16) :
    carryOut t (s.requestFrame Kind.mgCommand src seq (0x08 :: j :: leBytes 2 q.toNat)) =
      if 6 ≤ j.toNat then refuseRequest t .badIndex else commandRetire t j.toNat q.toNat := by
  have h : carryOut t (s.requestFrame Kind.mgCommand src seq (0x08 :: j :: leBytes 2 q.toNat)) =
      indexed t 6 3 (j :: leBytes 2 q.toNat) fun k => commandRetire t k (field (j :: leBytes 2 q.toNat) 1 2) := rfl
  rw [h, indexed_sequence]

theorem carryOut_requeue (s t : State) (src seq j : Byte) (q : BitVec 16) :
    carryOut t (s.requestFrame Kind.mgCommand src seq (0x09 :: j :: leBytes 2 q.toNat)) =
      if 6 ≤ j.toNat then refuseRequest t .badIndex else commandRequeue t j.toNat q.toNat := by
  have h : carryOut t (s.requestFrame Kind.mgCommand src seq (0x09 :: j :: leBytes 2 q.toNat)) =
      indexed t 6 3 (j :: leBytes 2 q.toNat) fun k => commandRequeue t k (field (j :: leBytes 2 q.toNat) 1 2) := rfl
  rw [h, indexed_sequence]

theorem modSaw_eq {s : State} {j : Nat} {saw : Saw} (hs : s.saws[j]? = some saw) (f : Saw → Saw) :
    s.modSaw j f = s.withSaws (s.saws.set j (f saw)) := by
  rw [State.modSaw, List.modify_eq_set_getElem?, hs]
  rfl

/-- No entry of the saw's queue has the sequence. -/
theorem entry_none {s : State} {j q : Nat} {saw : Saw} (hs : s.saws[j]? = some saw)
    (h : ∀ e ∈ saw.queue, e.sequence ≠ q) : s.entry j q = none := by
  simpa [State.entry, hs] using h

section
variable {s : State} {j q : Nat} {saw : Saw} {front back : List Entry} {e : Entry} (hs : s.saws[j]? = some saw)
  (hqueue : saw.queue = front ++ e :: back) (he : e.sequence = q) (hother : ∀ x ∈ front ++ back, x.sequence ≠ q)
include hs hqueue he hother

/-- The entry of a sequence that no other entry of the queue has. -/
theorem entry_some : s.entry j q = some e := by
  have hfront : front.find? (·.sequence == q) = none :=
    List.find?_eq_none.mpr fun x hx => by simpa using hother x (List.mem_append_left _ hx)
  simp [State.entry, hs, hqueue, List.find?_append, hfront, he]

/-- The entries behind the one removed move up (R118). -/
theorem removeEntry_eq : s.removeEntry j q = s.withSaws (s.saws.set j { saw with queue := front ++ back }) := by
  have hkept : (front ++ back).filter (fun x => x.sequence != q) = front ++ back :=
    List.filter_eq_self.mpr fun x hx => by simpa using hother x hx
  rw [State.removeEntry, modSaw_eq hs, hqueue, ← hkept]
  simp [he]

/-- Of the queue one entry is changed, in its place (R116). -/
theorem modEntry_eq (f : Entry → Entry) :
    s.modEntry j q f = s.withSaws (s.saws.set j { saw with queue := front ++ f e :: back }) := by
  have hkept (l : List Entry) (hl : ∀ x ∈ l, x ∈ front ++ back) :
      (l.map fun x => if x.sequence = q then f x else x) = l :=
    (List.map_congr_left fun x hx => if_neg (hother x (hl x hx))).trans l.map_id
  rw [State.modEntry, modSaw_eq hs, hqueue, List.map_append, List.map_cons, if_pos he,
    hkept front fun x hx => List.mem_append_left _ hx, hkept back fun x hx => List.mem_append_right _ hx]

theorem commandRetire_eq :
    commandRetire s j q =
      if e.state = .picked then refuseRequest s .state
      else accept (s.withSaws (s.saws.set j { saw with queue := front ++ back })) := by
  simp only [commandRetire, hs, entry_some hs hqueue he hother, removeEntry_eq hs hqueue he hother]

theorem commandRequeue_eq :
    commandRequeue s j q =
      if ¬e.state = .faulted then refuseRequest s .state
      else accept (s.withSaws (s.saws.set j { saw with queue := front ++ e.queue :: back })) := by
  simp only [commandRequeue, hs, entry_some hs hqueue he hother, modEntry_eq hs hqueue he hother, ite_not]

end

/-- Settles O49: the entry of the sequence, found in its queue, is taken out or put back to QUEUED by its state. -/
theorem entriesRetiredAndRequeued : Obligations.EntriesRetiredAndRequeued := by
  unfold Obligations.EntriesRetiredAndRequeued
  intro s src seq j q h
  have hlen (code : Byte) : (code :: j :: leBytes 2 q.toNat).length ≤ 48 := by simp [leBytes]
  refine ⟨fun hj => ⟨?_, ?_⟩, fun saw hj hs => ⟨fun hnone => ⟨?_, ?_⟩, fun front back e hqueue he hother => ?_⟩⟩
  · exact live_request_unchanged h rfl (hlen _) ((carryOut_retire ..).trans (if_pos hj))
  · exact live_request_unchanged h rfl (hlen _) ((carryOut_requeue ..).trans (if_pos hj))
  · refine live_request_unchanged h rfl (hlen _) ((carryOut_retire ..).trans ((if_neg (by omega)).trans ?_))
    simp only [commandRetire, show s.arrived.saws[j.toNat]? = some saw from hs, entry_none (s := s.arrived) hs hnone]
    rfl
  · refine live_request_unchanged h rfl (hlen _) ((carryOut_requeue ..).trans ((if_neg (by omega)).trans ?_))
    simp only [commandRequeue, show s.arrived.saws[j.toNat]? = some saw from hs, entry_none (s := s.arrived) hs hnone]
    rfl
  intro become
  have hsa : s.arrived.saws[j.toNat]? = some saw := hs
  obtain ⟨hpicked, hretired⟩ := live_request_tested h rfl (hlen _) ((carryOut_retire s s.arrived src seq j q).trans
    ((if_neg (by omega)).trans (commandRetire_eq hsa hqueue he hother))) h.settled
  obtain ⟨hunfaulted, hqueued⟩ := live_request_tested h rfl (hlen _) ((carryOut_requeue s s.arrived src seq j q).trans
    ((if_neg (by omega)).trans (commandRequeue_eq hsa hqueue he hother))) h.settled
  exact ⟨hpicked, hretired, fun hf => hqueued (not_not.mpr hf), hunfaulted⟩

/-! Feed Queue entries appended (R115). -/

/-- The fields that R114 allows of an entry. -/
theorem entryInRange_iff {b : List Byte} :
    (parseEntry b).inRange = true ↔
      ¬(field b 2 2 = 0 ∨ field b 4 2 < 100 ∨ 5600 < field b 4 2 ∨ field b 6 2 < 100 ∨ 2200 < field b 6 2 ∨
          field b 8 2 < 30 ∨ 1000 < field b 8 2 ∨ (field b 10 1 ≠ 255 ∧ 23 < field b 10 1)) := by
  by_cases hb : field b 10 1 = 255
  · simp only [Entry.inRange, parseEntry, if_pos hb, Bool.and_eq_true, decide_eq_true_eq, and_true]
    omega
  · simp only [Entry.inRange, parseEntry, if_neg hb, Bool.and_eq_true, decide_eq_true_eq]
    omega

theorem writeQueue_missing {s : State} {i : Nat} (hs : s.saws[i]? = none) (b : List Byte) :
    writeQueue s i b = refuseRequest s .badIndex := by
  simp [writeQueue, hs]

theorem writeQueue_eq {s : State} {i : Nat} {saw : Saw} {b : List Byte} (hs : s.saws[i]? = some saw)
    (hb : b.length = 11) :
    writeQueue s i b =
      if ¬(parseEntry b).inRange = true then refuseRequest s .badField
      else if 32 ≤ saw.queue.length then refuseRequest s .full
      else if saw.queue.getLast?.any (fun tail => (parseEntry b).sequence ≤ tail.sequence) = true then
        refuseRequest s .order
      else accept (s.withSaws (s.saws.set i { saw with queue := saw.queue ++ [parseEntry b] })) := by
  simp [writeQueue, hs, hb, modSaw_eq hs, Config.feedRoom]

/-- Settles O54: an append by its tests in order. -/
theorem entryAppended : Obligations.EntryAppended := by
  unfold Obligations.EntryAppended
  intro s src seq j record h hsaws hlen run material length width thickness bay bad e
  have hgood : (parseEntry record).inRange = true ↔ ¬bad := entryInRange_iff
  refine ⟨fun hj => ?_, fun saw hs => ?_⟩
  · exact live_write_refused h (by omega)
      (writeQueue_missing (s := s.arrived) (List.getElem?_eq_none (hsaws.le.trans hj)) record)
  have hw : writeTable s.arrived (0x08 : Byte).toNat j.toNat record = _ := writeQueue_eq hs hlen
  have horder : saw.queue.getLast?.any (fun tail => (parseEntry record).sequence ≤ tail.sequence) = true ↔
      ∃ tail, saw.queue.getLast? = some tail ∧ e.sequence ≤ tail.sequence := by
    simp only [Option.any_eq_true, decide_eq_true_eq]
    rfl
  have hrun (hb : ¬bad) := live_write_tested (seq := seq) h (by omega)
    (hw.trans (if_neg (not_not.mpr (hgood.mpr hb)))) h.settled
  refine ⟨fun hb => ?_, fun hb hfull => (hrun hb).1 hfull, fun hb hroom ht => ?_, fun hb hroom ht => ?_⟩
  · exact live_write_refused h (by omega) (hw.trans (if_pos fun hg => hgood.mp hg hb))
  · exact (hrun hb).2.1 (Nat.not_le.mpr hroom) (horder.mpr ht)
  · refine (hrun hb).2.2 (Nat.not_le.mpr hroom) fun ho => ?_
    obtain ⟨tail, hl, hle⟩ := horder.mp ho
    exact absurd (ht tail hl) (Nat.not_lt.mpr hle)

end Sys2Proof.Machine
end
